-- ==== Sys2Proof/Word.lean ====
section
/-! DEFINITION. The plain words and numbered things of the Ustamor 620: the byte of a frame, the numbers of positions,
antennas, bands, segments, links and rules (each counted from 0 where the spec counts from 1), and the sets that the
spec carries as bits (R176). -/

namespace Sys2Proof

/-- One data byte of a frame (Chapter 11). -/
abbrev Byte := BitVec 8

/-- Position `P(k+1)`. -/
abbrev Pos := Fin 6

/-- Antenna `A(k+1)`. -/
abbrev Ant := Fin 20

/-- Band `B(k+1)`. -/
abbrev Band := Fin 6

/-- Segment `Sk`. -/
abbrev Seg := Fin 16

/-- Link `L(k+1)`: the first six are the position links, the seventh is the station link. -/
abbrev Link := Fin 7

/-- Interlock rule `Ik`. -/
abbrev RuleIx := Fin 8

/-- A set of positions; bit `k` stands for `P(k+1)` (R176). -/
abbrev PosSet := BitVec 6

/-- A set of bands; bit `k` stands for `B(k+1)` (R176). -/
abbrev BandSet := BitVec 6

/-- A set of antennas; bit `k` stands for `A(k+1)` (R176). -/
abbrev AntSet := BitVec 20

/-- The six positions, P1 first. -/
def allPos : List Pos := [0, 1, 2, 3, 4, 5]

/-- The six bands, B1 first. -/
def allBands : List Band := [0, 1, 2, 3, 4, 5]

/-- The sixteen segments, S0 first. -/
def allSegs : List Seg := [0, 1, 2, 3, 4, 5, 6, 7, 8, 9, 10, 11, 12, 13, 14, 15]

/-- The twenty antennas, A1 first. -/
def allAnts : List Ant :=
  [0, 1, 2, 3, 4, 5, 6, 7, 8, 9, 10, 11, 12, 13, 14, 15, 16, 17, 18, 19]

/-- The seven links, L1 first. -/
def allLinks : List Link := [0, 1, 2, 3, 4, 5, 6]

/-- The eight interlock rules, I0 first. -/
def allRules : List RuleIx := [0, 1, 2, 3, 4, 5, 6, 7]

/-- The position link that serves a position. -/
def linkOf (p : Pos) : Link := p.castSucc

/-- The station link L7. -/
def stationLink : Link := 6

end Sys2Proof
end

