-- ==== Sys2Proof/Config.lean ====
section
/-! DEFINITION. What is fixed for every unit: the band table, the fixed durations and list lengths of the chapters, and
the values that the spec leaves open (opaque constants: nothing in Lean can evaluate them). -/

namespace Sys2Proof.Config

/-- Low edge of a band in hertz (00_scope.md, table of bands). -/
def bandLow (b : Band) : Nat :=
  match b with
  | 0 => 1800000 | 1 => 3500000 | 2 => 7000000 | 3 => 14000000 | 4 => 21000000 | 5 => 28000000

/-- High edge of a band in hertz (00_scope.md, table of bands). -/
def bandHigh (b : Band) : Nat :=
  match b with
  | 0 => 2000000 | 1 => 4000000 | 2 => 7300000 | 3 => 14350000 | 4 => 21450000 | 5 => 29700000

/-- Span of a band in hertz (00_scope.md). -/
def bandSpan (b : Band) : Nat := bandHigh b - bandLow b

/-- A sample history holds at most three samples (R1). -/
def historyLength : Nat := 3

/-- Continuous disagreement, in ms, that raises a KEY-LINE fault (R12). -/
def keyWatchTime : Nat := 5

/-- Continuous disagreement, in ms, that raises a RELAY fault by the watch (R109). -/
def relayWatchTime : Nat := 5

/-- The release delay in ms (R115). -/
def releaseDelay : Nat := 100

/-- The least length in ms of the release opening (R115). -/
def releaseOpeningLeast : Nat := 10

/-- The time in ms that a filter switch takes (R114). -/
def filterSwitchTime : Nat := 10

/-- The gap in ms at which a frame in assembly is dropped (R167). -/
def frameGap : Nat := 20

/-- The largest number of frames in a transmit queue (R170). -/
def queueLength : Nat := 8

/-- The largest number of body characters of a frame (R167). -/
def bodyLength : Nat := 24

/-- The value at which each link counter stays (R172). -/
def counterTop : Nat := 65535

/-- The number of change sets that may be in progress at once (R104). -/
def inProgressMost : Nat := 2

/-- FREE VALUE (log entry 30): how many bytes of the copy the store had taken when a save was cut off (R180 gives only
that the check is bad). -/
opaque cutPoint : Nat → Nat

/-- FREE VALUE (log entry 30): which of the 255 disagreeing check bytes the store holds while it reads bad (R180 gives
only that the byte does not agree with the contents). -/
opaque badCheck : Nat → Fin 255

/-- FREE VALUE (log entry 47): whether the expiry of a yield timer that falls together with a fault event of its antenna is
taken first (R84 lets allocation take either first). -/
opaque expiryFirst : Nat → Bool

end Sys2Proof.Config
end

