-- ==== Sys2Proof/Syntax.lean ====
section
/-! DEFINITION. The commands of the unit: one constructor of `Instr` for each row of spec/opcode_table.json, with the
operands that the rules of the row name (log entry 7). -/

namespace Sys2Proof

/-- A side of a position's segments (R24). -/
inductive Side where
  | tx | rx
  deriving DecidableEq, Repr

/-- A slot of a position's holding record (R51); also the kind of a wait entry (R50). -/
inductive Slot where
  | main | listen
  deriving DecidableEq, Repr

/-- The slots that a CANCEL names (R63, Table 11.3). -/
inductive CancelSlot where
  | main | listen | both
  deriving DecidableEq, Repr

/-- The samples that the receiver votes on in one character (R165): samples 2, 4 and 6 of the start bit, samples 6, 8
and 10 of each data bit (least significant first), of the mark bit and of the stop bit. -/
structure CharSamples where
  start : BitVec 3
  data : Vector (BitVec 3) 8
  mark : BitVec 3
  stop : BitVec 3
  deriving DecidableEq, Repr

/-- The levels of one position's lines at a sample (R1, R12): PTT, RFS, the band code with BD0 its least significant
bit, and the level sensed on KEY. -/
structure PosSample where
  ptt : Bool
  rfs : Bool
  code : BitVec 4
  key : Bool
  deriving DecidableEq, Repr

/-- The levels of every sampled line at one sampling instant (R1). -/
structure Sample where
  edit : Bool
  reset : Bool
  pos : Vector PosSample 6
  deriving DecidableEq, Repr

/-- The fields of item 1, the antenna record, as carried (R176). -/
structure AntennaFields where
  present : Byte
  bands : Byte
  role : Byte
  capacity : Byte
  switchTime : Byte
  group : Byte
  deriving DecidableEq, Repr

/-- The fields of item 2, the segment map entry, as carried (R176). -/
structure MapFields where
  kind : Byte
  txSet : BitVec 24
  rxSet : BitVec 24
  deriving DecidableEq, Repr

/-- The fields of item 3, the preference list, as carried (R176). -/
structure PrefFields where
  count : Byte
  a1 : Byte
  a2 : Byte
  a3 : Byte
  a4 : Byte
  deriving DecidableEq, Repr

/-- The fields of item 4, the position settings, as carried (R176). -/
structure PosFields where
  mode : Byte
  cls : Byte
  follow : Byte
  filterMode : Byte
  installed : Byte
  bandSettle : Byte
  freshness : Byte
  dwell : BitVec 16
  ampSettle : Byte
  tail : Byte
  keyLimit : BitVec 16
  deriving DecidableEq, Repr

/-- The fields of item 5, the band settings, as carried (R176). -/
structure BandFields where
  limit : Byte
  defaultSeg : Byte
  policy : Byte
  guardBase : BitVec 16
  deriving DecidableEq, Repr

/-- The fields of item 6, the station settings, as carried (R176). -/
structure StationFields where
  stationLimit : Byte
  protectLimit : Byte
  waitLimit : BitVec 16
  yieldTime : BitVec 16
  deriving DecidableEq, Repr

/-- The fields of item 7, the interlock rule, as carried (R176). -/
structure RuleFields where
  enabled : Byte
  keyerPos : Byte
  keyerBands : Byte
  candPos : Byte
  candBands : Byte
  inverse : Byte
  andPrevious : Byte
  action : Byte
  deriving DecidableEq, Repr

/-- The commands, in the order of spec/opcode_table.json. A request row names the position or link it comes in on;
a numbered field of a request is the byte that was sent, so that an out-of-range number can be answered (R169). -/
inductive Instr where
  /-- POWER_ON -/
  | powerOn
  /-- RESET_EVENT -/
  | resetEvent
  /-- RESET_RELEASE -/
  | resetRelease
  /-- PTT_CHANGE of a position -/
  | pttChange (p : Pos)
  /-- RFS_CHANGE of a position -/
  | rfsChange (p : Pos)
  /-- EDIT_CHANGE -/
  | editChange
  /-- BAND_CODE_EVENT of a position -/
  | bandCodeEvent (p : Pos)
  /-- KEY_LINE_FAULT of a position -/
  | keyLineFault (p : Pos)
  /-- FREQ from a position: RX frequency and optional TX frequency in hertz -/
  | freq (p : Pos) (rx : BitVec 32) (tx : Option (BitVec 32))
  /-- FRESHNESS_EXPIRY of a position -/
  | freshnessExpiry (p : Pos)
  /-- DWELL_EXPIRY of one side of a position -/
  | dwellExpiry (p : Pos) (side : Side)
  /-- SELECT_MAIN from a position: antenna byte and no-wait flag -/
  | selectMain (p : Pos) (antenna : Byte) (noWait : Bool)
  /-- SELECT_LISTEN from a position: antenna byte and no-wait flag -/
  | selectListen (p : Pos) (antenna : Byte) (noWait : Bool)
  /-- DROP_MAIN from a position -/
  | dropMain (p : Pos)
  /-- DROP_LISTEN from a position -/
  | dropListen (p : Pos)
  /-- CANCEL from a position -/
  | cancel (p : Pos) (slot : CancelSlot)
  /-- WAIT_EXPIRY of a position's entry in an antenna's wait queue -/
  | waitExpiry (a : Ant) (p : Pos)
  /-- YIELD_EXPIRY of an antenna's yield timer -/
  | yieldExpiry (a : Ant)
  /-- CHANGE_SET_START -/
  | changeSetStart
  /-- OPENING_PHASE_END of the change set in progress of a position -/
  | openingPhaseEnd (p : Pos)
  /-- CLOSING_PHASE_START of the change set in progress of a position -/
  | closingPhaseStart (p : Pos)
  /-- CLOSING_PHASE_END of the change set in progress of a position -/
  | closingPhaseEnd (p : Pos)
  /-- CROSSPOINT_WATCH_FAULT of a crosspoint -/
  | crosspointWatchFault (p : Pos) (a : Ant)
  /-- CONTACT_SENSE_CHANGE of a crosspoint: the level now sensed -/
  | contactSenseChange (p : Pos) (a : Ant) (closed : Bool)
  /-- FAULT_CLEAR from the station link: antenna byte -/
  | faultClear (antenna : Byte)
  /-- FILTER_SWITCH_BEGIN of a position -/
  | filterSwitchBegin (p : Pos)
  /-- FILTER_SWITCH_END of a position -/
  | filterSwitchEnd (p : Pos)
  /-- RELEASE_DELAY_EXPIRY -/
  | releaseDelayExpiry
  /-- RELEASE_OPENING_END -/
  | releaseOpeningEnd
  /-- AMPLIFIER_SETTLE_EXPIRY of a position -/
  | amplifierSettleExpiry (p : Pos)
  /-- KEY_TIME_LIMIT_EXPIRY of a position -/
  | keyTimeLimitExpiry (p : Pos)
  /-- TAIL_END of a position -/
  | tailEnd (p : Pos)
  /-- CLEAR from a position -/
  | clear (p : Pos)
  /-- PROTECT from a position: set or clear -/
  | protect (p : Pos) (on : Bool)
  /-- FRAMING_ERROR on a link -/
  | framingError (l : Link)
  /-- FRAME_GAP_TIMEOUT on a link -/
  | frameGapTimeout (l : Link)
  /-- FRAME_RECEIVED on a link: the check character -/
  | frameReceived (l : Link) (c : CharSamples)
  /-- FRAME_TAKEN on a link -/
  | frameTaken (l : Link)
  /-- FRAME_SENT on a link -/
  | frameSent (l : Link)
  /-- DIVISOR_APPLIED on a link -/
  | divisorApplied (l : Link)
  /-- MONITOR from the station link -/
  | monitor (on : Bool)
  /-- QUERY_POSITION on a link: position byte and page -/
  | queryPosition (l : Link) (position : Byte) (page : Byte)
  /-- QUERY_ANTENNA on a link: antenna byte and page -/
  | queryAntenna (l : Link) (antenna : Byte) (page : Byte)
  /-- QUERY_LINK on a link: link byte -/
  | queryLink (l : Link) (number : Byte)
  /-- STATUS from the station link: page -/
  | status (page : Byte)
  /-- CONFIG_READ from the station link: the body, item code first -/
  | configRead (body : List Byte)
  /-- WRITE_ANTENNA_RECORD: index byte and fields -/
  | writeAntennaRecord (antenna : Byte) (f : AntennaFields)
  /-- WRITE_SEGMENT_MAP_ENTRY: index bytes and fields -/
  | writeSegmentMapEntry (band : Byte) (seg : Byte) (f : MapFields)
  /-- WRITE_PREFERENCE_LIST: index bytes and fields -/
  | writePreferenceList (position : Byte) (band : Byte) (slot : Byte) (f : PrefFields)
  /-- WRITE_POSITION_SETTINGS: index byte and fields -/
  | writePositionSettings (position : Byte) (f : PosFields)
  /-- WRITE_BAND_SETTINGS: index byte and fields -/
  | writeBandSettings (band : Byte) (f : BandFields)
  /-- WRITE_STATION_SETTINGS: index byte and fields -/
  | writeStationSettings (index : Byte) (f : StationFields)
  /-- WRITE_INTERLOCK_RULE: index byte and fields -/
  | writeInterlockRule (rule : Byte) (f : RuleFields)
  /-- WRITE_LINK_DIVISOR: index byte and divisor -/
  | writeLinkDivisor (link : Byte) (divisor : Byte)
  /-- SAVE from the station link -/
  | save
  /-- SAVE_END -/
  | saveEnd
  /-- RESTART from the station link -/
  | restart
  /-- SAMPLING_INSTANT: the levels of the sampled lines -/
  | samplingInstant (x : Sample)
  /-- CHARACTER_RECEIVED on a link -/
  | characterReceived (l : Link) (c : CharSamples)
  /-- LOSS_OF_POWER -/
  | lossOfPower
  deriving DecidableEq, Repr

end Sys2Proof
end

