-- ==== Sys2Proof/Decode.lean ====
section
/-! DEFINITION. The words that spell commands, and what the receiver reads from the samples of a character.
spec/opcode_table.json gives no row any bits, so no word spells a command (log entry 6). -/

namespace Sys2Proof

/-- The command that a word spells by the table's bits: none, since the table gives no row any. -/
def decodeTableWord (_nbits _w : Nat) : Option Instr := none

/-- The majority of three voting samples (R165). -/
def vote (v : BitVec 3) : Bool :=
  (v.getLsbD 0 && v.getLsbD 1) || (v.getLsbD 0 && v.getLsbD 2) || (v.getLsbD 1 && v.getLsbD 2)

/-- The start of a character is confirmed when its samples vote zero (R165). -/
def CharSamples.started (c : CharSamples) : Bool := !vote c.start

/-- The stop bit of a character reads one (R165, R166). -/
def CharSamples.stopped (c : CharSamples) : Bool := vote c.stop

/-- The mark bit of a character (R164). -/
def CharSamples.marked (c : CharSamples) : Bool := vote c.mark

/-- The data byte of a character: each bit the vote of its samples, least significant first (R164, R165). -/
def CharSamples.byte (c : CharSamples) : Byte :=
  BitVec.ofNat 8 ((vote c.data[0]).toNat + 2 * (vote c.data[1]).toNat + 4 * (vote c.data[2]).toNat
    + 8 * (vote c.data[3]).toNat + 16 * (vote c.data[4]).toNat + 32 * (vote c.data[5]).toNat
    + 64 * (vote c.data[6]).toNat + 128 * (vote c.data[7]).toNat)

/-- The three samples of a bit agree. -/
def unanimous (v : BitVec 3) : Bool := v == 0#3 || v == 7#3

/-- Some voting sample of some bit of the character, the start bit included, disagreed with the other two (R165). -/
def CharSamples.noisy (c : CharSamples) : Bool :=
  !(unanimous c.start && c.data.toList.all unanimous && unanimous c.mark && unanimous c.stop)

end Sys2Proof
end

