-- ==== Sys2Proof/Machine/State.lean ====
section
/-! DEFINITION. The state of the unit, block by block (00_scope.md, "Blocks of the unit"), the working configuration,
the reasons a step can stop, and the state right after power-on. A timer is held as the time at which it started,
counted in milliseconds on the unit's time base `now` (log entry 1). -/

namespace Sys2Proof.Machine

/-! ## Working configuration (Chapter 12, R176) -/

/-- Role of an antenna (R34). -/
inductive Role where
  | txrx | rxonly
  deriving DecidableEq, Repr

/-- An antenna record (R31). -/
structure AntennaRecord where
  present : Bool
  bands : BandSet
  role : Role
  capacity : Nat
  switchTime : Nat
  group : Nat
  deriving DecidableEq, Repr

/-- Kind of a segment map entry (R38). -/
inductive SegKind where
  | transmit | listen | solo
  deriving DecidableEq, Repr

/-- A segment map entry (R38). -/
structure MapEntry where
  kind : SegKind
  txSet : AntSet
  rxSet : AntSet
  deriving DecidableEq, Repr

/-- The two preference lists of a position for one band, most preferred first (R88). -/
structure PrefLists where
  main : List Ant
  listen : List Ant
  deriving DecidableEq, Repr

/-- Class of a position (00_scope.md). -/
inductive PosClass where
  | run | mult
  deriving DecidableEq, Repr

/-- Position settings (R176, item 4). Times in the units of the item table. -/
structure PosSettings where
  parked : Bool
  cls : PosClass
  follow : Bool
  filterThru : Bool
  installed : BandSet
  bandSettle : Nat
  freshness : Nat
  dwell : Nat
  ampSettle : Nat
  tail : Nat
  keyLimit : Nat
  deriving DecidableEq, Repr

/-- Receiver-protection policy of a band (R152). -/
inductive Policy where
  | ignore | blank | hold
  deriving DecidableEq, Repr

/-- Band settings (R176, item 5). -/
structure BandSettings where
  limit : Nat
  defaultSeg : Seg
  policy : Policy
  guardBase : Nat
  deriving DecidableEq, Repr

/-- Station settings (R176, item 6); the two times are in seconds. -/
structure StationSettings where
  stationLimit : Nat
  protectLimit : Nat
  waitLimit : Nat
  yieldTime : Nat
  deriving DecidableEq, Repr

/-- Action of an interlock rule (R141). -/
inductive RuleAction where
  | deny | link
  deriving DecidableEq, Repr

/-- An interlock rule (R141). -/
structure Rule where
  enabled : Bool
  keyerPos : PosSet
  keyerBands : BandSet
  candPos : PosSet
  candBands : BandSet
  inverse : Bool
  andPrevious : Bool
  action : RuleAction
  deriving DecidableEq, Repr

/-- The working configuration. -/
structure Cfg where
  ants : Vector AntennaRecord 20
  segMap : Vector (Vector MapEntry 16) 6
  prefs : Vector (Vector PrefLists 6) 6
  pos : Vector PosSettings 6
  bands : Vector BandSettings 6
  station : StationSettings
  rules : Vector Rule 8
  divisors : Vector Nat 7
  deriving DecidableEq, Repr

/-- Factory defaults of every item (R46, R99, R141, R164, R176). -/
def Cfg.factory : Cfg where
  ants := Vector.replicate 20 ⟨false, 0, .txrx, 1, 20, 0⟩
  segMap := Vector.replicate 6 (Vector.replicate 16 ⟨.transmit, 0, 0⟩)
  prefs := Vector.replicate 6 (Vector.replicate 6 ⟨[], []⟩)
  pos := Vector.replicate 6 ⟨true, .mult, true, false, 0, 50, 10, 1000, 25, 20, 180⟩
  bands := Vector.replicate 6 ⟨1, 0, .blank, 2000⟩
  station := ⟨2, 1, 0, 60⟩
  rules := Vector.replicate 8 ⟨false, 0, 0, 0, 0, false, false, .deny⟩
  divisors := Vector.replicate 7 6

/-- The nonvolatile store and the configuration unit's live state about it (R180, R183). -/
structure StoreUnit where
  image : List Byte
  check : Byte
  /-- Store state: GOOD or BAD. -/
  good : Bool
  /-- The copy being saved while the save state is SAVING. -/
  copy : Option (List Byte)
  unsaved : Bool
  deriving DecidableEq, Repr

/-! ## Line sampler (Chapter 1) -/

/-- Accepted value of a two-level line (R1). -/
inductive Accepted where
  | unknown | inactive | active
  deriving DecidableEq, Repr

/-- A two-level line: its accepted value and its sample history, newest last, true for active (R1). -/
structure Line where
  accepted : Accepted
  history : List Bool
  deriving DecidableEq, Repr

/-- A settle candidate (R1, R5). `ripe` records that a sample found the band settle time run out (R6, R7). -/
structure Candidate where
  code : BitVec 4
  start : Nat
  ripe : Bool
  deriving DecidableEq, Repr

/-- The sampler section of one position. -/
structure PosLines where
  ptt : Line
  rfs : Line
  /-- Accepted band code; none is UNKNOWN. -/
  code : Option (BitVec 4)
  candidate : Option Candidate
  /-- Level sensed on the KEY line at the last sample (R12). -/
  keySensed : Bool
  /-- Start of the KEY readback watch, while there is one (R12). -/
  keyWatch : Option Nat
  deriving DecidableEq, Repr

/-- The line sampler's station section and its position sections. -/
structure Sampler where
  edit : Line
  reset : Line
  pos : Vector PosLines 6
  deriving DecidableEq, Repr

/-- The commanded levels of one position's outputs (R10): true is KEY, AMP or BLK active and INH asserted. -/
structure Outputs where
  key : Bool
  amp : Bool
  inh : Bool
  blk : Bool
  deriving DecidableEq, Repr

/-- The outputs of a position (R10). -/
inductive OutLine where
  | key | amp | inh | blk
  deriving DecidableEq, Repr

/-- The state of an output's open-drain driver (R10): it pulls the line to ground, or leaves it to the pull-up in the
connected equipment. -/
inductive DriverState where
  | conducting | released
  deriving DecidableEq, Repr

/-! ## Band unit (Chapter 2) -/

/-- The lines band (R14). -/
inductive LinesBand where
  | unknown
  | none
  | band (b : Band)
  | invalid
  deriving DecidableEq, Repr

/-- The band state (R14). -/
inductive BandState where
  | none
  | valid (b : Band)
  | invalid
  | mismatch (b : Band)
  deriving DecidableEq, Repr

/-- A running freshness timer: its start and the freshness time, in ms, that it runs toward (R20, R21). -/
structure FreshTimer where
  start : Nat
  limit : Nat
  deriving DecidableEq, Repr

/-- A held frequency report (R20). `band` none is OUT; `fresh` none is stale, with the timer stopped (R21). -/
structure Report where
  rx : Nat
  tx : Option Nat
  band : Option Band
  fresh : Option FreshTimer
  deriving DecidableEq, Repr

/-- The state of one band unit (Chapter 2, first table). -/
structure BandUnit where
  lines : LinesBand
  state : BandState
  report : Option Report
  curTx : Option Seg
  curRx : Option Seg
  setTx : Option Seg
  setRx : Option Seg
  dwellTx : Option Nat
  dwellRx : Option Nat
  deriving DecidableEq, Repr

/-! ## Allocation unit (Chapters 4 to 6) -/

/-- Switch state of a holding (R51). -/
inductive SwitchState where
  | awaiting | switching | set
  deriving DecidableEq, Repr

/-- Origin of a wait entry or a grant (R50, R52). -/
inductive Origin where
  | operator | follow
  deriving DecidableEq, Repr

/-- A main or listen holding (R51), with the origin that its GRANTED notice carries (R52). `faulted` records that its
antenna has had a fault event since the grant, after which it does not go to SET (R108, log entry 25). -/
structure Holding where
  ant : Ant
  sw : SwitchState
  origin : Origin
  faulted : Bool
  deriving DecidableEq, Repr

/-- A deferred mark and its cause (R70). A FAULT mark names the antenna lost (log entry 21). -/
inductive Mark where
  | band
  | segment
  | fault (a : Ant)
  | edit
  deriving DecidableEq, Repr

/-- The holding record of a position (R51). -/
structure HoldRecord where
  main : Option Holding
  listen : Option Holding
  pendMain : Option Ant
  pendListen : Option Ant
  markMain : Option Mark
  markListen : Option Mark
  deriving DecidableEq, Repr

/-- A wait entry (R50); `since` is when it was appended (R74). -/
structure WaitEntry where
  pos : Pos
  kind : Slot
  origin : Origin
  since : Nat
  deriving DecidableEq, Repr

/-- The yield timer of an antenna (R77), with the holder and head main-waiter that it counts for (R79). While RUNNING
it had counted `counted` ms at the time `since`. -/
inductive Yield where
  | stopped
  | running (h w : Pos) (counted since : Nat)
  | holding (h w : Pos) (counted : Nat)
  deriving DecidableEq, Repr

/-- The allocation record of an antenna (R48). The switch states stand in the holding records (R51). -/
structure AllocRecord where
  holder : Option Pos
  listeners : List Pos
  queue : List WaitEntry
  yieldT : Yield
  deriving DecidableEq, Repr

/-! ## Crosspoint driver (Chapter 7) -/

/-- Commanded state of a crosspoint (R101). -/
inductive XpState where
  | opened | main | listen
  deriving DecidableEq, Repr

/-- A crosspoint: its commanded state, its sensed state and the start of its watch (R101, R109). -/
structure Crosspoint where
  cmd : XpState
  closed : Bool
  watch : Option Nat
  deriving DecidableEq, Repr

/-- One target of a change set: the state that a position's crosspoint on an antenna is to take (R103). -/
structure Target where
  ant : Ant
  goal : XpState
  deriving DecidableEq, Repr

/-- An entry of the switch pending list (R103). -/
structure PendEntry where
  pos : Pos
  targets : List Target
  deriving DecidableEq, Repr

/-- Phase of a change set in progress; a running phase holds the time of its end (R106). -/
inductive Phase where
  | opening (endsAt : Nat)
  | waiting
  | closing (endsAt : Nat)
  deriving DecidableEq, Repr

/-- A crosspoint commanded OPEN in an opening phase, and whether it was commanded MAIN before (R104, R106). -/
structure OpenedXp where
  ant : Ant
  fromMain : Bool
  deriving DecidableEq, Repr

/-- A change set in progress (R106). -/
structure ChangeSet where
  pos : Pos
  targets : List Target
  phase : Phase
  opens : List OpenedXp
  deriving DecidableEq, Repr

/-- Filter switch state (R113, R114). -/
inductive FilterSwitch where
  | idle
  | pending
  | switching (since : Nat)
  deriving DecidableEq, Repr

/-- Filter state of a position; a filter is the band of F1 to F6, none is THRU (R113). -/
structure FilterState where
  selected : Option Band
  commanded : Option Band
  sw : FilterSwitch
  deriving DecidableEq, Repr

/-- Release state (R115). -/
inductive Release where
  | none
  | delay (since : Nat)
  | opening (endsAt : Nat)
  deriving DecidableEq, Repr

/-- The crosspoint driver. `xps` is indexed by position and then antenna. -/
structure Driver where
  xps : Vector (Vector Crosspoint 20) 6
  list : List PendEntry
  inProg : List ChangeSet
  faults : Vector Bool 20
  filters : Vector FilterState 6
  release : Release
  deriving DecidableEq, Repr

/-! ## Key sequencer (Chapter 8), interlock unit (Chapter 9), receiver protection (Chapter 10) -/

/-- Tail cause (R117). -/
inductive TailCause where
  | release | timeout | band | unsequenced
  deriving DecidableEq, Repr

/-- Lockout cause (R117, R128). -/
inductive LockCause where
  | unsequenced | rfHang | keyLine
  deriving DecidableEq, Repr

/-- State of a key sequencer with the parts of R117 that have content in it. -/
inductive SeqState where
  | idle
  | settling (since : Nat)
  | keyed (since : Nat)
  | tail (cause : TailCause) (pend : Option LockCause) (keyTime : Nat) (since : Nat)
  | denied
  | lockout (cause : LockCause)
  | parked
  deriving DecidableEq, Repr

/-- A key-span record (R135). -/
structure KeySpan where
  band : Band
  solo : Bool
  deriving DecidableEq, Repr

/-- Receiver protection of a position: the sources of its HARMONIC, COUPLED and SHARED pairs, and its protect flag
(R153, R160). -/
structure Protection where
  harmonic : PosSet
  coupled : PosSet
  shared : PosSet
  flag : Bool
  deriving DecidableEq, Repr

/-! ## Link unit (Chapter 11) -/

/-- A frame as the link unit holds it: kind code and body; length and check are composed from them (R167). -/
structure Frame where
  kind : BitVec 7
  body : List Byte
  deriving DecidableEq, Repr

/-- A frame in assembly (R167): header character, length once it has arrived, body characters so far, and the time of
the last character. -/
structure Assembly where
  header : Byte
  len : Option Nat
  body : List Byte
  lastAt : Nat
  deriving DecidableEq, Repr

/-- The state of one link. `sending` is none while the transmitter is idle; while it sends the head of the queue, it is
bit 7 of the header as sent (R170). -/
structure LinkState where
  hunting : Bool
  assembly : Option Assembly
  buffer : Option Frame
  queue : List Frame
  sending : Option Bool
  lost : Bool
  noise : Nat
  framing : Nat
  check : Nat
  overrun : Nat
  noticesLost : Nat
  /-- The rate divisor applied (R164). -/
  divisor : Nat
  deriving DecidableEq, Repr

/-! ## The unit -/

/-- The state of the unit. -/
structure State where
  /-- The unit has its supply (row LOSS_OF_POWER, log entry 9). -/
  powered : Bool
  /-- The time base in ms: the number of sampling instants since power-on (R1, log entry 1). -/
  now : Nat
  /-- The model's counter for free values (log entry 30). -/
  freeIx : Nat
  /-- Commands waiting, first in, first out. -/
  pending : List Instr
  cfg : Cfg
  store : StoreUnit
  sam : Sampler
  outs : Vector Outputs 6
  bands : Vector BandUnit 6
  alloc : Vector AllocRecord 20
  hold : Vector HoldRecord 6
  drv : Driver
  seqs : Vector SeqState 6
  /-- Key-span records (R135). -/
  spans : Vector (Option KeySpan) 6
  prot : Vector Protection 6
  links : Vector LinkState 7
  /-- The monitor switch (R171). -/
  monitor : Bool
  deriving DecidableEq, Repr

/-- Reasons for which the unit stops: none. Every rule of the spec gives its events an effect, so no command stops the
machine; this is safe, since nothing is claimed of a stop. -/
inductive Fault where
  deriving DecidableEq, Repr

/-- Reasons for which a command has no meaning. -/
inductive Refusal where
  /-- Raised by `exec` alone, for a row of the table that has no meaning yet; no arm raises it now. Safe: no claim
  about the hardware rests on a refused command. -/
  | notModelled (mnemonic : String)
  deriving DecidableEq, Repr

/-! ## Values after power-on -/

/-- A two-level line after a reset (R1). -/
def Line.fresh : Line := ⟨.unknown, []⟩

/-- A position's sampler section at power-on (R1, R12; sensed KEY: log entry 11). -/
def PosLines.initial : PosLines := ⟨Line.fresh, Line.fresh, none, none, false, none⟩

/-- The safe level of every output (R10, R11). -/
def Outputs.safe : Outputs := ⟨false, false, true, false⟩

/-- The reset state of a band unit (R29). -/
def BandUnit.initial : BandUnit := ⟨.unknown, .none, none, none, none, none, none, none, none⟩

/-- The reset state of an allocation record (R72). -/
def AllocRecord.initial : AllocRecord := ⟨none, [], [], .stopped⟩

/-- The reset state of a holding record (R72). -/
def HoldRecord.initial : HoldRecord := ⟨none, none, none, none, none, none⟩

/-- A crosspoint at power-on (R115; sensed state: log entry 11). -/
def Crosspoint.initial : Crosspoint := ⟨.opened, false, none⟩

/-- The crosspoint driver at power-on (R115). -/
def Driver.initial : Driver :=
  ⟨Vector.replicate 6 (Vector.replicate 20 Crosspoint.initial), [], [], Vector.replicate 20 false,
    Vector.replicate 6 ⟨none, none, .idle⟩, .none⟩

/-- Receiver protection after a reset (R162). -/
def Protection.initial : Protection := ⟨0, 0, 0, false⟩

/-- A link at power-on, running at a divisor (R174). -/
def LinkState.initial (divisor : Nat) : LinkState :=
  ⟨true, none, none, [], none, false, 0, 0, 0, 0, 0, divisor⟩

/-- The store of a unit that has never saved: it reads bad (log entry 5). -/
def StoreUnit.blank : StoreUnit := ⟨List.replicate 1337 0, 1, false, none, false⟩

/-- The unit right after power-on with a store that reads bad, so on factory defaults (R181, log entry 5). -/
def State.reset : State where
  powered := true
  now := 0
  freeIx := 0
  pending := []
  cfg := Cfg.factory
  store := StoreUnit.blank
  sam := ⟨Line.fresh, Line.fresh, Vector.replicate 6 PosLines.initial⟩
  outs := Vector.replicate 6 Outputs.safe
  bands := Vector.replicate 6 BandUnit.initial
  alloc := Vector.replicate 20 AllocRecord.initial
  hold := Vector.replicate 6 HoldRecord.initial
  drv := Driver.initial
  seqs := Vector.replicate 6 .parked
  spans := Vector.replicate 6 none
  prot := Vector.replicate 6 Protection.initial
  links := Vector.replicate 7 (LinkState.initial 6)
  monitor := false

end Sys2Proof.Machine
end

