-- ==== Sys2Proof/Machine/Flags.lean ====
section
/-! DEFINITION. The codes of Table 11.3 and the notices of Table 11.4 (R175): how states, results, causes and reasons
are written in a frame. -/

namespace Sys2Proof.Machine

/-! ## Numbers in frames -/

/-- The byte of a number. -/
def byteOf (n : Nat) : Byte := BitVec.ofNat 8 n

/-- Two bytes, high byte first (R175). -/
def bytes2 (n : Nat) : List Byte := [byteOf (n / 256), byteOf n]

/-- Three bytes, high byte first. -/
def bytes3 (n : Nat) : List Byte := [byteOf (n / 65536), byteOf (n / 256), byteOf n]

/-- Four bytes, high byte first. -/
def bytes4 (n : Nat) : List Byte :=
  [byteOf (n / 16777216), byteOf (n / 65536), byteOf (n / 256), byteOf n]

/-- A position, antenna, band or link as its number, counted from 1 (R175). -/
def numByte {n : Nat} (i : Fin n) : Byte := byteOf (i.val + 1)

/-- An optional position, antenna or band: 0 when absent (Table 11.5). -/
def optNumByte {n : Nat} (i : Option (Fin n)) : Byte := i.elim 0 numByte

/-- Yes or no. -/
def boolByte (b : Bool) : Byte := if b then 1 else 0

/-- A segment: absent is 255. -/
def segByte (g : Option Seg) : Byte := g.elim 255 (fun x => byteOf x.val)

/-! ## Results, causes and reasons -/

/-- Result codes of an ANSWER (Table 11.3). -/
inductive Result where
  | done | queued | busy | unknown | format | parked | band | ineligible | keyed | full | state | locked | invalid
  | clamped | range | splitBand | inUse | saving
  deriving DecidableEq, Repr

/-- The code of a result. -/
def resultByte (r : Result) : Byte :=
  match r with
  | .done => 0 | .queued => 1 | .busy => 2 | .unknown => 3 | .format => 4 | .parked => 5 | .band => 6
  | .ineligible => 7 | .keyed => 8 | .full => 9 | .state => 10 | .locked => 11 | .invalid => 12 | .clamped => 13
  | .range => 14 | .splitBand => 15 | .inUse => 16 | .saving => 17

/-- Release and expiry causes (Table 11.3). -/
inductive Cause where
  | band | segment | fault | edit | wait | ineligible
  deriving DecidableEq, Repr

/-- The code of a release or expiry cause. -/
def causeByte (c : Cause) : Byte :=
  match c with
  | .band => 1 | .segment => 2 | .fault => 3 | .edit => 4 | .wait => 5 | .ineligible => 6

/-- Denial reasons of a key decision (R138). -/
inductive Denial where
  | noAntenna | band | segment | ineligible | solo | bandBusy | stationBusy
  | rule (n : RuleIx)
  | protect
  deriving DecidableEq, Repr

/-- The code of a denial reason. -/
def denialByte (d : Denial) : Byte :=
  match d with
  | .noAntenna => 1 | .band => 2 | .segment => 3 | .ineligible => 4 | .solo => 5 | .bandBusy => 6
  | .stationBusy => 7 | .rule _ => 8 | .protect => 9

/-- The rule number of a denial, 0 unless RULE (Table 11.4). -/
def denialRuleByte (d : Denial) : Byte :=
  match d with
  | .rule n => byteOf n.val
  | .noAntenna | .band | .segment | .ineligible | .solo | .bandBusy | .stationBusy | .protect => 0

/-- How a RELAY fault was found (R110). -/
inductive Finding where
  | opening | closing | watch
  deriving DecidableEq, Repr

/-- The code of a fault finding. -/
def findingByte (f : Finding) : Byte :=
  match f with
  | .opening => 1 | .closing => 2 | .watch => 3

/-- The cause of a KEY-ENDED notice: a tail cause, or KEY-LINE (R125, R127). -/
inductive EndCause where
  | tail (c : TailCause)
  | keyLine
  deriving DecidableEq, Repr

/-- The code of a tail cause. -/
def tailCauseByte (c : TailCause) : Byte :=
  match c with
  | .release => 1 | .timeout => 2 | .band => 3 | .unsequenced => 4

/-- The code of a lockout cause. -/
def lockCauseByte (c : LockCause) : Byte :=
  match c with
  | .unsequenced => 4 | .rfHang => 5 | .keyLine => 6

/-- The code of the cause of a KEY-ENDED notice. -/
def endCauseByte (c : EndCause) : Byte :=
  match c with
  | .tail t => tailCauseByte t
  | .keyLine => 6

/-! ## States -/

/-- The code of a slot. -/
def slotByte (x : Slot) : Byte :=
  match x with
  | .main => 1 | .listen => 2

/-- The code of an origin. -/
def originByte (o : Origin) : Byte :=
  match o with
  | .operator => 0 | .follow => 1

/-- The code of a sequencer state. -/
def seqByte (q : SeqState) : Byte :=
  match q with
  | .idle => 0 | .settling _ => 1 | .keyed _ => 2 | .tail _ _ _ _ => 3 | .denied => 4 | .lockout _ => 5 | .parked => 6

/-- A band state: its code and then its band or 0. -/
def bandStateBytes (b : BandState) : List Byte :=
  match b with
  | .none => [0, 0]
  | .valid x => [1, numByte x]
  | .invalid => [2, 0]
  | .mismatch x => [3, numByte x]

/-- The code of a lines band. -/
def linesBandByte (b : LinesBand) : Byte :=
  match b with
  | .none => 0 | .band x => numByte x | .invalid => 7 | .unknown => 255

/-- The code of a commanded crosspoint state. -/
def xpByte (x : XpState) : Byte :=
  match x with
  | .opened => 0 | .main => 1 | .listen => 2

/-- The code of a sensed crosspoint state. -/
def sensedByte (closed : Bool) : Byte := if closed then 3 else 0

/-- The code of an accepted value. -/
def acceptedByte (a : Accepted) : Byte :=
  match a with
  | .inactive => 0 | .active => 1 | .unknown => 255

/-- The code of an accepted band code. -/
def codeByte (c : Option (BitVec 4)) : Byte := c.elim 255 (fun x => byteOf x.toNat)

/-- The code of a switch state. -/
def switchByte (w : SwitchState) : Byte :=
  match w with
  | .awaiting => 1 | .switching => 2 | .set => 3

/-- The code of a deferred mark. -/
def markByte (m : Option Mark) : Byte :=
  match m with
  | none => 0
  | some .band => causeByte .band
  | some .segment => causeByte .segment
  | some (.fault _) => causeByte .fault
  | some .edit => causeByte .edit

/-- The code of a filter. -/
def filterByte (f : Option Band) : Byte := optNumByte f

/-- The code of a filter switch state. -/
def filterSwitchByte (w : FilterSwitch) : Byte :=
  match w with
  | .idle => 0 | .pending => 1 | .switching _ => 2

/-- The code of a release state. -/
def releaseByte (r : Release) : Byte :=
  match r with
  | .none => 0 | .delay _ => 1 | .opening _ => 2

/-- The code of the phase of a change set in progress, or of none in progress. -/
def phaseByte (p : Option Phase) : Byte :=
  match p with
  | none => 0
  | some (.opening _) => 1
  | some (.closing _) => 2
  | some .waiting => 3

/-- The code of a yield timer state. -/
def yieldByte (y : Yield) : Byte :=
  match y with
  | .stopped => 0 | .running _ _ _ _ => 1 | .holding _ _ _ => 2

/-! ## Notices (Table 11.4) -/

/-- The notices, with their fields after the subject position. -/
inductive Notice where
  | granted (slot : Slot) (a : Ant) (o : Origin)
  | preempted (slot : Slot) (a : Ant) (taker : Pos)
  | expired (slot : Slot) (a : Ant) (c : Cause)
  | withdrawn (slot : Slot) (a : Ant)
  | released (slot : Slot) (a : Ant) (c : Cause)
  | followNone (slot : Slot) (b : Band) (g : Option Seg)
  | keyDenied (d : Denial)
  | keyEnded (c : EndCause) (keyTime : Nat) (entered : SeqState)
  | lockout (c : LockCause)
  | bandState (b : BandState) (lines : LinesBand) (tx rx : Option Seg)
  | fault (a : Ant) (cmd : XpState) (closed : Bool) (f : Finding)
  deriving DecidableEq, Repr

/-- The notice code and the fields of a notice. -/
def Notice.codeAndFields (n : Notice) : Byte × List Byte :=
  match n with
  | .granted x a o => (1, [slotByte x, numByte a, originByte o])
  | .preempted x a w => (2, [slotByte x, numByte a, numByte w])
  | .expired x a c => (3, [slotByte x, numByte a, causeByte c])
  | .withdrawn x a => (4, [slotByte x, numByte a])
  | .released x a c => (5, [slotByte x, numByte a, causeByte c])
  | .followNone x b g => (6, [slotByte x, numByte b, segByte g])
  | .keyDenied d => (7, [denialByte d, denialRuleByte d])
  | .keyEnded c t q => (8, endCauseByte c :: bytes4 t ++ [seqByte q])
  | .lockout c => (9, [lockCauseByte c])
  | .bandState b l tx rx => (10, bandStateBytes b ++ [linesBandByte l, segByte tx, segByte rx])
  | .fault a x closed f => (11, [numByte a, xpByte x, sensedByte closed, findingByte f])

/-- A NOTICE frame: kind 33, notice code, subject position, fields (Table 11.2). -/
def noticeFrame (subject : Pos) (n : Notice) : Frame :=
  ⟨33, n.codeAndFields.1 :: numByte subject :: n.codeAndFields.2⟩

/-- An ANSWER frame: kind 32, kind code answered, result code (Table 11.2). -/
def answerFrame (kind : BitVec 7) (r : Result) : Frame := ⟨32, [kind.setWidth 8, resultByte r]⟩

/-- A REPORT frame: kind 34. -/
def reportFrame (body : List Byte) : Frame := ⟨34, body⟩

/-- The check character that makes the sum of header, length, body and check zero modulo 256 (R167). -/
def checkOf (header : Byte) (body : List Byte) : Byte :=
  -(header + byteOf body.length + body.foldl (fun x y => x + y) 0)

/-- A character on a link: its mark bit and its eight data bits (R164). -/
structure LinkChar where
  mark : Bool
  data : Byte
  deriving DecidableEq, Repr

/-- The eleven bits of a character in the order sent: a start bit of zero, the data bits with the least significant first,
the mark bit, and a stop bit of one (R164). -/
def LinkChar.bits (c : LinkChar) : List Bool :=
  false :: (List.range 8).map (fun i => c.data.getLsbD i) ++ [c.mark, true]

/-- The characters of a frame as sent: the header, with the notices-lost bit in it, is marked, and the length, the body
and the check are not (R164, R167, R170). -/
def Frame.chars (f : Frame) (lost : Bool) : List LinkChar :=
  let header : Byte := f.kind.setWidth 8 ||| (if lost then 0x80 else 0)
  ⟨true, header⟩ :: (byteOf f.body.length :: f.body ++ [checkOf header f.body]).map fun x => ⟨false, x⟩

end Sys2Proof.Machine
end

