-- ==== Sys2Proof/Machine/Ops.lean ====
section
/-! DEFINITION. The shared operations over the state: updating one record of a block, the outcome of a command on a
powered unit, sampled lines, placing frames and notices in transmit queues, and the views of state that several blocks
read (key span, cold, coupling, counts). -/

namespace Sys2Proof.Machine

/-! ## Updating one record -/

/-- A table with one entry replaced. -/
def upd {α : Type} {n : Nat} (v : Vector α n) (i : Fin n) (x : α) : Vector α n := v.set i.val x i.isLt

def State.setLines (s : State) (p : Pos) (x : PosLines) : State :=
  { s with sam := { s.sam with pos := upd s.sam.pos p x } }

def State.setEdit (s : State) (x : Line) : State := { s with sam := { s.sam with edit := x } }

def State.setResetLine (s : State) (x : Line) : State := { s with sam := { s.sam with reset := x } }

def State.setOut (s : State) (p : Pos) (x : Outputs) : State := { s with outs := upd s.outs p x }

def State.setBandUnit (s : State) (p : Pos) (x : BandUnit) : State := { s with bands := upd s.bands p x }

def State.setAlloc (s : State) (a : Ant) (x : AllocRecord) : State := { s with alloc := upd s.alloc a x }

def State.setHold (s : State) (p : Pos) (x : HoldRecord) : State := { s with hold := upd s.hold p x }

def State.setSeq (s : State) (p : Pos) (x : SeqState) : State := { s with seqs := upd s.seqs p x }

def State.setSpan (s : State) (p : Pos) (x : Option KeySpan) : State := { s with spans := upd s.spans p x }

def State.setProt (s : State) (p : Pos) (x : Protection) : State := { s with prot := upd s.prot p x }

def State.setLink (s : State) (l : Link) (x : LinkState) : State := { s with links := upd s.links l x }

def State.setDrv (s : State) (d : Driver) : State := { s with drv := d }

def State.setStore (s : State) (x : StoreUnit) : State := { s with store := x }

def State.setCfg (s : State) (c : Cfg) : State := { s with cfg := c }

def State.setXp (s : State) (p : Pos) (a : Ant) (x : Crosspoint) : State :=
  s.setDrv { s.drv with xps := upd s.drv.xps p (upd s.drv.xps[p] a x) }

def State.setFilter (s : State) (p : Pos) (x : FilterState) : State :=
  s.setDrv { s.drv with filters := upd s.drv.filters p x }

/-- A position's crosspoint on an antenna. -/
def State.xp (s : State) (p : Pos) (a : Ant) : Crosspoint := s.drv.xps[p][a]

/-! ## Outcome of a command -/

/-- The outcome of a command whose effect on a powered unit is `f`. A unit without its supply takes no command but
POWER_ON (log entry 9). -/
def whenPowered (s : State) (f : State → State) : Host.Outcome State Fault Refusal :=
  .next (if s.powered then f s else s)

/-! ## Two-level lines (R1, R2, R9) -/

/-- A line whose accepted value is ACTIVE; UNKNOWN is treated as inactive (R1). -/
def Accepted.isActive (a : Accepted) : Bool := a == .active

/-- The accepted value of a level. -/
def Accepted.of (level : Bool) : Accepted := if level then .active else .inactive

/-- A sample joins the history at its end, and the oldest leaves a history of three (R1). -/
def pushSample (h : List Bool) (x : Bool) : List Bool :=
  let g := h ++ [x]
  g.drop (g.length - Config.historyLength)

/-- The debounced level: the majority of the three samples, once there are three (R2). -/
def Line.debounced (x : Line) : Option Bool :=
  match x.history with
  | [a, b, c] => some ((a && b) || (a && c) || (b && c))
  | _ => none

/-- The change event that a line has to deliver: its debounced level differs from its accepted value, and a first
level is delivered only if it is ACTIVE (R2). -/
def Line.change (x : Line) : Option Bool :=
  match x.debounced with
  | none => none
  | some v =>
    if x.accepted == Accepted.of v || (x.accepted == .unknown && !v) then none else some v

/-- A line after a sample. A first debounced level that is INACTIVE is accepted here, since it delivers no event (R2,
log entry 15). -/
def Line.sample (x : Line) (level : Bool) : Line :=
  let y : Line := { x with history := pushSample x.history level }
  if y.accepted == .unknown && y.debounced == some false then { y with accepted := .inactive } else y

/-- The unit is held in reset while RESET is accepted ACTIVE (R9). -/
def State.held (s : State) : Bool := s.sam.reset.accepted.isActive

/-- The EDIT gate is open while EDIT is accepted ACTIVE (R177). -/
def State.editOpen (s : State) : Bool := s.sam.edit.accepted.isActive

/-! ## Key span and the views made from it -/

/-- A sequencer state of key span: SETTLING, KEYED or TAIL (R117). -/
def SeqState.inSpan (q : SeqState) : Bool :=
  match q with
  | .settling _ | .keyed _ | .tail _ _ _ _ => true
  | .idle | .denied | .lockout _ | .parked => false

/-- A position is in key span (R117). -/
def State.inSpan (s : State) (p : Pos) : Bool := s.seqs[p].inSpan

/-- A position is PARKED: its sequencer is in PARKED (R130, R133). -/
def State.isParked (s : State) (p : Pos) : Bool := s.seqs[p] == .parked

/-- RFS of a position is accepted ACTIVE (R102). -/
def State.rfsActive (s : State) (p : Pos) : Bool := s.sam.pos[p].rfs.accepted.isActive

/-- A position has a crosspoint on an antenna: commanded MAIN or LISTEN, or sensed CLOSED (R101). -/
def State.hasXp (s : State) (p : Pos) (a : Ant) : Bool := (s.xp p a).cmd != .opened || (s.xp p a).closed

/-- An antenna is cold (R102). -/
def State.cold (s : State) (a : Ant) : Bool :=
  allPos.all fun p => !s.hasXp p a || (!s.inSpan p && !s.rfsActive p)

/-- The count of a band: the key-span records that carry it (R135). -/
def State.bandCount (s : State) (b : Band) : Nat :=
  (allPos.filter fun p => (s.spans[p].map (·.band)) == some b).length

/-- The station count: the key-span records (R135). -/
def State.stationCount (s : State) : Nat := (allPos.filter fun p => s.spans[p].isSome).length

/-- The number of positions with the protect flag set (R160). -/
def State.flagCount (s : State) : Nat := (allPos.filter fun p => s.prot[p].flag).length

/-- The band of a band state: that of VALID(b) or MISMATCH(b) (R14). -/
def BandState.band (b : BandState) : Option Band :=
  match b with
  | .valid x | .mismatch x => some x
  | .none | .invalid => Option.none

/-- A position's band (R14). -/
def State.bandOf (s : State) (p : Pos) : Option Band := s.bands[p].state.band

/-- The segment map entry of a band and segment (R38). -/
def State.entry (s : State) (b : Band) (g : Seg) : MapEntry := s.cfg.segMap[b][g]

/-! ## Counters, transmit queues and notices (R170 to R172) -/

/-- A counter that stays at 65,535 once reached (R172). -/
def bump (n : Nat) : Nat := if n < Config.counterTop then n + 1 else n

/-- A frame placed at the end of a transmit queue; an idle transmitter begins it, with the notices-lost flag in its
header, and the flag is cleared (R170). -/
def LinkState.place (k : LinkState) (f : Frame) : LinkState :=
  match k.sending with
  | some _ => { k with queue := k.queue ++ [f] }
  | none => { k with queue := k.queue ++ [f], sending := some k.lost, lost := false }

/-- The transmit queue has a free place (R168, R170). -/
def LinkState.hasRoom (k : LinkState) : Bool := k.queue.length < Config.queueLength

/-- A notice offered to a transmit queue: placed, or dropped with the notices-lost flag and count (R170). -/
def LinkState.offer (k : LinkState) (f : Frame) : LinkState :=
  if k.hasRoom then k.place f else { k with lost := true, noticesLost := bump k.noticesLost }

/-- An answer or report on a link. R168 provides its place; a unit held in reset sends nothing (R174). -/
def State.reply (s : State) (l : Link) (f : Frame) : State :=
  if s.held || !s.links[l].hasRoom then s else s.setLink l (s.links[l].place f)

/-- An answer on a link. -/
def State.answer (s : State) (l : Link) (kind : BitVec 7) (r : Result) : State :=
  s.reply l (answerFrame kind r)

/-- A notice frame offered to one link; while the unit is held in reset nothing is placed (R115, R174). -/
def State.offer (s : State) (l : Link) (f : Frame) : State :=
  if s.held then s else s.setLink l (s.links[l].offer f)

/-- A notice on the link of the position it concerns, with its copy to the station link while MONITOR is on (R171). -/
def State.notify (s : State) (p : Pos) (n : Notice) : State :=
  let f := noticeFrame p n
  let t := s.offer (linkOf p) f
  if s.monitor then t.offer stationLink f else t

/-! ## Sequences of updates -/

/-- An update made for each member of a list, in order. -/
def State.each {α : Type} (s : State) (xs : List α) (f : α → State → State) : State :=
  xs.foldl (fun t x => f x t) s

end Sys2Proof.Machine
end

