-- ==== Sys2Proof/Machine/Operands.lean ====
section
/-! DEFINITION. The operands of requests as frames carry them (Tables 11.1 and 11.2, R176): the requests, the bytes of
each, and the reading of a frame's body. -/

namespace Sys2Proof.Machine

/-! ## Numbers of two to four bytes, high byte first (R175) -/

/-- A number of two bytes. -/
def num16 (a b : Byte) : BitVec 16 := a ++ b

/-- A number of three bytes. -/
def num24 (a b c : Byte) : BitVec 24 := a ++ b ++ c

/-- A number of four bytes. -/
def num32 (a b c d : Byte) : BitVec 32 := a ++ b ++ c ++ d

/-- The bytes of a two-byte number. -/
def bytes16 (x : BitVec 16) : List Byte := [x.extractLsb' 8 8, x.extractLsb' 0 8]

/-- The bytes of a three-byte number. -/
def bytes24 (x : BitVec 24) : List Byte := [x.extractLsb' 16 8, x.extractLsb' 8 8, x.extractLsb' 0 8]

/-- The bytes of a four-byte number. -/
def bytes32 (x : BitVec 32) : List Byte :=
  [x.extractLsb' 24 8, x.extractLsb' 16 8, x.extractLsb' 8 8, x.extractLsb' 0 8]

/-! ## Configuration items (R176) -/

/-- The address of an item as carried: item code and index bytes. -/
inductive ItemName where
  | antenna (a : Byte)
  | mapEntry (b g : Byte)
  | pref (p b slot : Byte)
  | pos (p : Byte)
  | band (b : Byte)
  | station (i : Byte)
  | rule (n : Byte)
  | divisor (l : Byte)
  deriving DecidableEq, Repr

/-- An item with all of its fields as carried. -/
inductive WriteItem where
  | antenna (a : Byte) (f : AntennaFields)
  | mapEntry (b g : Byte) (f : MapFields)
  | pref (p b slot : Byte) (f : PrefFields)
  | pos (p : Byte) (f : PosFields)
  | band (b : Byte) (f : BandFields)
  | station (i : Byte) (f : StationFields)
  | rule (n : Byte) (f : RuleFields)
  | divisor (l : Byte) (d : Byte)
  deriving DecidableEq, Repr

/-- Item code and index bytes of an address. -/
def ItemName.bytes (x : ItemName) : List Byte :=
  match x with
  | .antenna a => [1, a]
  | .mapEntry b g => [2, b, g]
  | .pref p b slot => [3, p, b, slot]
  | .pos p => [4, p]
  | .band b => [5, b]
  | .station i => [6, i]
  | .rule n => [7, n]
  | .divisor l => [8, l]

/-- The address that the body of a CONFIG-READ carries; none where the body does not fit its item code (R176). -/
def readName (body : List Byte) : Option ItemName :=
  match body with
  | [1, a] => some (.antenna a)
  | [2, b, g] => some (.mapEntry b g)
  | [3, p, b, slot] => some (.pref p b slot)
  | [4, p] => some (.pos p)
  | [5, b] => some (.band b)
  | [6, i] => some (.station i)
  | [7, n] => some (.rule n)
  | [8, l] => some (.divisor l)
  | _ => none

/-- The body of a CONFIG-WRITE: item code, index bytes, fields in the order of the item table. -/
def WriteItem.bytes (w : WriteItem) : List Byte :=
  match w with
  | .antenna a f => [1, a, f.present, f.bands, f.role, f.capacity, f.switchTime, f.group]
  | .mapEntry b g f => [2, b, g, f.kind] ++ bytes24 f.txSet ++ bytes24 f.rxSet
  | .pref p b slot f => [3, p, b, slot, f.count, f.a1, f.a2, f.a3, f.a4]
  | .pos p f =>
    [4, p, f.mode, f.cls, f.follow, f.filterMode, f.installed, f.bandSettle, f.freshness] ++ bytes16 f.dwell
      ++ [f.ampSettle, f.tail] ++ bytes16 f.keyLimit
  | .band b f => [5, b, f.limit, f.defaultSeg, f.policy] ++ bytes16 f.guardBase
  | .station i f => [6, i, f.stationLimit, f.protectLimit] ++ bytes16 f.waitLimit ++ bytes16 f.yieldTime
  | .rule n f =>
    [7, n, f.enabled, f.keyerPos, f.keyerBands, f.candPos, f.candBands, f.inverse, f.andPrevious, f.action]
  | .divisor l d => [8, l, d]

/-- The item that the body of a CONFIG-WRITE carries; none where the body does not fit its item code (R176, R177). -/
def readWrite (body : List Byte) : Option WriteItem :=
  match body with
  | [1, a, pr, bs, ro, ca, sw, gr] => some (.antenna a ⟨pr, bs, ro, ca, sw, gr⟩)
  | [2, b, g, k, t1, t2, t3, r1, r2, r3] => some (.mapEntry b g ⟨k, num24 t1 t2 t3, num24 r1 r2 r3⟩)
  | [3, p, b, slot, n, a1, a2, a3, a4] => some (.pref p b slot ⟨n, a1, a2, a3, a4⟩)
  | [4, p, m, c, fo, fm, ins, bs, fr, d1, d2, am, ta, k1, k2] =>
    some (.pos p ⟨m, c, fo, fm, ins, bs, fr, num16 d1 d2, am, ta, num16 k1 k2⟩)
  | [5, b, li, ds, po, g1, g2] => some (.band b ⟨li, ds, po, num16 g1 g2⟩)
  | [6, i, sl, pl, w1, w2, y1, y2] => some (.station i ⟨sl, pl, num16 w1 w2, num16 y1 y2⟩)
  | [7, n, en, kp, kb, cp, cb, iv, ap, ac] => some (.rule n ⟨en, kp, kb, cp, cb, iv, ap, ac⟩)
  | [8, l, d] => some (.divisor l d)
  | _ => none

/-! ## Requests (Tables 11.1 and 11.2) -/

/-- A request that has passed the checks of R169. A configuration request carries none where its body does not fit its
item code, since that check is the configuration unit's. -/
inductive Request where
  | selectMain (a : Byte) (noWait : Bool)
  | selectListen (a : Byte) (noWait : Bool)
  | dropMain
  | dropListen
  | cancel (slot : CancelSlot)
  | freq (rx : BitVec 32) (tx : Option (BitVec 32))
  | protect (on : Bool)
  | clear
  | queryPosition (p page : Byte)
  | queryAntenna (a page : Byte)
  | queryLink (l : Byte)
  | configRead (x : Option ItemName)
  | configWrite (w : Option WriteItem)
  | save
  | restart
  | faultClear (a : Byte)
  | monitor (on : Bool)
  | status (page : Byte)
  deriving DecidableEq, Repr

/-- The kind code of a request (Table 11.1). -/
def Request.kind (r : Request) : BitVec 7 :=
  match r with
  | .selectMain _ _ => 1 | .selectListen _ _ => 2 | .dropMain => 3 | .dropListen => 4 | .cancel _ => 5
  | .freq _ _ => 6 | .protect _ => 7 | .clear => 8 | .queryPosition _ _ => 9 | .queryAntenna _ _ => 10
  | .queryLink _ => 11 | .configRead _ => 16 | .configWrite _ => 17 | .save => 18 | .restart => 19
  | .faultClear _ => 20 | .monitor _ => 21 | .status _ => 22

/-- The byte of a CANCEL slot (Table 11.3). -/
def cancelByte (x : CancelSlot) : Byte :=
  match x with
  | .main => 1 | .listen => 2 | .both => 3

/-- The body of a request (Table 11.2). -/
def Request.body (r : Request) : List Byte :=
  match r with
  | .selectMain a w | .selectListen a w => [a, boolByte w]
  | .dropMain | .dropListen | .clear | .save | .restart => []
  | .cancel x => [cancelByte x]
  | .freq rx tx => bytes32 rx ++ (tx.elim [] bytes32)
  | .protect b | .monitor b => [boolByte b]
  | .queryPosition p g => [p, g]
  | .queryAntenna a g => [a, g]
  | .queryLink l => [l]
  | .configRead x => x.elim [] ItemName.bytes
  | .configWrite w => w.elim [] WriteItem.bytes
  | .faultClear a => [a]
  | .status g => [g]

/-- The frame of a request. -/
def Request.frame (r : Request) : Frame := ⟨r.kind, r.body⟩

/-- The kinds of Table 11.1 that are served on position links only. -/
def positionKind (k : BitVec 7) : Bool := decide (1 ≤ k.toNat) && decide (k.toNat ≤ 8)

/-- The kinds of Table 11.1 that are served on any link. -/
def anyKind (k : BitVec 7) : Bool := decide (9 ≤ k.toNat) && decide (k.toNat ≤ 11)

/-- The kinds of Table 11.1 that are served on the station link only. -/
def stationKind (k : BitVec 7) : Bool := decide (16 ≤ k.toNat) && decide (k.toNat ≤ 22)

/-- A kind is one of the requests served on a link (R169, Table 11.1). -/
def servedOn (l : Link) (k : BitVec 7) : Bool :=
  anyKind k || if l == stationLink then stationKind k else positionKind k

/-- A byte that Table 11.3 codes as 0 or 1. -/
def bit01 (x : Byte) : Option Bool :=
  match x with
  | 0 => some false
  | 1 => some true
  | _ => none

/-- The slots that a CANCEL byte names. -/
def cancelOf (x : Byte) : Option CancelSlot :=
  match x with
  | 1 => some .main
  | 2 => some .listen
  | 3 => some .both
  | _ => none

/-- The request that a body carries under a kind code; none where its length or a coded field is not one that the
tables give (R169). -/
def readBody (k : BitVec 7) (body : List Byte) : Option Request :=
  match k.toNat, body with
  | 1, [a, w] => (bit01 w).map fun b => .selectMain a b
  | 2, [a, w] => (bit01 w).map fun b => .selectListen a b
  | 3, [] => some .dropMain
  | 4, [] => some .dropListen
  | 5, [x] => (cancelOf x).map .cancel
  | 6, [a, b, c, d] => some (.freq (num32 a b c d) none)
  | 6, [a, b, c, d, e, f, g, h] => some (.freq (num32 a b c d) (some (num32 e f g h)))
  | 7, [x] => (bit01 x).map .protect
  | 8, [] => some .clear
  | 9, [p, g] => some (.queryPosition p g)
  | 10, [a, g] => some (.queryAntenna a g)
  | 11, [l] => some (.queryLink l)
  | 16, b => some (.configRead (readName b))
  | 17, b => some (.configWrite (readWrite b))
  | 18, [] => some .save
  | 19, [] => some .restart
  | 20, [a] => some (.faultClear a)
  | 21, [x] => (bit01 x).map .monitor
  | 22, [g] => some (.status g)
  | _, _ => none

/-- The checks of R169 on a frame taken on a link: UNKNOWN for a kind not served there, FORMAT for a length or a coded
field that does not fit. -/
def readRequest (l : Link) (f : Frame) : Except Result Request :=
  if servedOn l f.kind then
    match readBody f.kind f.body with
    | some r => .ok r
    | none => .error .format
  else .error .unknown

end Sys2Proof.Machine
end

