-- ==== Sys2Proof/Machine/Eligibility.lean ====
section
/-! DEFINITION. Eligibility (Chapter 3, sections 3.4 and 3.5), and the band and segment of a frequency (Chapter 2,
section 2.4). -/

namespace Sys2Proof.Machine

/-- The settled segment of a side of a position (R24). -/
def BandUnit.settled (u : BandUnit) (side : Side) : Option Seg :=
  match side with
  | .tx => u.setTx | .rx => u.setRx

/-- The set of a segment map entry that a side of a position is judged by (R41, R42). -/
def MapEntry.setOf (e : MapEntry) (side : Side) : AntSet :=
  match side with
  | .tx => e.txSet | .rx => e.rxSet

/-- Antenna `a` stands in the set of the entry of `p`'s band and settled segment of a side (R41 item 4, R42 item 3), and
serves the band (items 3 and 2). -/
def State.inSettledSet (s : State) (a : Ant) (p : Pos) (side : Side) : Bool :=
  match s.bandOf p, s.bands[p].settled side with
  | some b, some g => s.cfg.ants[a].bands.getLsbD b.val && ((s.entry b g).setOf side).getLsbD a.val
  | _, _ => false

/-- Antenna `a` is main-eligible for position `p` (R41). -/
def State.mainElig (s : State) (a : Ant) (p : Pos) : Bool :=
  s.cfg.ants[a].present && !s.drv.faults[a] && s.cfg.ants[a].role == .txrx && s.inSettledSet a p .tx

/-- Antenna `a` is listen-eligible for position `p` (R42). -/
def State.listenElig (s : State) (a : Ant) (p : Pos) : Bool :=
  s.cfg.ants[a].present && !s.drv.faults[a] && s.inSettledSet a p .rx

/-- Eligibility for a slot. -/
def State.elig (s : State) (slot : Slot) (a : Ant) (p : Pos) : Bool :=
  match slot with
  | .main => s.mainElig a p | .listen => s.listenElig a p

/-- The band of a frequency: the band whose edges contain it, none for OUT (R22). -/
def bandOfFreq (f : Nat) : Option Band :=
  allBands.find? fun b => decide (Config.bandLow b ≤ f) && decide (f ≤ Config.bandHigh b)

/-- The segment of a frequency in a band: the quotient of (f − low) × 16 by the span, 16 taken as S15 (R22). -/
def segOfFreq (b : Band) (f : Nat) : Seg :=
  let q := (f - Config.bandLow b) * 16 / Config.bandSpan b
  if h : q < 16 then ⟨q, h⟩ else 15

end Sys2Proof.Machine
end

