-- ==== Sys2Proof/Machine/Books.lean ====
section
/-! DEFINITION. The books of the allocation unit (Chapter 4, sections 4.1 and 4.2): every change of an allocation record
and of a holding record, written into both together, and the yield timer's state (Chapter 5, R77 to R79). -/

namespace Sys2Proof.Machine

/-! ## Arbitration order and the head main-waiter -/

/-- Class of a position. -/
def State.isRun (s : State) (p : Pos) : Bool := s.cfg.pos[p].cls == .run

/-- The entries of one kind of an antenna's wait queue in arbitration order: RUN-class positions first, and within a
class the earlier appended first (R66). -/
def State.arbitration (s : State) (a : Ant) (kind : Slot) : List WaitEntry :=
  let q := s.alloc[a].queue.filter fun e => e.kind == kind
  (q.filter fun e => s.isRun e.pos) ++ (q.filter fun e => !s.isRun e.pos)

/-- The head main-waiter (R77). -/
def State.headWaiter (s : State) (a : Ant) : Option Pos := ((s.arbitration a .main).head?).map (·.pos)

/-! ## The yield timer (R77 to R79) -/

/-- The time that a yield timer has counted, in ms; a stopped one carries none. -/
def State.yieldCounted (s : State) (y : Yield) : Nat :=
  match y with
  | .stopped => 0
  | .running _ _ c since => c + (s.now - since)
  | .holding _ _ c => c

/-- The yield timer counts for this holder and this head main-waiter. -/
def Yield.isFor (y : Yield) (h w : Pos) : Bool :=
  match y with
  | .stopped => false
  | .running h' w' _ _ | .holding h' w' _ => h' == h && w' == w

/-- The condition of R77 under which the timer counts or holds for `h` and `w`: the yield time is not 0, and `w` is RUN
or `h` is MULT. -/
def State.claim (s : State) (h w : Pos) : Bool :=
  s.cfg.station.yieldTime != 0 && (s.isRun w || !s.isRun h)

/-- The state that R77 gives the yield timer of an antenna, with the counted time kept, reloaded or discarded as the
table of R79 states. -/
def State.yieldNow (s : State) (a : Ant) : Yield :=
  let y := s.alloc[a].yieldT
  match s.alloc[a].holder, s.headWaiter a with
  | some h, some w =>
    if s.claim h w then
      let c := if y.isFor h w then s.yieldCounted y else 0
      if s.inSpan h || s.inSpan w then .holding h w c
      else
        match y with
        | .running _ _ _ _ => if y.isFor h w then y else .running h w 0 s.now
        | .stopped | .holding _ _ _ => .running h w c s.now
    else .stopped
  | _, _ => .stopped

/-- The yield timer of an antenna re-determined (R79). -/
def State.redetermine (s : State) (a : Ant) : State := s.setAlloc a { s.alloc[a] with yieldT := s.yieldNow a }

/-- A RUNNING yield timer has reached the yield time (R78). -/
def State.yieldDue (s : State) (a : Ant) : Bool :=
  match s.alloc[a].yieldT with
  | .running h w c since =>
    decide (s.cfg.station.yieldTime * 1000 ≤ s.yieldCounted (.running h w c since))
  | .stopped | .holding _ _ _ => false

/-! ## Both books written together (R51) -/

/-- `p` becomes main holder of `a`, AWAITING (R56 step 1). -/
def State.bookMain (s : State) (p : Pos) (a : Ant) (o : Origin) : State :=
  let t := s.setHold p { s.hold[p] with main := some ⟨a, .awaiting, o, false⟩ }
  (t.setAlloc a { t.alloc[a] with holder := some p }).redetermine a

/-- Antenna `a` has no main holder any more, its holding record already told. -/
def State.unbookHolder (s : State) (a : Ant) : State :=
  (s.setAlloc a { s.alloc[a] with holder := none }).redetermine a

/-- `p`'s main on `a` ends in both books (R64). -/
def State.unbookMain (s : State) (p : Pos) (a : Ant) : State :=
  (s.setHold p { s.hold[p] with main := none }).unbookHolder a

/-- `p` joins the end of `a`'s listener list, AWAITING (R49, R60 step 1). -/
def State.bookListen (s : State) (p : Pos) (a : Ant) (o : Origin) : State :=
  let t := s.setHold p { s.hold[p] with listen := some ⟨a, .awaiting, o, false⟩ }
  t.setAlloc a { t.alloc[a] with listeners := t.alloc[a].listeners ++ [p] }

/-- `p` leaves `a`'s listener list, its holding record already told (R49). -/
def State.leaveList (s : State) (p : Pos) (a : Ant) : State :=
  s.setAlloc a { s.alloc[a] with listeners := s.alloc[a].listeners.filter fun q => q != p }

/-- `p`'s listen on `a` ends in both books (R65). -/
def State.unbookListen (s : State) (p : Pos) (a : Ant) : State :=
  (s.setHold p { s.hold[p] with listen := none }).leaveList p a

/-- The pending request of a slot in a holding record. -/
def HoldRecord.pend (h : HoldRecord) (slot : Slot) : Option Ant :=
  match slot with
  | .main => h.pendMain | .listen => h.pendListen

/-- A holding record with the pending request of a slot replaced. -/
def HoldRecord.setPend (h : HoldRecord) (slot : Slot) (x : Option Ant) : HoldRecord :=
  match slot with
  | .main => { h with pendMain := x } | .listen => { h with pendListen := x }

/-- The holding of a slot. -/
def HoldRecord.holding (h : HoldRecord) (slot : Slot) : Option Holding :=
  match slot with
  | .main => h.main | .listen => h.listen

/-- A holding record with the holding of a slot replaced. -/
def HoldRecord.setHolding (h : HoldRecord) (slot : Slot) (x : Option Holding) : HoldRecord :=
  match slot with
  | .main => { h with main := x } | .listen => { h with listen := x }

/-- The deferred mark of a slot. -/
def HoldRecord.mark (h : HoldRecord) (slot : Slot) : Option Mark :=
  match slot with
  | .main => h.markMain | .listen => h.markListen

/-- A holding record with the deferred mark of a slot replaced. -/
def HoldRecord.setMark (h : HoldRecord) (slot : Slot) (x : Option Mark) : HoldRecord :=
  match slot with
  | .main => { h with markMain := x } | .listen => { h with markListen := x }

/-- The deferred mark of a slot set or removed (R70). -/
def State.mark (s : State) (p : Pos) (slot : Slot) (x : Option Mark) : State :=
  s.setHold p (s.hold[p].setMark slot x)

/-- The antenna held in a slot. -/
def State.heldAnt (s : State) (p : Pos) (slot : Slot) : Option Ant := (s.hold[p].holding slot).map (·.ant)

/-- A wait entry of `p` is appended to `a`'s wait queue, its wait timer at zero (R50, R74). -/
def State.appendEntry (s : State) (a : Ant) (p : Pos) (kind : Slot) (o : Origin) : State :=
  let t := s.setHold p (s.hold[p].setPend kind (some a))
  (t.setAlloc a { t.alloc[a] with queue := t.alloc[a].queue ++ [⟨p, kind, o, s.now⟩] }).redetermine a

/-- `p`'s entry of a kind leaves `a`'s wait queue (R50). -/
def State.removeEntry (s : State) (a : Ant) (p : Pos) (kind : Slot) : State :=
  let t := s.setHold p (s.hold[p].setPend kind none)
  (t.setAlloc a
    { t.alloc[a] with queue := t.alloc[a].queue.filter fun e => !(e.pos == p && e.kind == kind) }).redetermine a

/-- `p`'s pending request of a slot, if any, removed without notice. -/
def State.removePending (s : State) (p : Pos) (slot : Slot) : State :=
  match s.hold[p].pend slot with
  | none => s
  | some a => s.removeEntry a p slot

/-- `p`'s entry of a kind in `a`'s wait queue becomes one of origin OPERATOR, in its place (R57, R60, R74). -/
def State.claimEntry (s : State) (a : Ant) (p : Pos) (kind : Slot) : State :=
  s.setAlloc a { s.alloc[a] with
    queue := s.alloc[a].queue.map fun e => if e.pos == p && e.kind == kind then { e with origin := .operator } else e }

/-- `p`'s entry of a kind leaves `a`'s wait queue with an EXPIRED notice (R66, R75). -/
def State.expire (s : State) (a : Ant) (p : Pos) (kind : Slot) (c : Cause) : State :=
  (s.removeEntry a p kind).notify p (.expired kind a c)

/-- The number of wait entries in all queues. -/
def State.entriesTotal (s : State) : Nat := (allAnts.map fun a => s.alloc[a].queue.length).sum

end Sys2Proof.Machine
end

