-- ==== Sys2Proof/Machine/Protection.lean ====
section
/-! DEFINITION. Receiver protection (Chapter 10): the harmonic check, the pairs due on a position, the recomputation of
every blanking cause set with its BLK output. -/

namespace Sys2Proof.Machine

/-- The receive frequency that the band unit makes available (R26). -/
def State.rxFreq (s : State) (p : Pos) : Option Nat :=
  match s.bands[p].report with
  | some r => if r.fresh.isSome then some r.rx else none
  | none => none

/-- The transmit frequency that the band unit makes available (R26). -/
def State.txFreq (s : State) (p : Pos) : Option Nat :=
  match s.bands[p].report with
  | some r => if r.fresh.isSome then some (r.tx.getD r.rx) else none
  | none => none

/-- The order of a pair: fr divided by ft, rounded to the nearest whole number, a half upward (R149). -/
def harmonicOrder (ft fr : Nat) : Nat := (2 * fr + ft) / (2 * ft)

/-- The offset of the n-th harmonic of ft from fr (R150). -/
def harmonicOffset (n ft fr : Nat) : Nat := (n * ft - fr) + (fr - n * ft)

/-- The conflict test of R150 for a transmit frequency, a receive frequency and a guard base. -/
def harmonicTest (ft fr guardBase : Nat) : Bool :=
  let n := harmonicOrder ft fr
  decide (2 ≤ n) && decide (n ≤ 5) && guardBase != 0 && decide (harmonicOffset n ft fr ≤ n * guardBase)

/-- Transmitter `t` and victim `v` are in harmonic conflict (R149, R150). -/
def State.inConflict (s : State) (t v : Pos) : Bool :=
  t != v && !s.isParked t && !s.isParked v &&
    match s.bandOf v, s.txFreq t, s.rxFreq v with
    | some b, some ft, some fr => harmonicTest ft fr s.cfg.bands[b].guardBase
    | _, _, _ => false

/-- The policy of `v`'s band blanks for harmonics: BLANK or HOLD (R152). -/
def State.policyBlanks (s : State) (v : Pos) : Bool :=
  match s.bandOf v with
  | some b => s.cfg.bands[b].policy != .ignore
  | none => false

/-- `t` may be the source of a pair on `v`: another position in key span, and `v` not PARKED (R153). -/
def State.mayPair (s : State) (t v : Pos) : Bool := t != v && s.inSpan t && !s.isParked v

/-- A HARMONIC pair with source `t` is due on `v` (R153). -/
def State.harmonicDue (s : State) (t v : Pos) : Bool := s.mayPair t v && s.inConflict t v && s.policyBlanks v

/-- A COUPLED pair with source `t` is due on `v` (R153). R153 names no presence: that the coupling group of an absent
antenna counts, where its contact senses CLOSED, is the model's choice (DESIGN CHOICE, log entry 53). -/
def State.coupledDue (s : State) (t v : Pos) : Bool :=
  s.mayPair t v &&
    match s.heldAnt t .main with
    | some m =>
      s.cfg.ants[m].group != 0 &&
        allAnts.any fun a => a != m && s.cfg.ants[a].group == s.cfg.ants[m].group && s.hasXp v a
    | none => false

/-- A SHARED pair with source `t` is due on `v` (R153). -/
def State.sharedDue (s : State) (t v : Pos) : Bool :=
  s.mayPair t v &&
    match s.heldAnt t .main with
    | some m => s.hasXp v m
    | none => false

/-- The set of the positions that meet a condition. -/
def posSet (f : Pos → Bool) : PosSet :=
  allPos.foldl (fun x p => if f p then x ||| BitVec.twoPow 6 p.val else x) 0

/-- The pairs due on a position, with its protect flag as it stands. -/
def State.dueOn (s : State) (v : Pos) : Protection :=
  ⟨posSet fun t => s.harmonicDue t v, posSet fun t => s.coupledDue t v, posSet fun t => s.sharedDue t v, s.prot[v].flag⟩

/-- The blanking cause set holds at least one pair (R159). -/
def Protection.nonempty (x : Protection) : Bool := x.harmonic != 0 || x.coupled != 0 || x.shared != 0

/-- A position's blanking cause set replaced, with BLK commanded to match (R154, R159). -/
def State.setCauses (s : State) (v : Pos) (x : Protection) : State :=
  (s.setProt v x).setOut v { s.outs[v] with blk := x.nonempty }

/-- Every blanking cause set made equal to the pairs due (R154). The events of R155 to R158 each recompute the pairs
they can affect; all other pairs are already as due (log entry 38). -/
def State.recomputeBlank (s : State) : State := s.each allPos fun v t => t.setCauses v (s.dueOn v)

/-- A position's protect flag set or cleared (R160). -/
def State.setFlag (s : State) (p : Pos) (on : Bool) : State := s.setProt p { s.prot[p] with flag := on }

/-- Some protected victim on a band with policy HOLD is in harmonic conflict with `p` as transmitter (R144, R151). -/
def State.protectsAgainst (s : State) (p : Pos) : Bool :=
  allPos.any fun v =>
    s.prot[v].flag && s.inConflict p v &&
      match s.bandOf v with
      | some b => s.cfg.bands[b].policy == .hold
      | none => false

end Sys2Proof.Machine
end

