-- ==== Sys2Proof/Machine/Items.lean ====
section
/-! DEFINITION. The items of the working configuration (R176): the checks and the clamping of R177 on one item, the
consistency of the two tables (R31, R39), an item's fields as carried, and the image in the store (R180, R181). -/

namespace Sys2Proof.Machine

/-! ## Addresses -/

/-- The address of an item, its index in range. -/
inductive Addr where
  | antenna (a : Ant)
  | mapEntry (b : Band) (g : Seg)
  | pref (p : Pos) (b : Band) (slot : Slot)
  | pos (p : Pos)
  | band (b : Band)
  | station
  | rule (n : RuleIx)
  | divisor (l : Link)
  deriving DecidableEq, Repr

/-- An item of the working configuration with its value. -/
inductive Item where
  | antenna (a : Ant) (x : AntennaRecord)
  | mapEntry (b : Band) (g : Seg) (x : MapEntry)
  | pref (p : Pos) (b : Band) (slot : Slot) (x : List Ant)
  | pos (p : Pos) (x : PosSettings)
  | band (b : Band) (x : BandSettings)
  | station (x : StationSettings)
  | rule (n : RuleIx) (x : Rule)
  | divisor (l : Link) (d : Nat)
  deriving DecidableEq, Repr

/-- The thing numbered from 1 by an index byte. -/
def indexFrom1 (n : Nat) (x : Byte) : Option (Fin n) :=
  if h : 1 ≤ x.toNat ∧ x.toNat ≤ n then some ⟨x.toNat - 1, by omega⟩ else none

/-- The thing numbered from 0 by an index byte. -/
def indexFrom0 (n : Nat) (x : Byte) : Option (Fin n) :=
  if h : x.toNat < n then some ⟨x.toNat, h⟩ else none

/-- The slot of an index byte: 1 main or 2 listen. -/
def slotIndex (x : Byte) : Option Slot :=
  match x with
  | 1 => some .main
  | 2 => some .listen
  | _ => none

/-- The address of a named item; none where an index is outside its range (R176). -/
def ItemName.addr (x : ItemName) : Option Addr :=
  match x with
  | .antenna a => (indexFrom1 20 a).map .antenna
  | .mapEntry b g => do return .mapEntry (← indexFrom1 6 b) (← indexFrom0 16 g)
  | .pref p b slot => do return .pref (← indexFrom1 6 p) (← indexFrom1 6 b) (← slotIndex slot)
  | .pos p => (indexFrom1 6 p).map .pos
  | .band b => (indexFrom1 6 b).map .band
  | .station i => if i == 0 then some .station else none
  | .rule n => (indexFrom0 8 n).map .rule
  | .divisor l => (indexFrom1 7 l).map .divisor

/-- The name of an item that is to be written. -/
def WriteItem.name (w : WriteItem) : ItemName :=
  match w with
  | .antenna a _ => .antenna a
  | .mapEntry b g _ => .mapEntry b g
  | .pref p b slot _ => .pref p b slot
  | .pos p _ => .pos p
  | .band b _ => .band b
  | .station i _ => .station i
  | .rule n _ => .rule n
  | .divisor l _ => .divisor l

/-! ## Fields (R177) -/

/-- A set of six carried in a byte; none with a member outside its range. -/
def set6 (x : Byte) : Option (BitVec 6) := if x.toNat < 64 then some (x.setWidth 6) else none

/-- A set of antennas carried in three bytes; none with a member outside its range. -/
def set20 (x : BitVec 24) : Option AntSet := if x.toNat < 2 ^ 20 then some (x.setWidth 20) else none

/-- A count field in its range. -/
def countIn (lo hi : Nat) (x : Byte) : Option Nat := if lo ≤ x.toNat ∧ x.toNat ≤ hi then some x.toNat else none

/-- A time field set to the nearest limit. -/
def clampTo (lo hi n : Nat) : Nat := max lo (min hi n)

/-- A time field of which 0 is written as given (Chapter 5, head). -/
def clampOrZero (lo hi n : Nat) : Nat := if n == 0 then 0 else clampTo lo hi n

/-- A guard base taken down to a multiple of 100 Hz and to 25,000 Hz (Chapter 10, head). -/
def clampGuard (n : Nat) : Nat := min 25000 (n / 100 * 100)

/-- Role codes. -/
def roleOf (x : Byte) : Option Role :=
  match x with
  | 0 => some .txrx
  | 1 => some .rxonly
  | _ => none

/-- Kind codes of a segment map entry (R38). -/
def kindOf (x : Byte) : Option SegKind :=
  match x with
  | 0 => some .transmit
  | 1 => some .listen
  | 2 => some .solo
  | _ => none

/-- Class codes. -/
def classOf (x : Byte) : Option PosClass :=
  match x with
  | 0 => some .run
  | 1 => some .mult
  | _ => none

/-- Policy codes. -/
def policyOf (x : Byte) : Option Policy :=
  match x with
  | 0 => some .ignore
  | 1 => some .blank
  | 2 => some .hold
  | _ => none

/-- Action codes. -/
def actionOf (x : Byte) : Option RuleAction :=
  match x with
  | 0 => some .deny
  | 1 => some .link
  | _ => none

/-- The conditions of R31 on one record. -/
def AntennaRecord.ok (r : AntennaRecord) : Bool :=
  (!r.present || r.bands != 0) && (r.role != .rxonly || r.capacity != 0)

/-- An antenna record from its fields (R31), with whether a field was clamped. -/
def AntennaFields.value (f : AntennaFields) : Option (AntennaRecord × Bool) := do
  let present ← bit01 f.present
  let bands ← set6 f.bands
  let role ← roleOf f.role
  let capacity ← countIn 0 4 f.capacity
  let group ← countIn 0 7 f.group
  let time := clampTo 5 100 f.switchTime.toNat
  return (⟨present, bands, role, capacity, time, group⟩, time != f.switchTime.toNat)

/-- A segment map entry from its fields (R38). -/
def MapFields.value (f : MapFields) : Option (MapEntry × Bool) := do
  return (⟨← kindOf f.kind, ← set20 f.txSet, ← set20 f.rxSet⟩, false)

/-- The largest length of a preference list (R88). -/
def prefMost (slot : Slot) : Nat :=
  match slot with
  | .main => 4 | .listen => 2

/-- A preference list from its fields: as many antennas as its count, each from 1 to 20 and none twice (R88); the bytes
beyond the count are not read (log entry 29). -/
def PrefFields.value (f : PrefFields) (slot : Slot) : Option (List Ant × Bool) := do
  let n ← countIn 0 (prefMost slot) f.count
  let xs ← ([f.a1, f.a2, f.a3, f.a4].take n).mapM (indexFrom1 20)
  if xs.Nodup then return (xs, false) else none

/-- Position settings from their fields (R176, ranges of Chapters 1, 2 and 8). -/
def PosFields.value (f : PosFields) : Option (PosSettings × Bool) := do
  let parked ← bit01 f.mode
  let cls ← classOf f.cls
  let follow ← bit01 f.follow
  let thru ← bit01 f.filterMode
  let installed ← set6 f.installed
  let x : PosSettings := ⟨parked, cls, follow, thru, installed, clampTo 10 250 f.bandSettle.toNat,
    clampTo 1 60 f.freshness.toNat, clampTo 0 5000 f.dwell.toNat, clampTo 0 200 f.ampSettle.toNat,
    clampTo 0 200 f.tail.toNat, clampTo 1 600 f.keyLimit.toNat⟩
  let clamped := x.bandSettle != f.bandSettle.toNat || x.freshness != f.freshness.toNat || x.dwell != f.dwell.toNat
    || x.ampSettle != f.ampSettle.toNat || x.tail != f.tail.toNat || x.keyLimit != f.keyLimit.toNat
  return (x, clamped)

/-- Band settings from their fields (R176, Chapters 9 and 10). -/
def BandFields.value (f : BandFields) : Option (BandSettings × Bool) := do
  let limit ← countIn 0 6 f.limit
  let seg ← indexFrom0 16 f.defaultSeg
  let policy ← policyOf f.policy
  let g := clampGuard f.guardBase.toNat
  return (⟨limit, seg, policy, g⟩, g != f.guardBase.toNat)

/-- Station settings from their fields (R176, Chapters 5, 9 and 10). -/
def StationFields.value (f : StationFields) : Option (StationSettings × Bool) := do
  let sl ← countIn 1 6 f.stationLimit
  let pl ← countIn 0 2 f.protectLimit
  let w := clampOrZero 10 3600 f.waitLimit.toNat
  let y := clampOrZero 5 600 f.yieldTime.toNat
  return (⟨sl, pl, w, y⟩, w != f.waitLimit.toNat || y != f.yieldTime.toNat)

/-- An interlock rule from its fields (R141). -/
def RuleFields.value (f : RuleFields) : Option (Rule × Bool) := do
  return (⟨← bit01 f.enabled, ← set6 f.keyerPos, ← set6 f.keyerBands, ← set6 f.candPos, ← set6 f.candBands,
    ← bit01 f.inverse, ← bit01 f.andPrevious, ← actionOf f.action⟩, false)

/-- A link divisor (R164). -/
def divisorOf (x : Byte) : Option Nat :=
  if x == 12 || x == 6 || x == 3 || x == 2 then some x.toNat else none

/-- The item that a write gives, with whether a field was clamped: UNKNOWN for an index outside its range, INVALID for
a field that does not hold a value of its kind (R177). -/
def WriteItem.value (w : WriteItem) : Except Result (Item × Bool) :=
  match w.name.addr with
  | none => .error .unknown
  | some addr =>
    let item : Option (Item × Bool) := match addr, w with
      | .antenna a, .antenna _ f => (AntennaFields.value f).map fun x => (.antenna a x.1, x.2)
      | .mapEntry b g, .mapEntry _ _ f => (MapFields.value f).map fun x => (.mapEntry b g x.1, x.2)
      | .pref p b slot, .pref _ _ _ f => (PrefFields.value f slot).map fun x => (.pref p b slot x.1, x.2)
      | .pos p, .pos _ f => (PosFields.value f).map fun x => (.pos p x.1, x.2)
      | .band b, .band _ f => (BandFields.value f).map fun x => (.band b x.1, x.2)
      | .station, .station _ f => (StationFields.value f).map fun x => (.station x.1, x.2)
      | .rule n, .rule _ f => (RuleFields.value f).map fun x => (.rule n x.1, x.2)
      | .divisor l, .divisor _ d => (divisorOf d).map fun x => (.divisor l x, false)
      | _, _ => none
    match item with
    | some x => .ok x
    | none => .error .invalid

/-! ## The configuration as a whole -/

/-- The configuration with one item written. -/
def Cfg.put (c : Cfg) (x : Item) : Cfg :=
  match x with
  | .antenna a v => { c with ants := upd c.ants a v }
  | .mapEntry b g v => { c with segMap := upd c.segMap b (upd c.segMap[b] g v) }
  | .pref p b .main v =>
    { c with prefs := upd c.prefs p (upd c.prefs[p] b { c.prefs[p][b] with main := v }) }
  | .pref p b .listen v =>
    { c with prefs := upd c.prefs p (upd c.prefs[p] b { c.prefs[p][b] with listen := v }) }
  | .pos p v => { c with pos := upd c.pos p v }
  | .band b v => { c with bands := upd c.bands b v }
  | .station v => { c with station := v }
  | .rule n v => { c with rules := upd c.rules n v }
  | .divisor l v => { c with divisors := upd c.divisors l v }

/-- The configuration holds an item with exactly this value. -/
def Cfg.holds (c : Cfg) (x : Item) : Bool :=
  match x with
  | .antenna a v => c.ants[a] == v
  | .mapEntry b g v => c.segMap[b][g] == v
  | .pref p b .main v => c.prefs[p][b].main == v
  | .pref p b .listen v => c.prefs[p][b].listen == v
  | .pos p v => c.pos[p] == v
  | .band b v => c.bands[b] == v
  | .station v => c.station == v
  | .rule n v => c.rules[n] == v
  | .divisor l v => c.divisors[l] == v

/-- The set of the antennas that meet a condition. -/
def antSet (f : Ant → Bool) : AntSet :=
  allAnts.foldl (fun x a => if f a then x ||| BitVec.twoPow 20 a.val else x) 0

/-- The antennas that serve a band; an absent one counts as serving none (R39). -/
def Cfg.serving (c : Cfg) (b : Band) : AntSet := antSet fun a => c.ants[a].present && c.ants[a].bands.getLsbD b.val

/-- The antennas of role TXRX. -/
def Cfg.transmitting (c : Cfg) : AntSet := antSet fun a => c.ants[a].role == .txrx

/-- The conditions of R39 on one entry, given the antennas that serve its band and those of role TXRX. The kind is one
of the three by its type. -/
def MapEntry.ok (e : MapEntry) (serving transmitting : AntSet) : Bool :=
  (e.txSet &&& ~~~e.rxSet) == 0 && ((e.txSet ||| e.rxSet) &&& ~~~serving) == 0 && (e.txSet &&& ~~~transmitting) == 0

/-- The two tables are consistent (R31, R39). -/
def Cfg.consistent (c : Cfg) : Bool :=
  (allAnts.all fun a => c.ants[a].ok) &&
    allBands.all fun b => allSegs.all fun g => (c.segMap[b][g]).ok (c.serving b) c.transmitting

/-- An item is one of the two tables. -/
def Item.inTables (x : Item) : Bool :=
  match x with
  | .antenna _ _ | .mapEntry _ _ _ => true
  | .pref _ _ _ _ | .pos _ _ | .band _ _ | .station _ | .rule _ _ | .divisor _ _ => false

/-! ## Items as carried (R176) -/

/-- Item code and index bytes of an address. -/
def Addr.bytes (x : Addr) : List Byte :=
  match x with
  | .antenna a => [1, numByte a]
  | .mapEntry b g => [2, numByte b, byteOf g.val]
  | .pref p b slot => [3, numByte p, numByte b, slotByte slot]
  | .pos p => [4, numByte p]
  | .band b => [5, numByte b]
  | .station => [6, 0]
  | .rule n => [7, byteOf n.val]
  | .divisor l => [8, numByte l]

/-- The number of field bytes of an item (R176). -/
def Addr.size (x : Addr) : Nat :=
  match x with
  | .antenna _ => 6
  | .mapEntry _ _ => 7
  | .pref _ _ _ => 5
  | .pos _ => 13
  | .band _ => 5
  | .station => 6
  | .rule _ => 8
  | .divisor _ => 1

/-- The four antenna bytes of a preference list, unused ones 0. -/
def prefBytes (xs : List Ant) : List Byte := ((xs.map numByte) ++ [0, 0, 0, 0]).take 4

/-- The code of a role. -/
def roleByte (r : Role) : Byte :=
  match r with
  | .txrx => 0 | .rxonly => 1

/-- The six field bytes of an antenna record. -/
def AntennaRecord.bytes (r : AntennaRecord) : List Byte :=
  [boolByte r.present, r.bands.setWidth 8, roleByte r.role, byteOf r.capacity, byteOf r.switchTime, byteOf r.group]

/-- The code of a segment kind. -/
def kindByte (k : SegKind) : Byte :=
  match k with
  | .transmit => 0 | .listen => 1 | .solo => 2

/-- The code of a class. -/
def classByte (c : PosClass) : Byte :=
  match c with
  | .run => 0 | .mult => 1

/-- The code of a policy. -/
def policyByte (p : Policy) : Byte :=
  match p with
  | .ignore => 0 | .blank => 1 | .hold => 2

/-- The code of a rule action. -/
def actionByte (x : RuleAction) : Byte :=
  match x with
  | .deny => 0 | .link => 1

/-- The field bytes of an item as it stands in the configuration (R176). -/
def Cfg.fields (c : Cfg) (x : Addr) : List Byte :=
  match x with
  | .antenna a => c.ants[a].bytes
  | .mapEntry b g =>
    let e := c.segMap[b][g]
    kindByte e.kind :: bytes24 (e.txSet.setWidth 24) ++ bytes24 (e.rxSet.setWidth 24)
  | .pref p b slot =>
    let xs := match slot with
      | .main => c.prefs[p][b].main
      | .listen => c.prefs[p][b].listen
    byteOf xs.length :: prefBytes xs
  | .pos p =>
    let v := c.pos[p]
    [boolByte v.parked, classByte v.cls, boolByte v.follow, boolByte v.filterThru, v.installed.setWidth 8,
      byteOf v.bandSettle, byteOf v.freshness] ++ bytes2 v.dwell ++ [byteOf v.ampSettle, byteOf v.tail]
      ++ bytes2 v.keyLimit
  | .band b =>
    let v := c.bands[b]
    [byteOf v.limit, byteOf v.defaultSeg.val, policyByte v.policy] ++ bytes2 v.guardBase
  | .station =>
    let v := c.station
    [byteOf v.stationLimit, byteOf v.protectLimit] ++ bytes2 v.waitLimit ++ bytes2 v.yieldTime
  | .rule n =>
    let v := c.rules[n]
    [boolByte v.enabled, v.keyerPos.setWidth 8, v.keyerBands.setWidth 8, v.candPos.setWidth 8,
      v.candBands.setWidth 8, boolByte v.inverse, boolByte v.andPrevious, actionByte v.action]
  | .divisor l => [byteOf c.divisors[l]]

/-- The body of the REPORT that answers a CONFIG-READ: kind 16, item code, index bytes, fields (R176). -/
def Cfg.report (c : Cfg) (x : Addr) : List Byte := 16 :: x.bytes ++ c.fields x

/-! ## The store image (R180, R181) -/

/-- Every item, in the order of the item table (log entry 30). -/
def allAddrs : List Addr :=
  allAnts.map .antenna
    ++ (allBands.flatMap fun b => allSegs.map fun g => .mapEntry b g)
    ++ (allPos.flatMap fun p => allBands.flatMap fun b => [.pref p b .main, .pref p b .listen])
    ++ allPos.map .pos ++ allBands.map .band ++ [.station] ++ allRules.map .rule ++ allLinks.map .divisor

/-- The image of a configuration: the fields of every item. -/
def Cfg.image (c : Cfg) : List Byte := allAddrs.flatMap c.fields

/-- The sum of bytes modulo 256. -/
def byteSum (xs : List Byte) : Byte := xs.foldl (fun x y => x + y) 0

/-- The check byte that agrees with an image (R180). -/
def goodCheck (image : List Byte) : Byte := -byteSum image

/-- A check byte that does not agree with an image (R180), chosen by a free value. -/
def badCheckOf (image : List Byte) (n : Nat) : Byte := goodCheck image + byteOf ((Config.badCheck n).val + 1)

/-- The items of an image read one after another into a configuration; none where an item is missing, does not hold
values of its kind, or would be clamped (R181). -/
def loadItems : List Addr → List Byte → Cfg → Option Cfg
  | [], [], c => some c
  | [], _ :: _, _ => none
  | x :: rest, bytes, c =>
    match readWrite (x.bytes ++ bytes.take x.size) with
    | some w =>
      match w.value with
      | .ok (item, false) => loadItems rest (bytes.drop x.size) (c.put item)
      | .ok (_, true) | .error _ => none
    | none => none

/-- The configuration that a store gives: none unless its check is good, every item holds, and the tables are consistent
(R181). -/
def loadStore (image : List Byte) (check : Byte) : Option Cfg :=
  if byteSum image + check == 0 then
    match loadItems allAddrs image Cfg.factory with
    | some c => if c.consistent then some c else none
    | none => none
  else none

end Sys2Proof.Machine
end

