-- ==== Sys2Proof/Machine/Keying.lean ====
section
/-! DEFINITION. The outputs of the key sequencer's states (R118), the settle condition (R108) and the way from SETTLING
to KEYED (R121). -/

namespace Sys2Proof.Machine

/-- The driver conducts: KEY, AMP or BLK is active, or INH is negated (R10). -/
def Outputs.conducts (o : Outputs) (x : OutLine) : Bool :=
  match x with
  | .key => o.key | .amp => o.amp | .inh => !o.inh | .blk => o.blk

/-- The state of the driver of an output at its commanded level; a change of command changes the driver at once (R10). -/
def Outputs.driver (o : Outputs) (x : OutLine) : DriverState := if o.conducts x then .conducting else .released

/-- The state of the driver of a position's output (R10). -/
def State.driverState (s : State) (p : Pos) (x : OutLine) : DriverState := s.outs[p].driver x

/-- The levels of KEY, AMP and INH that a state commands (R118); BLK is receiver protection's. -/
def SeqState.outputs (q : SeqState) (o : Outputs) : Outputs :=
  match q with
  | .keyed _ => { o with key := true, amp := true, inh := false }
  | .settling _ | .tail _ _ _ _ => { o with key := false, amp := true, inh := true }
  | .idle | .denied | .lockout _ | .parked => { o with key := false, amp := false, inh := true }

/-- The sequencer enters a state and commands its levels (R118). -/
def State.enter (s : State) (p : Pos) (q : SeqState) : State := (s.setSeq p q).setOut p (q.outputs s.outs[p])

/-- The settle condition: the main holding is SET and no filter switch is in progress (R108). -/
def State.settleCond (s : State) (p : Pos) : Bool :=
  (s.hold[p].main.map (·.sw)) == some .set &&
    match s.drv.filters[p].sw with
    | .switching _ => false
    | .idle | .pending => true

/-- The amplifier settle timer has reached the amplifier settle (R121). -/
def State.settleReached (s : State) (p : Pos) : Bool :=
  match s.seqs[p] with
  | .settling since => decide (since + s.cfg.pos[p].ampSettle ≤ s.now)
  | _ => false

/-- SETTLING ends in KEYED when the amplifier settle has been reached and the settle condition holds (R121, R123). -/
def State.trySettle (s : State) (p : Pos) : State :=
  if s.settleReached p && s.settleCond p then s.enter p (.keyed s.now) else s

end Sys2Proof.Machine
end

