-- ==== Sys2Proof/Machine/PendingList.lean ====
section
/-! DEFINITION. The switch pending list (Chapter 7, section 7.2, R103): how a change set that allocation hands over
joins it, and what the driver reports at once. -/

namespace Sys2Proof.Machine

/-- The change set in progress of a position. -/
def State.progress (s : State) (p : Pos) : Option ChangeSet := s.drv.inProg.find? fun c => c.pos == p

/-- The pending-list entry of a position. -/
def State.pendEntry (s : State) (p : Pos) : Option PendEntry := s.drv.list.find? fun e => e.pos == p

/-- The target that the position's change set in progress has for its crosspoint on an antenna. -/
def State.carriedGoal (s : State) (p : Pos) (a : Ant) : Option XpState :=
  match s.progress p with
  | some c => (c.targets.find? fun t => t.ant == a).map (·.goal)
  | none => none

/-- The state that a crosspoint will have once the position's earlier work is done (R103). -/
def State.futureXp (s : State) (p : Pos) (a : Ant) : XpState :=
  match s.carriedGoal p a with
  | some g => g
  | none => if s.drv.release == .none then (s.xp p a).cmd else .opened

/-- The switch pending list replaced. -/
def State.setList (s : State) (xs : List PendEntry) : State := s.setDrv { s.drv with list := xs }

/-- A target list with the target for one antenna replaced in place, or added at its end. -/
def putTarget (ts : List Target) (t : Target) : List Target :=
  if ts.any fun x => x.ant == t.ant then ts.map fun x => if x.ant == t.ant then t else x else ts ++ [t]

/-- A target joins the position's entry, or a new entry at the end of the list (R103). -/
def State.listPut (s : State) (p : Pos) (t : Target) : State :=
  if s.drv.list.any fun e => e.pos == p then
    s.setList (s.drv.list.map fun e => if e.pos == p then { e with targets := putTarget e.targets t } else e)
  else s.setList (s.drv.list ++ [⟨p, [t]⟩])

/-- The entries of a list without the targets that meet a condition; an entry left with no targets is removed. -/
def dropTargets (xs : List PendEntry) (f : PendEntry → Target → Bool) : List PendEntry :=
  (xs.map fun e => { e with targets := e.targets.filter fun t => !f e t }).filter fun e => !e.targets.isEmpty

/-- The target for one antenna leaves the position's entry; an entry left with no targets is removed (R103). -/
def State.listRemove (s : State) (p : Pos) (a : Ant) : State :=
  s.setList (dropTargets s.drv.list fun e t => e.pos == p && t.ant == a)

/-- The slot whose holding a closed crosspoint state serves. -/
def slotOf (g : XpState) : Option Slot :=
  match g with
  | .main => some .main | .listen => some .listen | .opened => none

/-- A holding on an antenna in a switch state moves to another (R51, R52). -/
def State.moveHolding (s : State) (p : Pos) (slot : Slot) (a : Ant) (old new : SwitchState) : State :=
  match s.hold[p].holding slot with
  | some h =>
    if h.ant == a && h.sw == old then s.setHold p (s.hold[p].setHolding slot (some { h with sw := new })) else s
  | none => s

/-- The holding that a target serves moves from one switch state to another (R52, R109). -/
def State.moveServed (s : State) (p : Pos) (t : Target) (old new : SwitchState) : State :=
  match slotOf t.goal with
  | some slot => s.moveHolding p slot t.ant old new
  | none => s

/-- A holding on an antenna in a switch state goes to SET, with its GRANTED notice; the settle condition may come to
hold with it (R52, R121). One whose antenna has faulted since the grant does not (R107, R108). -/
def State.completeHolding (s : State) (p : Pos) (slot : Slot) (a : Ant) (old : SwitchState) : State :=
  match s.hold[p].holding slot with
  | some h =>
    if h.ant == a && h.sw == old && !h.faulted then
      let t := (s.moveHolding p slot a old .set).notify p (.granted slot a h.origin)
      match slot with
      | .main => t.trySettle p
      | .listen => t
    else s
  | none => s

/-- The report the driver makes at once when a MAIN or LISTEN target has nothing to switch while its holding is
AWAITING: a completion when the crosspoint already stands so, and the start of the change set in progress that carries
it otherwise (R103). -/
def State.reportAlready (s : State) (p : Pos) (t : Target) : State :=
  match slotOf t.goal with
  | none => s
  | some slot =>
    if (s.carriedGoal p t.ant).isSome then s.moveHolding p slot t.ant .awaiting .switching
    else s.completeHolding p slot t.ant .awaiting

/-- A target equals the state that its crosspoint will have, so that it leaves nothing to switch (R103). -/
def State.nothingToSwitch (s : State) (p : Pos) (t : Target) : Bool := s.futureXp p t.ant == t.goal

/-- Targets of one change set join the switch pending list (R103): those that differ replace or join the targets of the
position's entry, or make a new one, before those with nothing to switch leave it, so that an entry is removed only if
the whole change set leaves it empty. Then the driver reports what has nothing to switch. -/
def State.addTargets (s : State) (p : Pos) (ts : List Target) : State :=
  let done := ts.filter fun x => s.nothingToSwitch p x
  let t := s.each (ts.filter fun x => !s.nothingToSwitch p x) fun x y => y.listPut p x
  let t := t.each done fun x y => y.listRemove p x.ant
  t.each done fun x y => y.reportAlready p x

/-- Allocation hands the driver a change set of a position (R53, R103). It hands none for a PARKED position (R53). -/
def State.handChangeSet (s : State) (p : Pos) (ts : List Target) : State :=
  if s.isParked p then s else s.addTargets p ts

end Sys2Proof.Machine
end

