-- ==== Sys2Proof/Machine/Allocation.lean ====
section
/-! DEFINITION. Allocation of antennas (Chapter 4) and pre-emption (Chapter 5): releases, grants, hand-overs, and what
the five antenna requests are answered and do. -/

namespace Sys2Proof.Machine

/-! ## Releases (R64, R65) -/

/-- An optional notice to a position. -/
def State.notifyOpt (s : State) (p : Pos) (n : Option Notice) : State :=
  match n with
  | some x => s.notify p x
  | none => s

/-- `p`'s main on `a` is released: the books, the change set that opens its crosspoint, the notice of the cause (R64).
The hand-over is run by the caller. -/
def State.releaseMain (s : State) (p : Pos) (a : Ant) (n : Option Notice) : State :=
  ((s.unbookMain p a).handChangeSet p [⟨a, .opened⟩]).notifyOpt p n

/-- `p`'s listen on `a` is released (R65). The hand-over is run by the caller. -/
def State.releaseListen (s : State) (p : Pos) (a : Ant) (n : Option Notice) : State :=
  ((s.unbookListen p a).handChangeSet p [⟨a, .opened⟩]).notifyOpt p n

/-! ## Grants and hand-overs (R56, R60, R66 to R68) -/

/-- The listener list of an antenna is shorter than its share capacity (R60, R67). -/
def State.hasListenRoom (s : State) (a : Ant) : Bool := s.alloc[a].listeners.length < s.cfg.ants[a].capacity

/-- The previous antenna of a slot leaves the books as part of a grant that replaces it (R56 step 3, R60 step 2). -/
def State.unbookOld (s : State) (p : Pos) (slot : Slot) (old : Option Ant) : State :=
  match old with
  | none => s
  | some m =>
    match slot with
    | .main => s.unbookHolder m
    | .listen => s.leaveList p m

/-- The change set of a grant: the antenna to its state, the one it replaces to OPEN (R53). -/
def grantTargets (a : Ant) (goal : XpState) (old : Option Ant) : List Target :=
  ⟨a, goal⟩ :: (old.map fun m => (⟨m, .opened⟩ : Target)).toList

/-- The hand-over that follows a grant on the antenna it replaced. -/
def State.handOld (s : State) (hand : Ant → State → State) (old : Option Ant) : State :=
  match old with
  | some m => hand m s
  | none => s

/-- `p` is granted a listen slot of `a` (R60, steps 1 to 5); `hand` is the listen hand-over of step 5. -/
def State.grantListenWith (hand : Ant → State → State) (p : Pos) (a : Ant) (o : Origin) (s : State) : State :=
  let old := s.heldAnt p .listen
  let s2 := (s.bookListen p a o).unbookOld p .listen old
  let s3 := s2.removePending p .listen
  let s4 := s3.handChangeSet p (grantTargets a .listen old)
  s4.handOld hand old

/-- The listen hand-over of an antenna (R67). Each round takes one wait entry, so `fuel` above the number of entries
never runs out (log entry 40). -/
def State.handListenFuel : Nat → Ant → State → State
  | 0, _, s => s
  | n + 1, a, s =>
    if s.hasListenRoom a then
      match (s.arbitration a .listen).head? with
      | none => s
      | some e =>
        if s.listenElig a e.pos && s.heldAnt e.pos .main != some a then
          State.handListenFuel n a
            (State.grantListenWith (State.handListenFuel n) e.pos a e.origin (s.removeEntry a e.pos .listen))
        else State.handListenFuel n a (s.expire a e.pos .listen .ineligible)
    else s

/-- The listen hand-over of an antenna (R67). -/
def State.handListen (a : Ant) (s : State) : State := State.handListenFuel (s.entriesTotal + 1) a s

/-- A listen of `p` on `a` is taken up into the main (R56 step 2). -/
def State.takeUpListen (s : State) (p : Pos) (a : Ant) (listening : Bool) : State :=
  if listening then s.unbookListen p a else s

/-- `p` is granted the main slot of `a` (R56, steps 1 to 7); `hand` is the main hand-over of step 7. -/
def State.grantMainWith (hand : Ant → State → State) (p : Pos) (a : Ant) (o : Origin) (s : State) : State :=
  let old := s.heldAnt p .main
  let listening := s.alloc[a].listeners.contains p
  let s1 := s.bookMain p a o
  let s2 := s1.takeUpListen p a listening
  let s3 := s2.unbookOld p .main old
  let s4 := s3.removePending p .main
  let s5 := if s4.hold[p].pendListen == some a then s4.expire a p .listen .ineligible else s4
  let s6 := s5.handChangeSet p (grantTargets a .main old)
  let s7 := s6.handOld hand old
  if listening then State.handListen a s7 else s7

/-- The main hand-over of an antenna (R66): entries of positions in key span are passed over, an ineligible one is
removed, and the first other one is granted. Each round takes one wait entry, so `fuel` above the number of entries
never runs out (log entry 40). -/
def State.handMainFuel : Nat → Ant → State → State
  | 0, _, s => s
  | n + 1, a, s =>
    if s.alloc[a].holder.isSome then s
    else
      match (s.arbitration a .main).find? fun e => !s.inSpan e.pos with
      | none => s
      | some e =>
        if s.mainElig a e.pos then
          State.grantMainWith (State.handMainFuel n) e.pos a e.origin (s.removeEntry a e.pos .main)
        else State.handMainFuel n a (s.expire a e.pos .main .ineligible)

/-- The main hand-over of an antenna (R66). -/
def State.handMain (a : Ant) (s : State) : State := State.handMainFuel (s.entriesTotal + 1) a s

/-- The hand-over of a slot of an antenna. -/
def State.handSlot (s : State) (slot : Slot) (a : Ant) : State :=
  match slot with
  | .main => State.handMain a s
  | .listen => State.handListen a s

/-- `p` is granted the main slot of a free antenna (R56). -/
def State.grantMain (s : State) (p : Pos) (a : Ant) (o : Origin) : State := State.grantMainWith State.handMain p a o s

/-- `p` is granted a listen slot of an antenna with room (R60). -/
def State.grantListen (s : State) (p : Pos) (a : Ant) (o : Origin) : State :=
  State.grantListenWith State.handListen p a o s

/-- The holding of a slot is released with a notice that names its antenna, and its hand-over runs (R64, R65). -/
def State.lose (s : State) (p : Pos) (slot : Slot) (n : Ant → Option Notice) : State :=
  match s.heldAnt p slot with
  | none => s
  | some a =>
    match slot with
    | .main => (s.releaseMain p a (n a)).handSlot .main a
    | .listen => (s.releaseListen p a (n a)).handSlot .listen a

/-- A release with a RELEASED notice of a cause. -/
def State.loseFor (s : State) (p : Pos) (slot : Slot) (c : Cause) : State :=
  s.lose p slot fun a => some (.released slot a c)

/-! ## Pre-emption (R80, R81) -/

/-- The main of holder `h` on `a` is taken and granted to waiter `w` (R81). -/
def State.preempt (s : State) (a : Ant) (h w : Pos) : State :=
  let o := ((s.arbitration a .main).head?).elim Origin.operator (·.origin)
  let t := s.releaseMain h a (some (.preempted .main a w))
  (t.removeEntry a w .main).grantMain w a o

/-- The expiry of `a`'s yield timer: the head main-waiter is re-checked, and the holder pre-empted or the waiter removed
(R80). -/
def State.yieldExpire (s : State) (a : Ant) : State :=
  match s.alloc[a].holder, s.headWaiter a with
  | some h, some w => if s.mainElig a w then s.preempt a h w else s.expire a w .main .ineligible
  | _, _ => s

/-- The expiry is taken if the timer is RUNNING at or above the yield time. -/
def State.yieldIfDue (s : State) (a : Ant) : State := if s.yieldDue a then s.yieldExpire a else s

/-! ## Requests (R54 to R63) -/

/-- The thing numbered from 1 by a byte, none out of range (R169). -/
def numOf (n : Nat) (x : Byte) : Option (Fin n) :=
  if h : 1 ≤ x.toNat ∧ x.toNat ≤ n then some ⟨x.toNat - 1, by omega⟩ else none

/-- A refusal or an answer with no effect. -/
def justAnswer (r : Result) : Result × (State → State) := (r, id)

/-- What a request for a held or full antenna gets (R57, R60): BUSY with no-wait or with an entry of the other kind,
otherwise a place in the queue. -/
def State.queueRequest (s : State) (p : Pos) (slot : Slot) (a : Ant) (noWait : Bool) : Result × (State → State) :=
  let other : Slot := match slot with
    | .main => .listen
    | .listen => .main
  if noWait then justAnswer .busy
  else if s.hold[p].pend slot == some a then (.queued, fun t => t.claimEntry a p slot)
  else if s.hold[p].pend other == some a then justAnswer .busy
  else (.queued, fun t => (t.removePending p slot).appendEntry a p slot .operator)

/-- The answer and the effect of SELECT-MAIN (R55 to R57). -/
def State.selectMain (s : State) (p : Pos) (antenna : Byte) (noWait : Bool) : Result × (State → State) :=
  if s.isParked p then justAnswer .parked
  else
    match s.bands[p].state with
    | .valid _ =>
      match numOf 20 antenna with
      | none => justAnswer .unknown
      | some a =>
        if !s.cfg.ants[a].present then justAnswer .unknown
        else if !s.mainElig a p then justAnswer .ineligible
        else if s.inSpan p then justAnswer .keyed
        else if s.heldAnt p .main == some a then justAnswer .done
        else if s.alloc[a].holder.isNone then (.done, fun t => t.grantMain p a .operator)
        else s.queueRequest p .main a noWait
    | .none | .invalid | .mismatch _ => justAnswer .band

/-- The answer and the effect of SELECT-LISTEN (R59, R60). An antenna of share capacity 0 is answered BUSY. -/
def State.selectListen (s : State) (p : Pos) (antenna : Byte) (noWait : Bool) : Result × (State → State) :=
  if s.isParked p then justAnswer .parked
  else
    match s.bands[p].state with
    | .valid _ =>
      match numOf 20 antenna with
      | none => justAnswer .unknown
      | some a =>
        if !s.cfg.ants[a].present then justAnswer .unknown
        else if !s.listenElig a p || s.heldAnt p .main == some a then justAnswer .ineligible
        else if s.inSpan p then justAnswer .keyed
        else if s.heldAnt p .listen == some a then justAnswer .done
        else if s.hasListenRoom a then (.done, fun t => t.grantListen p a .operator)
        else if s.cfg.ants[a].capacity == 0 then justAnswer .busy
        else s.queueRequest p .listen a noWait
    | .none | .invalid | .mismatch _ => justAnswer .band

/-- The effect of DROP-MAIN (R61): the main is released without notice, the pending main removed, and a hand-over run
on the slot freed. -/
def State.dropMainEffect (s : State) (p : Pos) : State :=
  match s.heldAnt p .main with
  | none => s.removePending p .main
  | some a => ((s.releaseMain p a none).removePending p .main).handSlot .main a

/-- The answer and the effect of DROP-MAIN (R61). -/
def State.dropMain (s : State) (p : Pos) : Result × (State → State) :=
  if s.isParked p then justAnswer .parked
  else if s.inSpan p then justAnswer .keyed
  else (.done, fun t => t.dropMainEffect p)

/-- The answer and the effect of DROP-LISTEN (R62). -/
def State.dropListen (s : State) (p : Pos) : Result × (State → State) :=
  if s.isParked p then justAnswer .parked
  else if s.inSpan p then justAnswer .keyed
  else (.done, fun t => t.lose p .listen fun _ => none)

/-- The effect of CANCEL: each slot named loses its pending request without notice (R63). -/
def State.cancelEffect (s : State) (p : Pos) (slot : CancelSlot) : State :=
  match slot with
  | .main => s.removePending p .main
  | .listen => s.removePending p .listen
  | .both => (s.removePending p .main).removePending p .listen

end Sys2Proof.Machine
end

