-- ==== Sys2Proof/Machine/Follow.lean ====
section
/-! DEFINITION. Band follow (Chapter 6), and what allocation does at the events of other blocks: band change,
settled-segment change, relay fault, end of TAIL, revalidation, parking, and writes that bear on it. -/

namespace Sys2Proof.Machine

/-! ## The follow of a slot (R90 to R92) -/

/-- The preference list of a position for a band and a slot (R88). -/
def State.prefList (s : State) (p : Pos) (b : Band) (slot : Slot) : List Ant :=
  match slot with
  | .main => s.cfg.prefs[p][b].main
  | .listen => s.cfg.prefs[p][b].listen

/-- An antenna is a candidate for a slot of a position: eligible, and for the listen slot not its main (R90, R91). -/
def State.candidate (s : State) (slot : Slot) (p : Pos) (a : Ant) : Bool :=
  match slot with
  | .main => s.mainElig a p
  | .listen => s.listenElig a p && s.heldAnt p .main != some a

/-- A slot of an antenna is free: no main holder, or a listener list with room (R90, R91). -/
def State.slotFree (s : State) (slot : Slot) (a : Ant) : Bool :=
  match slot with
  | .main => s.alloc[a].holder.isNone
  | .listen => s.hasListenRoom a

/-- `p` has an entry of a kind in `a`'s wait queue. -/
def State.waitsOn (s : State) (p : Pos) (kind : Slot) (a : Ant) : Bool :=
  s.alloc[a].queue.any fun e => e.pos == p && e.kind == kind

/-- The queue pass may append an entry on an antenna: no entry of the other kind of the position, and for the listen
slot a share capacity above 0 (R90, R91). -/
def State.mayQueue (s : State) (slot : Slot) (p : Pos) (a : Ant) : Bool :=
  match slot with
  | .main => !s.waitsOn p .listen a
  | .listen => !s.waitsOn p .main a && s.cfg.ants[a].capacity != 0

/-- The grant of a follow, with origin FOLLOW (R90, R91). -/
def State.followGrant (s : State) (p : Pos) (slot : Slot) (a : Ant) : State :=
  match slot with
  | .main => s.grantMain p a .follow
  | .listen => s.grantListen p a .follow

/-- The side of a slot (R96). -/
def sideOf (slot : Slot) : Side :=
  match slot with
  | .main => .tx | .listen => .rx

/-- The queue pass with no pending request left standing: an earlier one is removed with WITHDRAWN if an entry is
appended (R90 to R92). -/
def State.queuePass (s : State) (p : Pos) (slot : Slot) (b : Band) : State :=
  match (s.prefList p b slot).find? fun a => s.candidate slot p a && s.mayQueue slot p a with
  | none => s.notify p (.followNone slot b (s.bands[p].settled (sideOf slot)))
  | some a =>
    let t := match s.hold[p].pend slot with
      | none => s
      | some c => (s.removeEntry c p slot).notify p (.withdrawn slot c)
    t.appendEntry a p slot .follow

/-- The walk of a slot: grant pass, then queue pass, with a pending request treated as the table of R92 states. Without
a band there is no list to walk (log entry 23). -/
def State.walk (s : State) (p : Pos) (slot : Slot) : State :=
  match s.bandOf p with
  | none => s
  | some b =>
    match (s.prefList p b slot).find? fun a => s.candidate slot p a && s.slotFree slot a with
    | some a => s.followGrant p slot a
    | none =>
      match s.hold[p].pend slot with
      | some c => if s.candidate slot p c then s else s.queuePass p slot b
      | none => s.queuePass p slot b

/-- The follow of a slot: the walk, if the follow switch is ON and the slot is empty (R89, section 6.2). -/
def State.followSlot (s : State) (p : Pos) (slot : Slot) : State :=
  if s.cfg.pos[p].follow && (s.heldAnt p slot).isNone then s.walk p slot else s

/-- The work that a mark names follows its slot whenever the slot is empty (R94 step 3, R96 step 2, R97). -/
def Mark.follows (m : Mark) : Bool :=
  match m with
  | .band | .segment | .fault _ => true
  | .edit => false

/-- The follow of the main slot. On an occasion that calls for it alone, the follow of the listen slot runs next if the
grant takes up the listen. A listen slot whose own mark will follow it makes an occasion that calls for both slots, and is
followed once, by that work (R91, R94 step 3, log entry 20). -/
def State.followMain (s : State) (p : Pos) : State :=
  let t := s.followSlot p .main
  if (s.heldAnt p .listen).isSome && (t.heldAnt p .listen).isNone && !(t.hold[p].markListen.any Mark.follows) then
    t.followSlot p .listen
  else t

/-- The follow that an occasion for one slot calls for. -/
def State.followOne (s : State) (p : Pos) (slot : Slot) : State :=
  match slot with
  | .main => s.followMain p
  | .listen => s.followSlot p .listen

/-! ## Judging a slot again -/

/-- The holding of a slot is not eligible for its position. -/
def State.slotIneligible (s : State) (p : Pos) (slot : Slot) : Bool :=
  match s.heldAnt p slot with
  | some a => !s.elig slot a p
  | none => false

/-- The holding of a slot is released for a cause if it is no longer eligible. -/
def State.recheck (s : State) (p : Pos) (slot : Slot) (c : Cause) : State :=
  if s.slotIneligible p slot then s.loseFor p slot c else s

/-- Steps 1 and 2 of R96 for a slot: release if no longer eligible, and follow an empty slot. -/
def State.segmentWork (s : State) (p : Pos) (slot : Slot) : State := (s.recheck p slot .segment).followOne p slot

/-- The work of R94 for one slot, without its follow. -/
def State.bandRelease (s : State) (p : Pos) (slot : Slot) : State :=
  if (s.bandOf p).isSome then s.recheck p slot .band else s.loseFor p slot .band

/-- The work that a mark of cause EDIT or a revalidation names for a slot (R179 step 2): release if not eligible, and
then follow. -/
def State.editWork (s : State) (p : Pos) (slot : Slot) : State :=
  if s.slotIneligible p slot then (s.loseFor p slot .edit).followOne p slot else s

/-- The release and follow of a slot that lost antenna `a` to a fault (R111, R97). At the end of TAIL the slot is judged
again as well (R95, log entry 21). -/
def State.faultWork (s : State) (p : Pos) (slot : Slot) (a : Ant) : State :=
  let t := if s.heldAnt p slot == some a || s.slotIneligible p slot then s.loseFor p slot .fault else s
  t.followOne p slot

/-! ## Events from other blocks -/

/-- Every pending request of a position withdrawn with WITHDRAWN notices, the main before the listen (R93). -/
def State.withdraw (s : State) (p : Pos) (slot : Slot) : State :=
  match s.hold[p].pend slot with
  | none => s
  | some a => (s.removeEntry a p slot).notify p (.withdrawn slot a)

/-- The work of a band change outside key span (R94). -/
def State.bandWork (s : State) (p : Pos) : State :=
  let t := (s.bandRelease p .main).bandRelease p .listen
  (t.followSlot p .main).followSlot p .listen

/-- Allocation takes the band-change event of a position (R93 to R95). -/
def State.allocBandChange (s : State) (p : Pos) : State :=
  let t := (s.withdraw p .main).withdraw p .listen
  if t.inSpan p then (t.mark p .main (some .band)).mark p .listen (some .band) else t.bandWork p

/-- The slot of a side (R96). -/
def slotOfSide (side : Side) : Slot :=
  match side with
  | .tx => .main | .rx => .listen

/-- Allocation takes a settled-segment-change event (R96). -/
def State.allocSegmentChange (s : State) (p : Pos) (side : Side) : State :=
  if s.inSpan p then s.mark p (slotOfSide side) (some .segment) else s.segmentWork p (slotOfSide side)

/-- The holding of a slot kept through a key span although its antenna has faulted (R108, R111). -/
def State.keepFaulted (s : State) (p : Pos) (slot : Slot) : State :=
  s.setHold p (s.hold[p].setHolding slot ((s.hold[p].holding slot).map fun h => { h with faulted := true }))

/-- A holding on a faulted antenna is released and followed, or kept and marked in key span (R111 steps 2 and 3). -/
def State.faultLoss (s : State) (p : Pos) (slot : Slot) (a : Ant) : State :=
  if s.heldAnt p slot == some a then
    if s.inSpan p then (s.mark p slot (some (.fault a))).keepFaulted p slot else s.faultWork p slot a
  else s

/-- Allocation takes the fault event of an antenna (R111). -/
def State.allocFault (s : State) (a : Ant) : State :=
  let t := s.each s.alloc[a].queue fun e x => x.expire a e.pos e.kind .fault
  let t := match t.alloc[a].holder with
    | some h => t.faultLoss h .main a
    | none => t
  t.each t.alloc[a].listeners fun q x => x.faultLoss q .listen a

/-- Allocation takes the fault event of an antenna whose flag has just been set, and with it the expiry of its yield timer if
that is due. Taken first, the expiry finds the flag set and removes the head main-waiter as ineligible (R80, R84); taken
second, it finds no waiter. Which comes first is a free value (log entry 47). -/
def State.takeFault (s : State) (a : Ant) : State :=
  if s.yieldDue a then
    let t := { s with freeIx := s.freeIx + 1 }
    (if Config.expiryFirst s.freeIx then t.yieldExpire a else t).allocFault a
  else s.allocFault a

/-- The deferred work that a mark names (R70, R95). A mark of cause BAND names the work of R94 for its slot (log entry
20). -/
def State.markWork (s : State) (p : Pos) (slot : Slot) (m : Mark) : State :=
  match m with
  | .band => (s.bandRelease p slot).followOne p slot
  | .segment => s.segmentWork p slot
  | .fault a => s.faultWork p slot a
  | .edit => s.editWork p slot

/-- The work of one slot at the end of TAIL: the work of its mark, and then the mark is removed (R70 step 1). -/
def State.tailSlotWork (s : State) (p : Pos) (slot : Slot) : State :=
  match s.hold[p].mark slot with
  | none => s
  | some m => (s.markWork p slot m).mark p slot none

/-- The hand-over for the pending main of a position at the end of its TAIL (R70 step 2). -/
def State.tailHandOver (s : State) (p : Pos) : State :=
  match s.hold[p].pendMain with
  | some a => if s.alloc[a].holder.isNone then State.handMain a s else s
  | none => s

/-- The antennas whose yield timer a key-span report of a position concerns: it is the main holder or the head
main-waiter (R78). -/
def State.yieldConcerns (s : State) (p : Pos) (a : Ant) : Bool :=
  s.alloc[a].holder == some p || s.headWaiter a == some p

/-- Allocation takes a position's entry into key span: the timers it concerns go to HOLDING (R78). -/
def State.allocEntry (s : State) (p : Pos) : State :=
  s.each allAnts fun a t => if t.yieldConcerns p a then t.redetermine a else t

/-- Allocation takes a position's leaving of TAIL: the deferred work, the hand-over, and then the yield timers, each of
which expires at once if its counted time has already reached the yield time (R70, R78, log entry 24). -/
def State.allocLeaving (s : State) (p : Pos) : State :=
  let t := ((s.tailSlotWork p .main).tailSlotWork p .listen).tailHandOver p
  t.each allAnts fun a x => if x.yieldConcerns p a then (x.redetermine a).yieldIfDue a else x

/-- Step 1 of a revalidation on one antenna: its ineligible entries are removed in append order (R179). -/
def State.dropIneligible (s : State) (a : Ant) : State :=
  s.each s.alloc[a].queue fun e t => if t.elig e.kind a e.pos then t else t.expire a e.pos e.kind .edit

/-- Step 2 of a revalidation on one slot (R179). -/
def State.revalidateSlot (s : State) (p : Pos) (slot : Slot) : State :=
  if s.slotIneligible p slot then
    if s.inSpan p then s.mark p slot (some .edit) else s.editWork p slot
  else s

/-- Step 3 of a revalidation on one antenna: its main hand-over and then its listen hand-over, before the next antenna's;
R179 leaves open how the two kinds stand to each other (log entry 49). -/
def State.revalidateHand (s : State) (a : Ant) : State :=
  let t := if s.alloc[a].holder.isNone && !(s.arbitration a .main).isEmpty then State.handMain a s else s
  if t.hasListenRoom a && !(t.arbitration a .listen).isEmpty then State.handListen a t else t

/-- A revalidation (R179). -/
def State.revalidate (s : State) : State :=
  let t := s.each allAnts fun a x => x.dropIneligible a
  let t := t.each allPos fun p x => (x.revalidateSlot p .main).revalidateSlot p .listen
  t.each allAnts fun a x => x.revalidateHand a

/-- What allocation does when a position is parked (R71): both holdings released with cause EDIT, the pending entries
removed without notice, and a hand-over run on each slot freed. No follow runs. The hand-over of the main slot runs before
that of the listen slot, an order that R71 leaves open (log entry 27). -/
def State.allocPark (s : State) (p : Pos) : State :=
  let m := s.heldAnt p .main
  let l := s.heldAnt p .listen
  let t := m.elim s fun a => s.releaseMain p a (some (.released .main a .edit))
  let t := l.elim t fun a => t.releaseListen p a (some (.released .listen a .edit))
  let t := (t.removePending p .main).removePending p .listen
  let t := m.elim t fun a => t.handSlot .main a
  l.elim t fun a => t.handSlot .listen a

/-- Every yield timer re-determined, at a write of a class or of the yield time (R79). -/
def State.redetermineAll (s : State) : State := s.each allAnts fun a t => t.redetermine a

/-- A write of the yield time is taken: every timer is re-determined, and those at or above the new time expire in the
order of the antennas (R85). -/
def State.allocYieldTime (s : State) : State := s.redetermineAll.each allAnts fun a t => t.yieldIfDue a

/-- A wait entry's timer has reached the wait limit, which is not 0 (R75). -/
def State.waitDue (s : State) (e : WaitEntry) : Bool :=
  s.cfg.station.waitLimit != 0 && decide (e.since + s.cfg.station.waitLimit * 1000 ≤ s.now)

/-- The entries of an antenna's queue that have reached the wait limit expire in append order (R75). -/
def State.expireWaits (s : State) (a : Ant) : State :=
  s.each (s.alloc[a].queue.filter s.waitDue) fun e t => t.expire a e.pos e.kind .wait

/-- A write of the wait limit is taken (R75). -/
def State.allocWaitLimit (s : State) : State := s.each allAnts fun a t => t.expireWaits a

/-- A change of an antenna's share capacity is taken (R35, R71): a raise runs a listen hand-over, a lowering to 0 removes
every LISTEN entry, in append order, which R71 leaves open (log entry 46). -/
def State.allocCapacity (s : State) (a : Ant) (old new : Nat) : State :=
  if old < new then State.handListen a s
  else if new == 0 then
    s.each (s.alloc[a].queue.filter fun e => e.kind == .listen) fun e t => t.expire a e.pos .listen .ineligible
  else s

end Sys2Proof.Machine
end

