-- ==== Sys2Proof/Machine/Crosspoint.lean ====
section
/-! DEFINITION. The crosspoint driver (Chapter 7): starting and carrying out change sets, relay faults, filter switches,
the release delay, and the meanings of the driver's commands. -/

namespace Sys2Proof.Machine

/-! ## Startable entries (R104) -/

/-- A target that closes its crosspoint. -/
def Target.closes (t : Target) : Bool := t.goal != .opened

/-- Condition 4 of R104 for one target of a position. -/
def State.mainClear (s : State) (p : Pos) (t : Target) : Bool :=
  t.goal != .main ||
    ((allPos.all fun q => q == p || (s.xp q t.ant).cmd != .main) &&
      s.drv.inProg.all fun c =>
        c.pos == p ||
          match c.phase with
          | .opening _ => c.opens.all fun o => !(o.ant == t.ant && o.fromMain)
          | .waiting | .closing _ => true)

/-- Conditions 1, 2, 3 and 5 of R104. -/
def State.mayStart (s : State) (e : PendEntry) : Bool :=
  decide (s.drv.inProg.length < Config.inProgressMost) && (s.progress e.pos).isNone &&
    (e.targets.all fun t => s.cold t.ant) && s.drv.release == .none

/-- The targets that can start now: all of them, only those OPEN when condition 4 alone fails, or none (R104). -/
def State.startTargets (s : State) (e : PendEntry) : List Target :=
  if s.mayStart e then
    if e.targets.all fun t => s.mainClear e.pos t then e.targets else e.targets.filter fun t => !t.closes
  else []

/-! ## Carrying out a change set (R106, R107) -/

/-- The switch time of an antenna. It counts on an absent antenna too (log entry 53). -/
def State.switchTime (s : State) (a : Ant) : Nat := s.cfg.ants[a].switchTime

/-- The longest switch time among antennas, 0 for none (R106). -/
def State.longest (s : State) (xs : List Ant) : Nat := xs.foldl (fun n a => max n (s.switchTime a)) 0

/-- A crosspoint is commanded to a state; while it is under command its watch is empty (R106, R109). -/
def State.command (s : State) (p : Pos) (t : Target) : State :=
  s.setXp p t.ant { s.xp p t.ant with cmd := t.goal, watch := none }

/-- The change sets in progress replaced. -/
def State.setProgress (s : State) (xs : List ChangeSet) : State := s.setDrv { s.drv with inProg := xs }

/-- The change set of a position replaced by another of it. -/
def State.putProgress (s : State) (c : ChangeSet) : State :=
  s.setProgress (s.drv.inProg.map fun x => if x.pos == c.pos then c else x)

/-- The change set of a position leaves the in-progress count (R107). -/
def State.endProgress (s : State) (p : Pos) : State := s.setProgress (s.drv.inProg.filter fun x => x.pos != p)

/-- The closings of a change set. -/
def ChangeSet.closings (c : ChangeSet) : List Target := c.targets.filter Target.closes

/-- The closing phase of a change set begins: each closing is commanded, and the phase lasts the longest switch time
among their antennas (R106). -/
def State.beginClosing (s : State) (c : ChangeSet) : State :=
  let t := s.putProgress { c with phase := .closing (s.now + s.longest (c.closings.map (·.ant))) }
  t.each c.closings fun x y => y.command c.pos x

/-- The end of an opening phase whose readback agreed, or that opened nothing: the change set completes, waits for cold,
or begins its closing phase (R106). -/
def State.afterOpening (s : State) (c : ChangeSet) : State :=
  if c.closings.isEmpty then s.endProgress c.pos
  else if c.closings.all fun t => s.cold t.ant then s.beginClosing c
  else s.putProgress { c with phase := .waiting }

/-- A crosspoint is carried in the opening phase: to be OPEN, or to go from one closed state to the other (R106). -/
def State.opensFirst (s : State) (p : Pos) (t : Target) : Bool :=
  !t.closes || ((s.xp p t.ant).cmd != .opened && (s.xp p t.ant).cmd != t.goal)

/-- The start of a change set of a position: its openings are commanded, each holding carried goes to SWITCHING, and an
opening phase of no length ends at once (R104, R106, R52). -/
def State.startSet (s : State) (p : Pos) (ts : List Target) : State :=
  let opens := (ts.filter fun t => s.opensFirst p t).map fun t =>
    (⟨t.ant, (s.xp p t.ant).cmd == .main⟩ : OpenedXp)
  let c : ChangeSet := ⟨p, ts, .opening (s.now + s.longest (opens.map (·.ant))), opens⟩
  let t := s.setProgress (s.drv.inProg ++ [c])
  let t := t.each opens fun o x => x.command p ⟨o.ant, .opened⟩
  let t := t.each ts fun g x => x.moveServed p g .awaiting .switching
  if opens.isEmpty then t.afterOpening c else t

/-- Targets leave the position's entry; an entry left with none is removed (R104). -/
def State.listTake (s : State) (p : Pos) (ts : List Target) : State :=
  s.setList (dropTargets s.drv.list fun e t => e.pos == p && ts.contains t)

/-- The driver starts the first startable entry of the pending list, if there is one (R104). -/
def State.startFirst (s : State) : State :=
  match s.drv.list.find? fun e => !(s.startTargets e).isEmpty with
  | none => s
  | some e => (s.listTake e.pos (s.startTargets e)).startSet e.pos (s.startTargets e)

/-! ## Relay faults (R109 to R112) -/

/-- The positions that a FAULT notice goes to (R110 step 2). -/
def State.affected (s : State) (p : Pos) (a : Ant) (q : Pos) : Bool :=
  q == p || s.alloc[a].holder == some q || s.alloc[a].listeners.contains q || s.alloc[a].queue.any fun e => e.pos == q

/-- Step 3 of R110: no closing on the antenna stays in the pending list, or in a change set whose closing phase has not
begun. A waiting change set left with no closing completes (log entry 26). -/
def State.dropClosings (s : State) (a : Ant) : State :=
  let t := s.setList (dropTargets s.drv.list fun _ x => x.ant == a && x.closes)
  let strip (c : ChangeSet) : ChangeSet := { c with targets := c.targets.filter fun x => !(x.ant == a && x.closes) }
  let xs := t.drv.inProg.map fun c =>
    match c.phase with
    | .opening _ | .waiting => strip c
    | .closing _ => c
  t.setProgress (xs.filter fun c =>
    match c.phase with
    | .waiting => !c.closings.isEmpty
    | .opening _ | .closing _ => true)

/-- Step 4 of R110, the fault opening: every crosspoint of the antenna commanded MAIN or LISTEN gets the target OPEN. New
entries of several positions are made in the order P1 to P6, which R110 leaves open (log entry 48). -/
def State.faultOpening (s : State) (a : Ant) : State :=
  s.each allPos fun q t => if (t.xp q a).cmd != .opened then t.addTargets q [⟨a, .opened⟩] else t

/-- An antenna's fault flag set or cleared (R44). -/
def State.setFault (s : State) (a : Ant) (on : Bool) : State := s.setDrv { s.drv with faults := upd s.drv.faults a on }

/-- A RELAY fault at a crosspoint (R110 on a clear flag, R112 on a set one). Allocation takes the fault event within the
command that finds the fault (log entry 47). -/
def State.relayFault (s : State) (p : Pos) (a : Ant) (f : Finding) : State :=
  let frame := noticeFrame p (.fault a (s.xp p a).cmd (s.xp p a).closed f)
  let t := s.offer stationLink frame
  if s.drv.faults[a] then (t.dropClosings a).faultOpening a
  else
    let t := (t.setFault a true).each (allPos.filter fun q => s.affected p a q) fun q x => x.offer (linkOf q) frame
    ((t.dropClosings a).faultOpening a).takeFault a

/-- RELAY faults at several crosspoints of a position, in order. -/
def State.relayFaults (s : State) (p : Pos) (xs : List Ant) (f : Finding) : State :=
  s.each xs fun a t => t.relayFault p a f

/-! ## The ends of the phases (R107, R109) -/

/-- The target that a closing not made becomes in the pending list: a newer one for the same crosspoint takes precedence
(R109). -/
def State.newerTarget (s : State) (p : Pos) (t : Target) : Target :=
  ((s.pendEntry p).bind fun e => e.targets.find? fun x => x.ant == t.ant).getD t

/-- Closings that were not made return to the pending list together, and their holdings go back to AWAITING (R109). -/
def State.returnClosings (s : State) (p : Pos) (ts : List Target) : State :=
  (s.each ts fun x y => y.moveServed p x .switching .awaiting).addTargets p (ts.map fun x => s.newerTarget p x)

/-- The readback at the end of an opening phase (R107, R109): an opened crosspoint that senses CLOSED is a RELAY fault. -/
def State.endOpening (s : State) (c : ChangeSet) : State :=
  let bad := (c.opens.filter fun o => (s.xp c.pos o.ant).closed).map (·.ant)
  if bad.isEmpty then s.afterOpening c
  else
    let t := (s.endProgress c.pos).returnClosings c.pos (c.closings.filter fun x => !bad.contains x.ant)
    t.relayFaults c.pos bad .opening

/-- The readback at the end of a closing phase and the completion (R107): each holding carried on an antenna that agreed
goes to SET, and a closed crosspoint that senses OPEN is a RELAY fault. An antenna whose flag is set has not agreed, nor
has a holding whose antenna faulted in the phase though the flag has been cleared (R108, log entry 25). Two holdings that
go to SET are told in the order of the targets of the change set, which R52 leaves open (log entry 45). -/
def State.endClosing (s : State) (c : ChangeSet) : State :=
  let bad := (c.closings.filter fun x => !(s.xp c.pos x.ant).closed).map (·.ant)
  let t := s.endProgress c.pos
  let t := t.each (c.closings.filter fun x => (s.xp c.pos x.ant).closed && !s.drv.faults[x.ant]) fun x y =>
    match slotOf x.goal with
    | some slot => y.completeHolding c.pos slot x.ant .switching
    | none => y
  t.relayFaults c.pos bad .closing

/-! ## The filter banks (R113, R114) -/

/-- The selected filter of a position (R113). -/
def State.selectedFilter (s : State) (p : Pos) : Option Band :=
  match s.bandOf p with
  | some b =>
    if !s.cfg.pos[p].filterThru && !s.isParked p && s.cfg.pos[p].installed.getLsbD b.val then some b else none
  | none => none

/-- A filter switch may begin: outside key span, RFS inactive, no release delay or release opening (R114). -/
def State.mayFilter (s : State) (p : Pos) : Bool := !s.inSpan p && !s.rfsActive p && s.drv.release == .none

/-- A filter switch begins: the commanded filter becomes the selected one (R114). -/
def State.beginFilter (s : State) (p : Pos) : State :=
  let f := s.drv.filters[p]
  s.setFilter p { f with commanded := f.selected, sw := .switching s.now }

/-- A filter switch starts if the selection differs from the commanded filter; it waits in PENDING while it may not begin
(R113, R114). -/
def State.startFilter (s : State) (p : Pos) : State :=
  let f := s.drv.filters[p]
  match f.sw with
  | .switching _ => s
  | .idle | .pending =>
    if f.selected == f.commanded then s.setFilter p { f with sw := .idle }
    else if s.mayFilter p then s.beginFilter p
    else s.setFilter p { f with sw := .pending }

/-- The driver determines the selected filter of a position again (R113). -/
def State.reselect (s : State) (p : Pos) : State :=
  (s.setFilter p { s.drv.filters[p] with selected := s.selectedFilter p }).startFilter p

/-- A PENDING filter switch begins if it may (R114, R119). -/
def State.beginPending (s : State) (p : Pos) : State :=
  if s.drv.filters[p].sw == .pending && s.mayFilter p then s.beginFilter p else s

/-- The end of a filter switch (R114): IDLE, a new switch if the selection then differs, and the settle condition. -/
def State.endFilter (s : State) (p : Pos) : State :=
  match s.drv.filters[p].sw with
  | .switching since =>
    if since + Config.filterSwitchTime ≤ s.now then
      ((s.setFilter p { s.drv.filters[p] with sw := .idle }).startFilter p).trySettle p
    else s
  | .idle | .pending => s

/-! ## The release delay and the release opening (R115) -/

/-- Some crosspoint on an antenna is not commanded OPEN. -/
def State.anyCommanded (s : State) (a : Ant) : Bool := allPos.any fun p => (s.xp p a).cmd != .opened

/-- Every crosspoint commanded OPEN, watches empty. -/
def openAll (d : Driver) : Vector (Vector Crosspoint 20) 6 :=
  allPos.foldl (fun v p =>
    upd v p (allAnts.foldl (fun w a => upd w a { w[a] with cmd := .opened, watch := none }) v[p])) d.xps

/-- The release opening begins (R115). -/
def State.releaseOpening (s : State) : State :=
  let opened := allAnts.filter s.anyCommanded
  let filters := allPos.foldl (fun v p => upd v p { v[p] with commanded := none }) s.drv.filters
  s.setDrv { s.drv with
    xps := openAll s.drv, filters := filters,
    release := .opening (s.now + max Config.releaseOpeningLeast (s.longest opened)) }

/-- The end of the release opening (R115): every crosspoint is read back, the release ends and every filter is
determined again. -/
def State.endRelease (s : State) : State :=
  let t := s.each allPos fun p x => x.relayFaults p (allAnts.filter fun a => (s.xp p a).closed) .opening
  let t := t.setDrv { t.drv with release := .none }
  t.each allPos fun p x => x.reselect p

/-! ## Meanings of the driver's commands -/

/-- CHANGE_SET_START (R104, R106): the commanded states that change reach receiver protection (R158). -/
def execChangeSetStart (s : State) : Host.Outcome State Fault Refusal :=
  whenPowered s fun s => s.startFirst.recomputeBlank

/-- OPENING_PHASE_END of a position's change set (R106, R107, R109). -/
def execOpeningPhaseEnd (p : Pos) (s : State) : Host.Outcome State Fault Refusal :=
  whenPowered s fun s =>
    match s.progress p with
    | some c =>
      match c.phase with
      | .opening endsAt => if endsAt ≤ s.now then (s.endOpening c).recomputeBlank else s
      | .waiting | .closing _ => s
    | none => s

/-- CLOSING_PHASE_START of a position's change set (R106). -/
def execClosingPhaseStart (p : Pos) (s : State) : Host.Outcome State Fault Refusal :=
  whenPowered s fun s =>
    match s.progress p with
    | some c =>
      match c.phase with
      | .waiting => if c.closings.all fun t => s.cold t.ant then (s.beginClosing c).recomputeBlank else s
      | .opening _ | .closing _ => s
    | none => s

/-- CLOSING_PHASE_END of a position's change set (R107). -/
def execClosingPhaseEnd (p : Pos) (s : State) : Host.Outcome State Fault Refusal :=
  whenPowered s fun s =>
    match s.progress p with
    | some c =>
      match c.phase with
      | .closing endsAt => if endsAt ≤ s.now then (s.endClosing c).recomputeBlank else s
      | .waiting | .opening _ => s
    | none => s

/-- CROSSPOINT_WATCH_FAULT of a crosspoint (R109, R112): a watch that raised the fault starts again (log entry 13). -/
def execCrosspointWatchFault (p : Pos) (a : Ant) (s : State) : Host.Outcome State Fault Refusal :=
  whenPowered s fun s =>
    match (s.xp p a).watch with
    | some start =>
      if start + Config.relayWatchTime ≤ s.now then
        (s.setXp p a { s.xp p a with watch := some s.now }).relayFault p a .watch
      else s
    | none => s

/-- CONTACT_SENSE_CHANGE of a crosspoint (R101, R158). -/
def execContactSenseChange (p : Pos) (a : Ant) (closed : Bool) (s : State) : Host.Outcome State Fault Refusal :=
  whenPowered s fun s => (s.setXp p a { s.xp p a with closed := closed }).recomputeBlank

/-- FILTER_SWITCH_BEGIN of a position (R114, log entry 17). -/
def execFilterSwitchBegin (p : Pos) (s : State) : Host.Outcome State Fault Refusal :=
  whenPowered s fun s => s.beginPending p

/-- FILTER_SWITCH_END of a position (R114). -/
def execFilterSwitchEnd (p : Pos) (s : State) : Host.Outcome State Fault Refusal :=
  whenPowered s fun s => s.endFilter p

/-- RELEASE_DELAY_EXPIRY (R115). -/
def execReleaseDelayExpiry (s : State) : Host.Outcome State Fault Refusal :=
  whenPowered s fun s =>
    match s.drv.release with
    | .delay since => if since + Config.releaseDelay ≤ s.now then s.releaseOpening.recomputeBlank else s
    | .none | .opening _ => s

/-- RELEASE_OPENING_END (R115). -/
def execReleaseOpeningEnd (s : State) : Host.Outcome State Fault Refusal :=
  whenPowered s fun s =>
    match s.drv.release with
    | .opening endsAt => if endsAt ≤ s.now then s.endRelease else s
    | .none | .delay _ => s

end Sys2Proof.Machine
end

