-- ==== Sys2Proof/Machine/Interlock.lean ====
section
/-! DEFINITION. The interlock unit (Chapter 9): the interlock rules and the key decision. -/

namespace Sys2Proof.Machine

/-- Some position other than `c` holds a key-span record, is in the keyer positions, and carries a band of the keyer
bands (R142). -/
def State.keyerExists (s : State) (r : Rule) (c : Pos) : Bool :=
  allPos.any fun k =>
    k != c && r.keyerPos.getLsbD k.val &&
      match s.spans[k] with
      | some x => r.keyerBands.getLsbD x.band.val
      | none => false

/-- The own match of a rule for candidate `c` asking to key on band `b` (R142). -/
def State.ownMatch (s : State) (r : Rule) (c : Pos) (b : Band) : Bool :=
  r.enabled && r.candPos.getLsbD c.val && r.candBands.getLsbD b.val && (s.keyerExists r c != r.inverse)

/-- The effective match of a rule, given that of the rule before it (R143). -/
def State.effective (s : State) (r : Rule) (c : Pos) (b : Band) (previous : Bool) : Bool :=
  s.ownMatch r c b && (!r.andPrevious || previous)

/-- The lowest rule of a run of rules that denies, given the effective match before the run (R143). -/
def State.ruleDenies (s : State) (c : Pos) (b : Band) (previous : Bool) : List RuleIx → Option RuleIx
  | [] => none
  | n :: rest =>
    let e := s.effective s.cfg.rules[n] c b previous
    if e && s.cfg.rules[n].action == .deny then some n else State.ruleDenies s c b e rest

/-- The lowest interlock rule that denies; and-previous of I0 tests that the candidate is of class MULT (R143). -/
def State.denyingRule (s : State) (c : Pos) (b : Band) : Option RuleIx := s.ruleDenies c b (!s.isRun c) allRules

/-- The SOLO check fails (R140). -/
def State.soloBlocks (s : State) (p : Pos) (kind : SegKind) : Bool :=
  allPos.any fun q =>
    q != p &&
      match s.spans[q] with
      | some x => kind == .solo || x.solo
      | none => false

/-- Checks 3 to 9 of the key decision on band `b` with main antenna `a` (R138). -/
def State.decideOn (s : State) (p : Pos) (a : Ant) (b : Band) : Except Denial KeySpan :=
  match s.bands[p].curTx with
  | none => .error .segment
  | some g =>
    let e := s.entry b g
    if e.kind == .listen then .error .segment
    else if !e.txSet.getLsbD a.val || s.drv.faults[a] then .error .ineligible
    else if s.soloBlocks p e.kind then .error .solo
    else if s.cfg.bands[b].limit ≤ s.bandCount b then .error .bandBusy
    else if s.cfg.station.stationLimit ≤ s.stationCount then .error .stationBusy
    else
      match s.denyingRule p b with
      | some n => .error (.rule n)
      | none => if s.protectsAgainst p then .error .protect else .ok ⟨b, e.kind == .solo⟩

/-- The key decision of a position: the denial reason of the first check that fails, or the key-span record of an
acceptance (R137 to R145). -/
def State.keyDecision (s : State) (p : Pos) : Except Denial KeySpan :=
  match s.hold[p].main with
  | none => .error .noAntenna
  | some h =>
    if h.sw == .awaiting then .error .noAntenna
    else
      match s.bands[p].state with
      | .valid b => s.decideOn p h.ant b
      | .none | .invalid | .mismatch _ => .error .band

end Sys2Proof.Machine
end

