-- ==== Sys2Proof/Machine/Sequencer.lean ====
section
/-! DEFINITION. The key sequencer (Chapter 8): its states, what it sends at the entry into key span and at the leaving
of TAIL, and the meanings of the commands it takes. -/

namespace Sys2Proof.Machine

/-- The accepted value of PTT is ACTIVE. -/
def State.pttActive (s : State) (p : Pos) : Bool := s.sam.pos[p].ptt.accepted.isActive

/-- The four blocks take the leaving of TAIL, in the order of R119. -/
def State.leaving (s : State) (p : Pos) : State :=
  ((((s.setSpan p none).allocLeaving p).beginPending p).recomputeBlank)

/-- The three blocks take the entry into key span, in the order of R119; the cold condition is a view. -/
def State.entering (s : State) (p : Pos) : State := (s.allocEntry p).recomputeBlank

/-- Entry to LOCKOUT with a cause and its LOCKOUT notice (R128). -/
def State.lockOut (s : State) (p : Pos) (c : LockCause) : State := (s.enter p (.lockout c)).notify p (.lockout c)

/-- The LOCKOUT notice that follows when the state entered is LOCKOUT (R125). -/
def State.lockNotice (s : State) (p : Pos) (q : SeqState) : State :=
  match q with
  | .lockout c => s.notify p (.lockout c)
  | .idle | .settling _ | .keyed _ | .tail _ _ _ _ | .denied | .parked => s

/-- An end of TAIL into a chosen state: AMP falls, the leaving of TAIL is taken, and KEY-ENDED is sent (R125, R127). The
state is chosen from the sequencer's own record and the accepted lines alone, so it may stand before the four blocks act
(log entry 41). -/
def State.endSpan (s : State) (p : Pos) (c : EndCause) (keyTime : Nat) (q : SeqState) : State :=
  (((s.enter p q).leaving p).notify p (.keyEnded c keyTime q)).lockNotice p q

/-- The state chosen at the end of TAIL (R125 step 3). -/
def State.afterTail (s : State) (p : Pos) (pend : Option LockCause) : SeqState :=
  match pend with
  | some c => .lockout c
  | none => if s.rfsActive p then .lockout .rfHang else if s.pttActive p then .denied else .idle

/-- TAIL ends (R125). -/
def State.endTail (s : State) (p : Pos) (c : TailCause) (pend : Option LockCause) (keyTime : Nat) : State :=
  s.endSpan p (.tail c) keyTime (s.afterTail p pend)

/-- The key time of a state: that of KEYED so far, that kept in TAIL, 0 from SETTLING (R117, R124). -/
def State.keyTime (s : State) (p : Pos) : Nat :=
  match s.seqs[p] with
  | .keyed since => s.now - since
  | .tail _ _ t _ => t
  | .idle | .settling _ | .denied | .lockout _ | .parked => 0

/-- Entry to TAIL; with a tail setting of 0 it ends at the moment it is entered (R124). -/
def State.enterTail (s : State) (p : Pos) (c : TailCause) (pend : Option LockCause) : State :=
  let kt := s.keyTime p
  let t := s.enter p (.tail c pend kt s.now)
  if s.cfg.pos[p].tail == 0 then t.endTail p c pend kt else t

/-- Entry to SETTLING at an accepted key decision, whose record is made within the decision (R121, R145). -/
def State.enterSettling (s : State) (p : Pos) (k : KeySpan) : State :=
  ((((s.setSpan p (some k)).enter p (.settling s.now)).entering p).trySettle p)

/-- The sequencer takes a PTT change event (R120, R122 to R124, R126, R128, R130). -/
def State.seqPtt (s : State) (p : Pos) (active : Bool) : State :=
  match s.seqs[p] with
  | .idle =>
    if active then
      match s.keyDecision p with
      | .ok k => s.enterSettling p k
      | .error d => (s.enter p .denied).notify p (.keyDenied d)
    else s
  | .settling _ | .keyed _ => if active then s else s.enterTail p .release none
  | .denied => if active then s else s.enter p .idle
  | .tail _ _ _ _ | .lockout _ | .parked => s

/-- The sequencer takes an RFS change event (R120, R122 to R124, R126, R128, R130). -/
def State.seqRfs (s : State) (p : Pos) (active : Bool) : State :=
  if active then
    match s.seqs[p] with
    | .idle | .denied => s.lockOut p .unsequenced
    | .settling _ => s.enterTail p .unsequenced (some .unsequenced)
    | .keyed _ | .tail _ _ _ _ | .lockout _ | .parked => s
  else s

/-- The sequencer takes a band change of its position (R120, R122 to R124, R126, R128, R130). -/
def State.seqBandChange (s : State) (p : Pos) : State :=
  match s.seqs[p] with
  | .settling _ | .keyed _ => s.enterTail p .band none
  | .idle | .tail _ _ _ _ | .denied | .lockout _ | .parked => s

/-- The sequencer takes a KEY-LINE fault (R127). -/
def State.seqKeyLine (s : State) (p : Pos) : State :=
  match s.seqs[p] with
  | .idle | .denied => s.lockOut p .keyLine
  | .settling _ | .keyed _ | .tail _ _ _ _ => s.endSpan p .keyLine (s.keyTime p) (.lockout .keyLine)
  | .lockout c => if c == .keyLine then s else s.lockOut p .keyLine
  | .parked => s

/-- The key time limit has been reached in KEYED (R123). -/
def State.keyLimit (s : State) (p : Pos) : State :=
  match s.seqs[p] with
  | .keyed since => if since + s.cfg.pos[p].keyLimit * 1000 ≤ s.now then s.enterTail p .timeout none else s
  | .idle | .settling _ | .tail _ _ _ _ | .denied | .lockout _ | .parked => s

/-- The tail timer has reached the tail setting in TAIL (R124). -/
def State.tailLimit (s : State) (p : Pos) : State :=
  match s.seqs[p] with
  | .tail c pend kt since => if since + s.cfg.pos[p].tail ≤ s.now then s.endTail p c pend kt else s
  | .idle | .settling _ | .keyed _ | .denied | .lockout _ | .parked => s

/-- A write of a sequencer setting takes effect on a timer already running (R131). -/
def State.seqSettings (s : State) (p : Pos) : State :=
  match s.seqs[p] with
  | .settling _ => s.trySettle p
  | .keyed _ => s.keyLimit p
  | .tail _ _ _ _ => s.tailLimit p
  | .idle | .denied | .lockout _ | .parked => s

/-- The answer and the effect of CLEAR (R129). -/
def State.clearLock (s : State) (p : Pos) : Result × (State → State) :=
  match s.seqs[p] with
  | .parked => justAnswer .parked
  | .lockout _ =>
    if s.pttActive p || s.rfsActive p then justAnswer .state else (.done, fun t => t.enter p .idle)
  | .idle | .settling _ | .keyed _ | .tail _ _ _ _ | .denied => justAnswer .state

/-- The answer and the effect of PROTECT (R160). -/
def State.protectRequest (s : State) (p : Pos) (on : Bool) : Result × (State → State) :=
  if s.isParked p then justAnswer .parked
  else if on then
    match s.bandOf p with
    | none => justAnswer .band
    | some _ =>
      if s.prot[p].flag then justAnswer .done
      else if s.cfg.station.protectLimit ≤ s.flagCount then justAnswer .full
      else (.done, fun t => t.setFlag p true)
  else (.done, fun t => t.setFlag p false)

/-! ## Meanings of the sequencer's commands -/

/-- PTT_CHANGE of a position (R2, R3): the debounced level is accepted and the change event delivered. -/
def execPttChange (p : Pos) (s : State) : Host.Outcome State Fault Refusal :=
  whenPowered s fun s =>
    let x := s.sam.pos[p]
    match x.ptt.change with
    | some v => (s.setLines p { x with ptt := { x.ptt with accepted := .of v } }).seqPtt p v
    | none => s

/-- RFS_CHANGE of a position (R2, R3): the driver's cold condition reads the accepted value (R102). -/
def execRfsChange (p : Pos) (s : State) : Host.Outcome State Fault Refusal :=
  whenPowered s fun s =>
    let x := s.sam.pos[p]
    match x.rfs.change with
    | some v => (s.setLines p { x with rfs := { x.rfs with accepted := .of v } }).seqRfs p v
    | none => s

/-- KEY_LINE_FAULT of a position (R12, R127): the disagreement stands at the sample, so a new watch starts there. -/
def execKeyLineFault (p : Pos) (s : State) : Host.Outcome State Fault Refusal :=
  whenPowered s fun s =>
    let x := s.sam.pos[p]
    match x.keyWatch with
    | some start =>
      if start + Config.keyWatchTime ≤ s.now then
        (s.setLines p { x with keyWatch := some s.now }).seqKeyLine p
      else s
    | none => s

/-- AMPLIFIER_SETTLE_EXPIRY of a position (R121). -/
def execAmplifierSettleExpiry (p : Pos) (s : State) : Host.Outcome State Fault Refusal :=
  whenPowered s fun s => s.trySettle p

/-- KEY_TIME_LIMIT_EXPIRY of a position (R123). -/
def execKeyTimeLimitExpiry (p : Pos) (s : State) : Host.Outcome State Fault Refusal :=
  whenPowered s fun s => s.keyLimit p

/-- TAIL_END of a position (R125). -/
def execTailEnd (p : Pos) (s : State) : Host.Outcome State Fault Refusal :=
  whenPowered s fun s => s.tailLimit p

/-- WAIT_EXPIRY of a position's entry in an antenna's wait queue (R75). -/
def execWaitExpiry (a : Ant) (p : Pos) (s : State) : Host.Outcome State Fault Refusal :=
  whenPowered s fun s =>
    match s.alloc[a].queue.find? fun e => e.pos == p with
    | some e => if s.waitDue e then s.expire a p e.kind .wait else s
    | none => s

/-- YIELD_EXPIRY of an antenna (R78, R80). -/
def execYieldExpiry (a : Ant) (s : State) : Host.Outcome State Fault Refusal :=
  whenPowered s fun s => s.yieldIfDue a

end Sys2Proof.Machine
end

