-- ==== Sys2Proof/Machine/Bands.lean ====
section
/-! DEFINITION. The band unit (Chapter 2): band state, frequency reports, current and settled segments with their
dwells, the band change, and the meanings of the commands it takes. -/

namespace Sys2Proof.Machine

/-! ## Band state and segments (R14, R23) -/

/-- The lines band that a band code gives (R14). -/
def linesOfCode (c : BitVec 4) : LinesBand :=
  match c.toNat with
  | 0 => .none
  | 1 => .band 0
  | 2 => .band 1
  | 3 => .band 2
  | 4 => .band 3
  | 5 => .band 4
  | 6 => .band 5
  | _ => .invalid

/-- The band state that the lines band and the report give (R14). -/
def deriveState (lines : LinesBand) (report : Option Report) : BandState :=
  match lines with
  | .unknown | .none => .none
  | .invalid => .invalid
  | .band b =>
    match report with
    | some r => if r.fresh.isSome && r.band != some b then .mismatch b else .valid b
    | none => .valid b

/-- The current TX and RX segments of a band state and report (R23); `dflt` gives each band's default segment. -/
def currentOf (dflt : Band → Seg) (state : BandState) (report : Option Report) : Option Seg × Option Seg :=
  match state with
  | .none | .invalid => (none, none)
  | .mismatch b => (some (dflt b), some (dflt b))
  | .valid b =>
    match report with
    | some r =>
      if r.fresh.isSome then (some (segOfFreq b (r.tx.getD r.rx)), some (segOfFreq b r.rx))
      else (some (dflt b), some (dflt b))
    | none => (some (dflt b), some (dflt b))

/-- The default segment of a band (R23). -/
def State.defaultSeg (s : State) (b : Band) : Seg := s.cfg.bands[b].defaultSeg

/-- The current segments that R23 gives a position. -/
def State.currentNow (s : State) (p : Pos) : Option Seg × Option Seg :=
  currentOf s.defaultSeg s.bands[p].state s.bands[p].report

/-! ## Sides of a band unit (R24) -/

/-- The current segment of a side. -/
def BandUnit.current (u : BandUnit) (side : Side) : Option Seg :=
  match side with
  | .tx => u.curTx | .rx => u.curRx

/-- The dwell timer of a side. -/
def BandUnit.dwell (u : BandUnit) (side : Side) : Option Nat :=
  match side with
  | .tx => u.dwellTx | .rx => u.dwellRx

/-- A band unit with the dwell timer of a side replaced. -/
def BandUnit.setDwell (u : BandUnit) (side : Side) (x : Option Nat) : BandUnit :=
  match side with
  | .tx => { u with dwellTx := x } | .rx => { u with dwellRx := x }

/-- A band unit whose settled segment of a side has followed its current one, with the dwell timer stopped (R25). -/
def BandUnit.follow (u : BandUnit) (side : Side) : BandUnit :=
  match side with
  | .tx => { u with setTx := u.curTx, dwellTx := none }
  | .rx => { u with setRx := u.curRx, dwellRx := none }

/-- The settled segment of a side follows, and allocation takes the settled-segment-change event (R25). -/
def State.settleSide (s : State) (p : Pos) (side : Side) : State :=
  (s.setBandUnit p (s.bands[p].follow side)).allocSegmentChange p side

/-- A side whose current segment has changed: its dwell starts, or with a segment dwell of 0 the settled segment follows
at once; a current segment equal to the settled one stops the dwell (R24). -/
def State.dwellSide (s : State) (p : Pos) (side : Side) : State :=
  let u := s.bands[p]
  if u.current side == u.settled side then s.setBandUnit p (u.setDwell side none)
  else if s.cfg.pos[p].dwell == 0 then s.settleSide p side
  else s.setBandUnit p (u.setDwell side (some s.now))

/-- The current segments computed again; each side that changes is handled by R24, TX first (log entry 19). -/
def State.recomputeSegs (s : State) (p : Pos) : State :=
  let u := s.bands[p]
  let c := s.currentNow p
  let t := s.setBandUnit p { u with curTx := c.1, curRx := c.2 }
  let t := if u.curTx == c.1 then t else t.dwellSide p .tx
  if u.curRx == c.2 then t else t.dwellSide p .rx

/-- A running dwell of a side has reached the segment dwell (R25). -/
def State.dwellDue (s : State) (p : Pos) (side : Side) : Bool :=
  match s.bands[p].dwell side with
  | some start => decide (start + s.cfg.pos[p].dwell ≤ s.now)
  | none => false

/-- The settled segment of a side follows if its dwell has run out (R25). -/
def State.dwellEnd (s : State) (p : Pos) (side : Side) : State :=
  if s.dwellDue p side then s.settleSide p side else s

/-! ## Reports (R18 to R21, R27) -/

/-- A BAND-STATE notice of a position (R18). -/
def State.notifyBand (s : State) (p : Pos) : State :=
  let u := s.bands[p]
  s.notify p (.bandState u.state u.lines u.curTx u.curRx)

/-- A frequency-change event: receiver protection recomputes, if either frequency of R26 differs from those before
(R27, R157). -/
def State.freqChange (s : State) (p : Pos) (before : Option Nat × Option Nat) : State :=
  if (s.rxFreq p, s.txFreq p) == before then s else s.recomputeBlank

/-- The held report replaced, and the band state derived, segments computed, frequency change and BAND-STATE notice made
as R20 and R21 order them. -/
def State.newReport (s : State) (p : Pos) (r : Report) : State :=
  let u := s.bands[p]
  let before := (s.rxFreq p, s.txFreq p)
  let t := s.setBandUnit p { u with report := some r, state := deriveState u.lines (some r) }
  let t := (t.recomputeSegs p).freqChange p before
  if deriveState u.lines (some r) == u.state then t else t.notifyBand p

/-- An accepted report (R20). -/
def State.acceptReport (s : State) (p : Pos) (rx : Nat) (tx : Option Nat) : State :=
  s.newReport p ⟨rx, tx, bandOfFreq rx, some ⟨s.now, s.cfg.pos[p].freshness * 1000⟩⟩

/-- A frequency in the range that a report may give (R19). -/
def freqInRange (f : Nat) : Bool := decide (100000 ≤ f) && decide (f ≤ 60000000)

/-- The answer and the effect of FREQ (R19, R20). -/
def State.freqRequest (s : State) (p : Pos) (rx : BitVec 32) (tx : Option (BitVec 32)) : Result × (State → State) :=
  let f := tx.map (·.toNat)
  if s.isParked p then justAnswer .parked
  else if !freqInRange rx.toNat || !(f.elim true freqInRange) then justAnswer .range
  else if !(f.elim true fun y => bandOfFreq y == bandOfFreq rx.toNat) then justAnswer .splitBand
  else (.done, fun t => t.acceptReport p rx.toNat f)

/-- The freshness timer has reached its freshness time: the report goes stale (R21). -/
def State.freshEnd (s : State) (p : Pos) : State :=
  match s.bands[p].report with
  | some r =>
    match r.fresh with
    | some x => if x.start + x.limit ≤ s.now then s.newReport p { r with fresh := none } else s
    | none => s
  | none => s

/-! ## Band change (R15 to R18) -/

/-- The report that a band change keeps: one whose report band is the new band (R16). -/
def keptReport (lines : LinesBand) (report : Option Report) : Option Report :=
  match lines, report with
  | .band b, some r => if r.band == some b then some r else none
  | _, _ => none

/-- The band unit after a band change to new lines (R15 steps 1 to 4, R16). -/
def State.changedUnit (s : State) (p : Pos) (lines : LinesBand) : BandUnit :=
  let r := keptReport lines s.bands[p].report
  let st := deriveState lines r
  let c := currentOf s.defaultSeg st r
  ⟨lines, st, r, c.1, c.2, c.1, c.2, none, none⟩

/-- A band change: the band unit, the BAND-STATE notice, and then the four blocks that take the event (R15 to R18, log
entry 18). -/
def State.bandChange (s : State) (p : Pos) (lines : LinesBand) : State :=
  let t := (s.setBandUnit p (s.changedUnit p lines)).notifyBand p
  let t := (t.allocBandChange p).seqBandChange p
  ((t.setFlag p false).recomputeBlank).reselect p

/-- The band unit takes a band-code event; a PARKED position's ignores it (R14, R15, R29). -/
def State.takeCode (s : State) (p : Pos) (code : BitVec 4) : State :=
  if s.isParked p || linesOfCode code == s.bands[p].lines then s else s.bandChange p (linesOfCode code)

/-! ## Writes and parking -/

/-- A default segment written: the current segments of each position on that band are computed again (R23), the positions
in the order P1 to P6, which R23 and R178 leave open (log entry 44). -/
def State.newDefaultSeg (s : State) (b : Band) : State :=
  s.each allPos fun p t => if t.bandOf p == some b then t.recomputeSegs p else t

/-- A segment dwell written: a dwell that has already run that long ends at once (R25). -/
def State.newDwell (s : State) (p : Pos) : State := (s.dwellEnd p .tx).dwellEnd p .rx

/-! ## Meanings of the band unit's commands -/

/-- BAND_CODE_EVENT of a position (R6): the candidate's code becomes the accepted code and is delivered. -/
def execBandCodeEvent (p : Pos) (s : State) : Host.Outcome State Fault Refusal :=
  whenPowered s fun s =>
    let x := s.sam.pos[p]
    match x.candidate with
    | some c =>
      if c.ripe then (s.setLines p { x with code := some c.code, candidate := none }).takeCode p c.code else s
    | none => s

/-- FRESHNESS_EXPIRY of a position (R21). -/
def execFreshnessExpiry (p : Pos) (s : State) : Host.Outcome State Fault Refusal :=
  whenPowered s fun s => s.freshEnd p

/-- DWELL_EXPIRY of one side of a position (R25). -/
def execDwellExpiry (p : Pos) (side : Side) (s : State) : Host.Outcome State Fault Refusal :=
  whenPowered s fun s => s.dwellEnd p side

end Sys2Proof.Machine
end

