-- ==== Sys2Proof/Machine/Lines.lean ====
section
/-! DEFINITION. The line sampler (Chapter 1): what one sampling instant does to every line, to the settle candidates, to
the KEY readback watches and to the crosspoint watches, and the EDIT change. -/

namespace Sys2Proof.Machine

/-- The settle candidate after a sample of a code (R5), with the mark that its settle time has run out (R6, R7). -/
def nextCandidate (accepted : Option (BitVec 4)) (c : Option Candidate) (code : BitVec 4) (now settle : Nat) :
    Option Candidate :=
  if accepted == some code then none
  else
    match c with
    | some x =>
      if x.code == code then some { x with ripe := decide (x.start + settle ≤ now) } else some ⟨code, now, false⟩
    | none => some ⟨code, now, false⟩

/-- The KEY readback watch after a sample (R12): it starts, goes on, or ends. -/
def nextWatch (w : Option Nat) (disagrees : Bool) (now : Nat) : Option Nat :=
  if disagrees then some (w.getD now) else none

/-- One position's sampler section after a sample (R2, R5, R12). -/
def PosLines.sample (x : PosLines) (v : PosSample) (keyCommanded : Bool) (now settle : Nat) : PosLines :=
  { x with
    ptt := x.ptt.sample v.ptt
    rfs := x.rfs.sample v.rfs
    candidate := nextCandidate x.code x.candidate v.code now settle
    keySensed := v.key
    keyWatch := nextWatch x.keyWatch (v.key && !keyCommanded) now }

/-- A crosspoint disagrees: commanded OPEN and sensed CLOSED, or commanded closed and sensed OPEN (R101). -/
def Crosspoint.disagrees (x : Crosspoint) : Bool := (x.cmd == .opened) == x.closed

/-- A crosspoint is under command: in the running phase of a change set that commands it (R109). -/
def State.underCommand (s : State) (p : Pos) (a : Ant) : Bool :=
  match s.progress p with
  | some c =>
    match c.phase with
    | .opening _ => c.opens.any fun o => o.ant == a
    | .closing _ => c.closings.any fun t => t.ant == a
    | .waiting => false
  | none => false

/-- The watches of a position's crosspoints after a sample (R109). -/
def State.watchRow (s : State) (p : Pos) : Vector Crosspoint 20 :=
  allAnts.foldl (fun v a =>
    upd v a { v[a] with watch := nextWatch v[a].watch (v[a].disagrees && !s.underCommand p a) s.now }) s.drv.xps[p]

/-- The watches of every crosspoint after a sample; they are held empty during a release delay and a release opening,
and while the unit is held in reset (R109, R115). -/
def State.watchAll (s : State) : State :=
  if s.held || s.drv.release != .none then s
  else s.setDrv { s.drv with xps := allPos.foldl (fun v p => upd v p (s.watchRow p)) s.drv.xps }

/-- Every position's lines and EDIT after a sample; while the unit is held in reset they stay as the reset left them
and only the sensed level of KEY is read (R9, R12). -/
def State.sampleLines (s : State) (x : Sample) : State :=
  if s.held then s.each allPos fun p t => t.setLines p { t.sam.pos[p] with keySensed := x.pos[p].key }
  else
    (s.setEdit (s.sam.edit.sample x.edit)).each allPos fun p t =>
      t.setLines p (t.sam.pos[p].sample x.pos[p] t.outs[p].key t.now t.cfg.pos[p].bandSettle)

/-- One sampling instant (R1): the time base moves on by 1 ms, RESET is sampled whatever its accepted value (R9), then
the other lines and the contact watches. -/
def State.sample (s : State) (x : Sample) : State :=
  let t : State := { s with now := s.now + 1 }
  let t := t.setResetLine (t.sam.reset.sample x.reset)
  (t.sampleLines x).watchAll

/-! ## Meanings -/

/-- SAMPLING_INSTANT (R1, R2, R5, R12, R109). -/
def execSamplingInstant (x : Sample) (s : State) : Host.Outcome State Fault Refusal :=
  whenPowered s fun s => s.sample x

/-- EDIT_CHANGE (R2, R4): the accepted value is the EDIT gate (R177). -/
def execEditChange (s : State) : Host.Outcome State Fault Refusal :=
  whenPowered s fun s =>
    match s.sam.edit.change with
    | some v => s.setEdit { s.sam.edit with accepted := .of v }
    | none => s

end Sys2Proof.Machine
end

