-- ==== Sys2Proof/Machine/ConfigUnit.lean ====
section
/-! DEFINITION. The configuration unit (Chapter 12): what an accepted write does to the blocks that read its fields,
parking and un-parking, the answer to a write, and the saving of the store. -/

namespace Sys2Proof.Machine

/-! ## Parking and un-parking (R178, log entry 27) -/

/-- A position is parked: band unit (R29), allocation (R71), sequencer (R130), receiver protection (R161), filter
(R113). -/
def State.park (s : State) (p : Pos) : State :=
  let t := (s.setBandUnit p BandUnit.initial).allocPark p
  ((t.enter p .parked).setCauses p Protection.initial).reselect p

/-- A position's sampler section taken afresh at un-parking; the KEY readback goes on (R8). -/
def PosLines.afresh (x : PosLines) : PosLines :=
  { PosLines.initial with keySensed := x.keySensed, keyWatch := x.keyWatch }

/-- A position is un-parked: line sampler (R8), sequencer (R130), receiver protection (R158), filter (R113). -/
def State.unpark (s : State) (p : Pos) : State :=
  (((s.setLines p s.sam.pos[p].afresh).enter p .idle).recomputeBlank).reselect p

/-! ## What the changed fields do (R178, log entry 28) -/

/-- An effect that a changed field has. -/
def State.onChange (s : State) (changed : Bool) (f : State → State) : State := if changed then f s else s

/-- A change of an antenna record from `x` to `y`: share capacity (R35, R71), coupling group (R158), and the fields that
eligibility reads (R179). The switch time is read at the next phase (R36). -/
def State.antennaChanged (s : State) (a : Ant) (x y : AntennaRecord) : State :=
  ((s.onChange (x.capacity != y.capacity) fun t => t.allocCapacity a x.capacity y.capacity).onChange
    (x.group != y.group) State.recomputeBlank).onChange
    (x.present != y.present || x.bands != y.bands || x.role != y.role) State.revalidate

/-- A change of a segment map entry from `x` to `y` (R179); the kind is read at the next key decision (R38). -/
def State.mapChanged (s : State) (x y : MapEntry) : State :=
  s.onChange (x.txSet != y.txSet || x.rxSet != y.rxSet) State.revalidate

/-- The mode of a position written. -/
def State.modeChanged (s : State) (p : Pos) (x y : PosSettings) : State :=
  s.onChange (x.parked != y.parked) fun t => if y.parked then t.park p else t.unpark p

/-- A change of position settings from `x` to `y`: segment dwell (R25), mode, class (R79), filter mode and installed set
(R113), and the sequencer's settings (R131). The band settle time (R7), the freshness time (R21) and the follow switch
(R89) are read when next used. -/
def State.posChanged (s : State) (p : Pos) (x y : PosSettings) : State :=
  ((((s.onChange (x.dwell != y.dwell) fun t => t.newDwell p).modeChanged p x y).onChange
    (x.cls != y.cls) State.redetermineAll).onChange
    (x.filterThru != y.filterThru || x.installed != y.installed) fun t => t.reselect p).onChange
    (x.ampSettle != y.ampSettle || x.tail != y.tail || x.keyLimit != y.keyLimit) fun t => t.seqSettings p

/-- A change of band settings from `x` to `y`: default segment (R23), policy and guard base (R152). The band limit is read
at the next key decision (R136). -/
def State.bandChanged (s : State) (b : Band) (x y : BandSettings) : State :=
  (s.onChange (x.defaultSeg != y.defaultSeg) fun t => t.newDefaultSeg b).onChange
    (x.policy != y.policy || x.guardBase != y.guardBase) State.recomputeBlank

/-- A change of the station settings from `x` to `y`: wait limit (R75), yield time (R85). The station limit and the
protect limit are read at the next key decision and the next PROTECT (R136, R160). -/
def State.stationChanged (s : State) (x y : StationSettings) : State :=
  (s.onChange (x.waitLimit != y.waitLimit) State.allocWaitLimit).onChange
    (x.yieldTime != y.yieldTime) State.allocYieldTime

/-- The item stands in the working configuration, and each changed field is delivered to the block that reads it (R178).
Preference lists, interlock rules and divisors are read when next used (R88, R142, R164). -/
def State.deliver (s : State) (old : Cfg) (x : Item) : State :=
  match x with
  | .antenna a v => s.antennaChanged a old.ants[a] v
  | .mapEntry b g v => s.mapChanged old.segMap[b][g] v
  | .pos p v => s.posChanged p old.pos[p] v
  | .band b v => s.bandChanged b old.bands[b] v
  | .station v => s.stationChanged old.station v
  | .pref _ _ _ _ | .rule _ _ | .divisor _ _ => s

/-- An accepted write that changes a field: the item written, the unsaved flag set (R183), the changed fields
delivered. -/
def State.applyWrite (s : State) (x : Item) : State :=
  ((s.setCfg (s.cfg.put x)).setStore { s.store with unsaved := true }).deliver s.cfg x

/-! ## The answer to a write (R177) -/

/-- The IN-USE cases of R177 for an antenna record. -/
def State.antennaInUse (s : State) (a : Ant) (v : AntennaRecord) : Bool :=
  let r := s.alloc[a]
  decide (v.capacity < r.listeners.length) || (!v.present && (r.holder.isSome || !r.listeners.isEmpty))
    || (v.role == .rxonly && r.holder.isSome)

/-- The IN-USE cases of R177. -/
def State.inUse (s : State) (x : Item) : Bool :=
  match x with
  | .antenna a v => s.antennaInUse a v
  | .pos p v => v.parked && s.inSpan p
  | .band b v => decide (v.limit < s.bandCount b)
  | .station v => decide (v.stationLimit < s.stationCount) || decide (v.protectLimit < s.flagCount)
  | .mapEntry _ _ _ | .pref _ _ _ _ | .rule _ _ | .divisor _ _ => false

/-- A write is refused because the two tables would not be consistent after it (R31, R39, R40). -/
def State.breaksTables (s : State) (x : Item) : Bool := x.inTables && !(s.cfg.put x).consistent

/-- The answer and the effect of a write of a checked item, of which `clamped` says whether a field was clamped. A write
whose fields equal those held starts nothing. -/
def State.writeChecked (s : State) (x : Item) (clamped : Bool) : Result × (State → State) :=
  if s.breaksTables x then justAnswer .invalid
  else if s.inUse x then justAnswer .inUse
  else (if clamped then .clamped else .done, fun t => if t.cfg.holds x then t else t.applyWrite x)

/-- The answer and the effect of a CONFIG-WRITE (R177); the body that fits no item code comes in as none. -/
def State.writeRequest (s : State) (w : Option WriteItem) : Result × (State → State) :=
  if !s.editOpen then justAnswer .locked
  else if s.store.copy.isSome then justAnswer .saving
  else
    match w with
    | none => justAnswer .format
    | some x =>
      match x.value with
      | .error r => justAnswer r
      | .ok (item, clamped) => s.writeChecked item clamped

/-! ## Reading (R176) -/

/-- What a CONFIG-READ is served with. -/
def State.readItem (s : State) (x : Option ItemName) : Except Result (List Byte) :=
  match x with
  | none => .error .format
  | some n =>
    match n.addr with
    | none => .error .unknown
    | some addr => .ok (s.cfg.report addr)

/-! ## Saving (R180, R183) -/

/-- A save begins: the copy is taken and the store reads bad. -/
def State.beginSave (s : State) : State :=
  let t := s.setStore { s.store with
    check := badCheckOf s.store.image s.freeIx, good := false, copy := some s.cfg.image }
  { t with freeIx := s.freeIx + 1 }

/-- The answer and the effect of SAVE (R180). With the EDIT gate closed during a save both LOCKED and SAVING apply, and R180
gives no order; LOCKED comes first, as for a write (log entry 51). -/
def State.saveRequest (s : State) : Result × (State → State) :=
  if !s.editOpen then justAnswer .locked
  else if s.store.copy.isSome then justAnswer .saving
  else (.done, State.beginSave)

/-- The end of a save in flight. -/
def State.endSave (s : State) : State :=
  match s.store.copy with
  | some c => s.setStore ⟨c, goodCheck c, true, none, false⟩
  | none => s

/-- A save in flight is cut off: the store keeps as much of the copy as it had taken and a bad check (R180; what it holds
is a free value, log entry 30). -/
def State.cutSave (s : State) : State :=
  match s.store.copy with
  | some c =>
    let n := Config.cutPoint s.freeIx
    let image := c.take n ++ s.store.image.drop n
    let t := s.setStore { s.store with image := image, check := badCheckOf image s.freeIx, good := false, copy := none }
    { t with freeIx := s.freeIx + 1 }
  | none => s

/-- SAVE_END (R180, R183). -/
def execSaveEnd (s : State) : Host.Outcome State Fault Refusal := whenPowered s State.endSave

end Sys2Proof.Machine
end

