-- ==== Sys2Proof/Machine/Power.lean ====
section
/-! DEFINITION. Power-on, the RESET event and RESTART (Chapter 12, section 12.5): the reset state of every block, the
load of the store, and the loss of power. -/

namespace Sys2Proof.Machine

/-! ## Reset states of the blocks (R182) -/

/-- A position's sampler section after a reset: everything afresh but the level now sensed on KEY (R1, R9, R12). -/
def PosLines.afterReset (x : PosLines) : PosLines := { PosLines.initial with keySensed := x.keySensed }

/-- The sampler after a reset; the accepted value of RESET is kept (R1, R9). -/
def Sampler.afterReset (x : Sampler) : Sampler :=
  ⟨Line.fresh, { x.reset with history := [] }, x.pos.map PosLines.afterReset⟩

/-- The sequencers of a unit on a configuration: each begins in IDLE, or in PARKED by configuration (R133). -/
def Cfg.firstSeqs (c : Cfg) : Vector SeqState 6 := c.pos.map fun x => if x.parked then .parked else .idle

/-- The crosspoint driver after a reset: commanded states and commanded filters are kept, and the release delay starts
from this moment (R115). -/
def Driver.afterReset (d : Driver) (now : Nat) : Driver where
  xps := d.xps.map fun row => row.map fun x => { x with watch := none }
  list := []
  inProg := []
  faults := Vector.replicate 20 false
  filters := d.filters.map fun f => ⟨none, f.commanded, .idle⟩
  release := .delay now

/-- A link after a reset: emptied, its transmitter stopped, its receiver hunting (R174). A divisor written and not yet
applied waits for DIVISOR_APPLIED: that the reset itself applies none is the model's choice (DESIGN CHOICE, log
entry 54). -/
def LinkState.afterReset (k : LinkState) : LinkState := LinkState.initial k.divisor

/-- The live state of every block takes its reset values; the working configuration is kept, and a save in flight is cut
off (R182). -/
def State.resetLive (s : State) : State :=
  let t := s.cutSave
  { t with
    sam := t.sam.afterReset
    outs := Vector.replicate 6 Outputs.safe
    bands := Vector.replicate 6 BandUnit.initial
    alloc := Vector.replicate 20 AllocRecord.initial
    hold := Vector.replicate 6 HoldRecord.initial
    drv := t.drv.afterReset t.now
    seqs := t.cfg.firstSeqs
    spans := Vector.replicate 6 none
    prot := Vector.replicate 6 Protection.initial
    links := t.links.map LinkState.afterReset
    monitor := false }

/-! ## Power -/

/-- The store read at power-on: the configuration it gives, or the factory defaults, with the store state (R181). -/
def StoreUnit.load (x : StoreUnit) : Cfg × StoreUnit :=
  match loadStore x.image x.check with
  | some c => (c, ⟨x.image, x.check, true, none, false⟩)
  | none => (Cfg.factory, ⟨x.image, x.check, false, none, false⟩)

/-- Every block takes its power-on state and the store is read (R181). The store, the commands that wait and the model's
counter of free values are all that a unit without power keeps (log entry 10). -/
def State.powerUp (s : State) : State :=
  let t := s.cutSave
  let c := t.store.load
  { State.reset with
    freeIx := t.freeIx
    pending := t.pending
    cfg := c.1
    store := c.2
    seqs := c.1.firstSeqs
    links := c.1.divisors.map LinkState.initial }

/-- POWER_ON (R181): power-on of a unit that is without its supply; a unit that runs is left as it is (log entry 9). -/
def execPowerOn (s : State) : Host.Outcome State Fault Refusal :=
  .next (if s.powered then s else s.powerUp)

/-- The unit loses its supply: a save in flight is cut off (R180) and the outputs, which it no longer drives, stand at
their safe levels. The rest of the live state is of no consequence until the next power-on (log entry 10). -/
def State.powerDown (s : State) : State :=
  { s.cutSave with powered := false, outs := Vector.replicate 6 Outputs.safe }

/-- LOSS_OF_POWER (R180). -/
def execLossOfPower (s : State) : Host.Outcome State Fault Refusal := whenPowered s State.powerDown

/-! ## RESET (R9) -/

/-- RESET_EVENT (R9, R182): ACTIVE is accepted on RESET, and every block takes its reset state. -/
def execResetEvent (s : State) : Host.Outcome State Fault Refusal :=
  whenPowered s fun s =>
    if s.sam.reset.change == some true then (s.setResetLine { s.sam.reset with accepted := .active }).resetLive else s

/-- RESET_RELEASE (R9): INACTIVE is accepted on RESET, and the hold in reset ends. -/
def execResetRelease (s : State) : Host.Outcome State Fault Refusal :=
  whenPowered s fun s =>
    if s.sam.reset.change == some false then s.setResetLine { s.sam.reset with accepted := .inactive } else s

end Sys2Proof.Machine
end

