-- ==== Sys2Proof/Machine/Reports.lean ====
section
/-! DEFINITION. The reports of the unit (R173, Table 11.5): the body of every page of QUERY-POSITION, QUERY-ANTENNA and
STATUS, and of QUERY-LINK. Each is composed from the state as it stands when the request is taken. -/

namespace Sys2Proof.Machine

/-- A whole number of seconds from a time in ms, sent as at most 65,535 (Table 11.5). -/
def secondsBytes (ms : Nat) : List Byte := bytes2 (min 65535 (ms / 1000))

/-! ## QUERY-POSITION -/

/-- The parts of the sequencer record that a report carries (R134): amplifier settle reached, settle condition holds,
key time, tail cause, pending lockout cause, lockout cause. A part with no content in the state is 0 (log entry 32). -/
def State.seqParts (s : State) (p : Pos) : List Byte :=
  match s.seqs[p] with
  | .settling _ => [boolByte (s.settleReached p), boolByte (s.settleCond p)] ++ bytes4 0 ++ [0, 0, 0]
  | .keyed since => [0, 0] ++ bytes4 (s.now - since) ++ [0, 0, 0]
  | .tail c pend kt _ => [0, 0] ++ bytes4 kt ++ [tailCauseByte c, pend.elim 0 lockCauseByte, 0]
  | .lockout c => [0, 0] ++ bytes4 0 ++ [0, 0, lockCauseByte c]
  | .idle | .denied | .parked => [0, 0] ++ bytes4 0 ++ [0, 0, 0]

/-- Page 0 of QUERY-POSITION: lines, outputs, sequencer and key-span record (R13, R134, R148). -/
def State.positionPage0 (s : State) (p : Pos) : List Byte :=
  let x := s.sam.pos[p]
  let o := s.outs[p]
  [acceptedByte x.ptt.accepted, acceptedByte x.rfs.accepted, codeByte x.code, boolByte x.keySensed,
    boolByte o.key, boolByte o.amp, boolByte o.inh, boolByte o.blk, seqByte s.seqs[p]] ++ s.seqParts p
    ++ [optNumByte (s.spans[p].map (·.band)), boolByte (s.spans[p].elim false (·.solo))]

/-- The code of a report's freshness. -/
def freshByte (r : Option Report) : Byte :=
  match r with
  | none => 0
  | some x => if x.fresh.isSome then 1 else 2

/-- The code of the dwells that run: bit 0 TX, bit 1 RX. -/
def BandUnit.dwellByte (u : BandUnit) : Byte :=
  byteOf ((if u.dwellTx.isSome then 1 else 0) + (if u.dwellRx.isSome then 2 else 0))

/-- Page 1 of QUERY-POSITION: the band unit (R30). With no report held the RX frequency is sent as 0, which Table 11.5 says of
an absent TX frequency alone (log entry 50). -/
def State.positionPage1 (s : State) (p : Pos) : List Byte :=
  let u := s.bands[p]
  linesBandByte u.lines :: bandStateBytes u.state ++ [freshByte u.report]
    ++ bytes4 (u.report.elim 0 (·.rx)) ++ bytes4 ((u.report.bind (·.tx)).getD 0)
    ++ [optNumByte (u.report.bind (·.band)), segByte u.curTx, segByte u.curRx, segByte u.setTx, segByte u.setRx,
      u.dwellByte]

/-- Antenna and switch state of a holding, 0 where absent. -/
def holdingBytes (h : Option Holding) : List Byte :=
  match h with
  | some x => [numByte x.ant, switchByte x.sw]
  | none => [0, 0]

/-- Page 2 of QUERY-POSITION: the holding record and the follow switch (R73, R100). -/
def State.positionPage2 (s : State) (p : Pos) : List Byte :=
  let h := s.hold[p]
  holdingBytes h.main ++ holdingBytes h.listen
    ++ [optNumByte h.pendMain, optNumByte h.pendListen, markByte h.markMain, markByte h.markListen,
      boolByte s.cfg.pos[p].follow]

/-- The targets of a position's pending-list entry. -/
def State.pendTargets (s : State) (p : Pos) : List Target := (s.pendEntry p).elim [] (·.targets)

/-- The antenna of a first target with a goal, 0 where there is none. -/
def goalAntByte (ts : List Target) (g : XpState) : Byte := optNumByte ((ts.find? fun t => t.goal == g).map (·.ant))

/-- The set of the antennas of targets OPEN. -/
def openSet (ts : List Target) : AntSet := antSet fun a => ts.any fun t => t.ant == a && t.goal == .opened

/-- Page 3 of QUERY-POSITION: switching, filters and protection (R116, R163). -/
def State.positionPage3 (s : State) (p : Pos) : List Byte :=
  let ts := s.pendTargets p
  let f := s.drv.filters[p]
  let x := s.prot[p]
  bytes24 ((openSet ts).setWidth 24)
    ++ [goalAntByte ts .main, goalAntByte ts .listen, phaseByte ((s.progress p).map (·.phase)),
      filterByte f.selected, filterByte f.commanded, filterSwitchByte f.sw, boolByte s.cfg.pos[p].filterThru,
      boolByte x.flag, x.harmonic.setWidth 8, x.coupled.setWidth 8, x.shared.setWidth 8]

/-- The fields of a page of QUERY-POSITION; none for a page that is not in the table. -/
def State.positionPage (s : State) (p : Pos) (page : Byte) : Option (List Byte) :=
  match page.toNat with
  | 0 => some (s.positionPage0 p)
  | 1 => some (s.positionPage1 p)
  | 2 => some (s.positionPage2 p)
  | 3 => some (s.positionPage3 p)
  | _ => none

/-! ## QUERY-ANTENNA -/

/-- The position that a link serves; none for the station link. -/
def posOfLink (l : Link) : Option Pos := if h : l.val < 6 then some ⟨l.val, h⟩ else none

/-- Page 0 of QUERY-ANTENNA: record, fault flag, eligibility for the asking position, crosspoints (R47, R116). -/
def State.antennaPage0 (s : State) (asker : Option Pos) (a : Ant) : List Byte :=
  s.cfg.ants[a].bytes
    ++ [boolByte s.drv.faults[a], boolByte (asker.elim false (s.mainElig a)), boolByte (asker.elim false (s.listenElig a))]
    ++ (allPos.map fun q => xpByte (s.xp q a).cmd) ++ (allPos.map fun q => sensedByte (s.xp q a).closed)

/-- The switch state of a position's holding of a slot on an antenna, 0 where it has none there. -/
def State.switchOn (s : State) (slot : Slot) (a : Ant) (q : Pos) : Byte :=
  match s.hold[q].holding slot with
  | some h => if h.ant == a then switchByte h.sw else 0
  | none => 0

/-- A place of the listener list with its switch state, 0 where it is free. -/
def State.listenerBytes (s : State) (a : Ant) (q : Option Pos) : List Byte :=
  match q with
  | some x => [numByte x, s.switchOn .listen a x]
  | none => [0, 0]

/-- The yield timer as reported: state, counted seconds, head main-waiter (R87); no time and no waiter while STOPPED. -/
def State.yieldBytes (s : State) (a : Ant) : List Byte :=
  let y := s.alloc[a].yieldT
  match y with
  | .stopped => [yieldByte y, 0, 0, 0]
  | .running _ _ _ _ | .holding _ _ _ =>
    yieldByte y :: secondsBytes (s.yieldCounted y) ++ [optNumByte (s.headWaiter a)]

/-- Page 1 of QUERY-ANTENNA: main holder, four listener places, yield timer (R73, R87). -/
def State.antennaPage1 (s : State) (a : Ant) : List Byte :=
  let r := s.alloc[a]
  [optNumByte r.holder, r.holder.elim 0 (s.switchOn .main a)]
    ++ s.listenerBytes a r.listeners[0]? ++ s.listenerBytes a r.listeners[1]?
    ++ s.listenerBytes a r.listeners[2]? ++ s.listenerBytes a r.listeners[3]? ++ s.yieldBytes a

/-- A wait entry as reported: position, kind, origin, seconds waited; zeros where there is none. -/
def State.entryBytes (s : State) (e : Option WaitEntry) : List Byte :=
  match e with
  | some x => [numByte x.pos, slotByte x.kind, originByte x.origin] ++ secondsBytes (s.now - x.since)
  | none => [0, 0, 0, 0, 0]

/-- Three wait entries in append order, from an index on: pages 2 and 3 of QUERY-ANTENNA (R73). -/
def State.antennaEntries (s : State) (a : Ant) (n : Nat) : List Byte :=
  let q := s.alloc[a].queue
  s.entryBytes q[n]? ++ s.entryBytes q[n + 1]? ++ s.entryBytes q[n + 2]?

/-- The fields of a page of QUERY-ANTENNA; none for a page that is not in the table. -/
def State.antennaPage (s : State) (asker : Option Pos) (a : Ant) (page : Byte) : Option (List Byte) :=
  match page.toNat with
  | 0 => some (s.antennaPage0 asker a)
  | 1 => some (s.antennaPage1 a)
  | 2 => some (s.antennaEntries a 0)
  | 3 => some (s.antennaEntries a 3)
  | _ => none

/-! ## STATUS and QUERY-LINK -/

/-- Page 0 of STATUS (R13, R183). -/
def State.statusPage0 (s : State) : List Byte :=
  [acceptedByte s.sam.edit.accepted, boolByte s.monitor, boolByte !s.store.good, boolByte s.store.copy.isSome,
    boolByte s.store.unsaved]

/-- Page 1 of STATUS: counts, key-span records, protect flags (R148, R163). -/
def State.statusPage1 (s : State) : List Byte :=
  (allBands.map fun b => byteOf (s.bandCount b)) ++ [byteOf s.stationCount]
    ++ (allPos.map fun p => optNumByte (s.spans[p].map (·.band)))
    ++ [(posSet fun p => s.spans[p].elim false (·.solo)).setWidth 8, byteOf s.flagCount]

/-- Page 2 of STATUS: the crosspoint driver (R116). -/
def State.statusPage2 (s : State) : List Byte :=
  [byteOf s.drv.list.length, byteOf s.drv.inProg.length, releaseByte s.drv.release]

/-- The fields of a page of STATUS; none for a page that is not in the table. -/
def State.statusPage (s : State) (page : Byte) : Option (List Byte) :=
  match page.toNat with
  | 0 => some s.statusPage0
  | 1 => some s.statusPage1
  | 2 => some s.statusPage2
  | _ => none

/-- The five counters of a link (R172). -/
def LinkState.counters (k : LinkState) : List Byte :=
  bytes2 k.noise ++ bytes2 k.framing ++ bytes2 k.check ++ bytes2 k.overrun ++ bytes2 k.noticesLost

/-! ## What a query is served with -/

/-- A body from the opening bytes and a page's fields, FORMAT where the page is not in the table (R173). -/
def pageBody (kind number page : Byte) (fields : Option (List Byte)) : Except Result (List Byte) :=
  match fields with
  | some xs => .ok (kind :: number :: page :: xs)
  | none => .error .format

/-- QUERY-POSITION: UNKNOWN for a number outside 1 to 6, FORMAT for a page not in the table, otherwise the report
(R173). -/
def State.queryPosition (s : State) (number page : Byte) : Except Result (List Byte) :=
  match numOf 6 number with
  | some p => pageBody 9 number page (s.positionPage p page)
  | none => .error .unknown

/-- QUERY-ANTENNA on a link: UNKNOWN for a number outside 1 to 20, FORMAT for a page not in the table, otherwise the
report (R173). -/
def State.queryAntenna (s : State) (l : Link) (number page : Byte) : Except Result (List Byte) :=
  match numOf 20 number with
  | some a => pageBody 10 number page (s.antennaPage (posOfLink l) a page)
  | none => .error .unknown

/-- QUERY-LINK: UNKNOWN for a number outside 1 to 7, otherwise the five counters (R172). -/
def State.queryLink (s : State) (number : Byte) : Except Result (List Byte) :=
  match numOf 7 number with
  | some l => .ok (11 :: number :: s.links[l].counters)
  | none => .error .unknown

/-- STATUS: FORMAT for a page not in the table, otherwise the report (R173). -/
def State.statusReport (s : State) (page : Byte) : Except Result (List Byte) :=
  pageBody 22 0 page (s.statusPage page)

end Sys2Proof.Machine
end

