-- ==== Sys2Proof/Machine/Requests.lean ====
section
/-! DEFINITION. The serving of requests (R168, R169): what each request is answered with and does, the arrival of a
complete frame at the completed-frame buffer, and the meanings of the request rows. -/

namespace Sys2Proof.Machine

/-! ## Requests of the crosspoint driver and the link unit -/

/-- The watches of an antenna's crosspoints go on from the clearing of its fault (R112, log entry 14). -/
def State.restartWatches (s : State) (a : Ant) : State :=
  s.each allPos fun p t => t.setXp p a { t.xp p a with watch := (t.xp p a).watch.map fun _ => t.now }

/-- The answer and the effect of FAULT-CLEAR (R112). R112 gives no order between its two refusals: that LOCKED is answered
for a number outside 1 to 20 while the EDIT gate is closed is the model's choice (DESIGN CHOICE, log entry 52). -/
def State.faultClearRequest (s : State) (antenna : Byte) : Result × (State → State) :=
  if !s.editOpen then justAnswer .locked
  else
    match numOf 20 antenna with
    | none => justAnswer .unknown
    | some a => (.done, fun t => (t.setFault a false).restartWatches a)

/-- The monitor switch set (R171). -/
def State.setMonitor (s : State) (on : Bool) : State := { s with monitor := on }

/-! ## Serving -/

/-- A request is answered, and then has its effect, so that its notices follow its answer (R169). -/
def State.perform (s : State) (l : Link) (kind : BitVec 7) (plan : Result × (State → State)) : State :=
  plan.2 (s.answer l kind plan.1)

/-- A query is served with a REPORT, or refused with an ANSWER (R169). -/
def State.report (s : State) (l : Link) (kind : BitVec 7) (body : Except Result (List Byte)) : State :=
  match body with
  | .ok xs => s.reply l (reportFrame xs)
  | .error r => s.answer l kind r

/-- RESTART: refused with SAVING while a save is in flight; otherwise the reset, and then the answer, which is the first
frame sent after it (R174, R182). -/
def State.restartRequest (s : State) (l : Link) : State :=
  if s.store.copy.isSome then s.answer l Request.restart.kind .saving else s.resetLive.answer l Request.restart.kind .done

/-- The answer and the effect of a position request of position `p`; UNKNOWN for the others, which are not position
requests (R169). -/
def State.positionPlan (s : State) (p : Pos) (r : Request) : Result × (State → State) :=
  match r with
  | .selectMain a w => s.selectMain p a w
  | .selectListen a w => s.selectListen p a w
  | .dropMain => s.dropMain p
  | .dropListen => s.dropListen p
  | .cancel x => (.done, fun t => t.cancelEffect p x)
  | .freq rx tx => s.freqRequest p rx tx
  | .protect on => s.protectRequest p on
  | .clear => s.clearLock p
  | .queryPosition _ _ | .queryAntenna _ _ | .queryLink _ | .configRead _ | .configWrite _ | .save | .restart
  | .faultClear _ | .monitor _ | .status _ => justAnswer .unknown

/-- A position request served on a link: it concerns the position that the link serves (R169). -/
def State.servePosition (s : State) (l : Link) (r : Request) : State :=
  match posOfLink l with
  | some p => s.perform l r.kind (s.positionPlan p r)
  | none => s.answer l r.kind .unknown

/-- A request that passed the checks of R169 is served by its owner (Table 11.1). -/
def State.serve (s : State) (l : Link) (r : Request) : State :=
  match r with
  | .selectMain _ _ | .selectListen _ _ | .dropMain | .dropListen | .cancel _ | .freq _ _ | .protect _ | .clear =>
    s.servePosition l r
  | .queryPosition n g => s.report l r.kind (s.queryPosition n g)
  | .queryAntenna n g => s.report l r.kind (s.queryAntenna l n g)
  | .queryLink n => s.report l r.kind (s.queryLink n)
  | .status g => s.report l r.kind (s.statusReport g)
  | .configRead x => s.report l r.kind (s.readItem x)
  | .configWrite w => s.perform l r.kind (s.writeRequest w)
  | .save => s.perform l r.kind s.saveRequest
  | .restart => s.restartRequest l
  | .faultClear a => s.perform l r.kind (s.faultClearRequest a)
  | .monitor on => s.perform l r.kind (.done, fun t => t.setMonitor on)

/-- A frame taken from the buffer is checked and served in the same event (R168, R169). -/
def State.takeFrame (s : State) (l : Link) (f : Frame) : State :=
  match readRequest l f with
  | .ok r => s.serve l r
  | .error x => s.answer l f.kind x

/-- A complete frame at the completed-frame buffer of a link (R168): lost with an overrun when the buffer is full, taken
at once when the transmit queue has room, and kept otherwise. A unit held in reset drops it without count (R174). -/
def State.arrive (s : State) (l : Link) (f : Frame) (take : State → State) : State :=
  if s.held then s
  else
    match s.links[l].buffer with
    | some _ => s.setLink l { s.links[l] with overrun := bump s.links[l].overrun }
    | none => if s.links[l].hasRoom then take s else s.setLink l { s.links[l] with buffer := some f }

/-- The complete frame of a request arrives on a link (log entry 8). -/
def State.request (s : State) (l : Link) (r : Request) : State := s.arrive l r.frame fun t => t.serve l r

/-! ## Meanings of the request rows -/

/-- FREQ (R19, R20). -/
def execFreq (p : Pos) (rx : BitVec 32) (tx : Option (BitVec 32)) (s : State) : Host.Outcome State Fault Refusal :=
  whenPowered s fun s => s.request (linkOf p) (.freq rx tx)

/-- SELECT_MAIN (R55 to R58). -/
def execSelectMain (p : Pos) (antenna : Byte) (noWait : Bool) (s : State) : Host.Outcome State Fault Refusal :=
  whenPowered s fun s => s.request (linkOf p) (.selectMain antenna noWait)

/-- SELECT_LISTEN (R59, R60). -/
def execSelectListen (p : Pos) (antenna : Byte) (noWait : Bool) (s : State) : Host.Outcome State Fault Refusal :=
  whenPowered s fun s => s.request (linkOf p) (.selectListen antenna noWait)

/-- DROP_MAIN (R61). -/
def execDropMain (p : Pos) (s : State) : Host.Outcome State Fault Refusal :=
  whenPowered s fun s => s.request (linkOf p) .dropMain

/-- DROP_LISTEN (R62). -/
def execDropListen (p : Pos) (s : State) : Host.Outcome State Fault Refusal :=
  whenPowered s fun s => s.request (linkOf p) .dropListen

/-- CANCEL (R63). -/
def execCancel (p : Pos) (slot : CancelSlot) (s : State) : Host.Outcome State Fault Refusal :=
  whenPowered s fun s => s.request (linkOf p) (.cancel slot)

/-- CLEAR (R129). -/
def execClear (p : Pos) (s : State) : Host.Outcome State Fault Refusal :=
  whenPowered s fun s => s.request (linkOf p) .clear

/-- PROTECT (R160). -/
def execProtect (p : Pos) (on : Bool) (s : State) : Host.Outcome State Fault Refusal :=
  whenPowered s fun s => s.request (linkOf p) (.protect on)

/-- FAULT_CLEAR (R112). -/
def execFaultClear (antenna : Byte) (s : State) : Host.Outcome State Fault Refusal :=
  whenPowered s fun s => s.request stationLink (.faultClear antenna)

/-- MONITOR (R171). -/
def execMonitor (on : Bool) (s : State) : Host.Outcome State Fault Refusal :=
  whenPowered s fun s => s.request stationLink (.monitor on)

/-- QUERY_POSITION on a link (R173). -/
def execQueryPosition (l : Link) (position page : Byte) (s : State) : Host.Outcome State Fault Refusal :=
  whenPowered s fun s => s.request l (.queryPosition position page)

/-- QUERY_ANTENNA on a link (R173). -/
def execQueryAntenna (l : Link) (antenna page : Byte) (s : State) : Host.Outcome State Fault Refusal :=
  whenPowered s fun s => s.request l (.queryAntenna antenna page)

/-- QUERY_LINK on a link (R172). -/
def execQueryLink (l : Link) (number : Byte) (s : State) : Host.Outcome State Fault Refusal :=
  whenPowered s fun s => s.request l (.queryLink number)

/-- STATUS (R173). -/
def execStatus (page : Byte) (s : State) : Host.Outcome State Fault Refusal :=
  whenPowered s fun s => s.request stationLink (.status page)

/-- CONFIG_READ (R176). -/
def execConfigRead (body : List Byte) (s : State) : Host.Outcome State Fault Refusal :=
  whenPowered s fun s => s.arrive stationLink ⟨16, body⟩ fun t => t.serve stationLink (.configRead (readName body))

/-- WRITE_ANTENNA_RECORD (R31, R177, R178). -/
def execWriteAntennaRecord (antenna : Byte) (f : AntennaFields) (s : State) : Host.Outcome State Fault Refusal :=
  whenPowered s fun s => s.request stationLink (.configWrite (some (.antenna antenna f)))

/-- WRITE_SEGMENT_MAP_ENTRY (R38 to R40, R177, R178). -/
def execWriteSegmentMapEntry (band seg : Byte) (f : MapFields) (s : State) : Host.Outcome State Fault Refusal :=
  whenPowered s fun s => s.request stationLink (.configWrite (some (.mapEntry band seg f)))

/-- WRITE_PREFERENCE_LIST (R88, R177). -/
def execWritePreferenceList (position band slot : Byte) (f : PrefFields) (s : State) :
    Host.Outcome State Fault Refusal :=
  whenPowered s fun s => s.request stationLink (.configWrite (some (.pref position band slot f)))

/-- WRITE_POSITION_SETTINGS (R177, R178). -/
def execWritePositionSettings (position : Byte) (f : PosFields) (s : State) : Host.Outcome State Fault Refusal :=
  whenPowered s fun s => s.request stationLink (.configWrite (some (.pos position f)))

/-- WRITE_BAND_SETTINGS (R177, R178). -/
def execWriteBandSettings (band : Byte) (f : BandFields) (s : State) : Host.Outcome State Fault Refusal :=
  whenPowered s fun s => s.request stationLink (.configWrite (some (.band band f)))

/-- WRITE_STATION_SETTINGS (R177, R178). -/
def execWriteStationSettings (index : Byte) (f : StationFields) (s : State) : Host.Outcome State Fault Refusal :=
  whenPowered s fun s => s.request stationLink (.configWrite (some (.station index f)))

/-- WRITE_INTERLOCK_RULE (R141, R177). -/
def execWriteInterlockRule (rule : Byte) (f : RuleFields) (s : State) : Host.Outcome State Fault Refusal :=
  whenPowered s fun s => s.request stationLink (.configWrite (some (.rule rule f)))

/-- WRITE_LINK_DIVISOR (R164, R177). -/
def execWriteLinkDivisor (link divisor : Byte) (s : State) : Host.Outcome State Fault Refusal :=
  whenPowered s fun s => s.request stationLink (.configWrite (some (.divisor link divisor)))

/-- SAVE (R180). -/
def execSave (s : State) : Host.Outcome State Fault Refusal := whenPowered s fun s => s.request stationLink .save

/-- RESTART (R182). -/
def execRestart (s : State) : Host.Outcome State Fault Refusal := whenPowered s fun s => s.request stationLink .restart

end Sys2Proof.Machine
end

