-- ==== Sys2Proof/Machine/Links.lean ====
section
/-! DEFINITION. The link unit (Chapter 11): the assembler of frames, damage to characters, the transmitter, and the
meanings of the link rows. -/

namespace Sys2Proof.Machine

/-! ## Assembly (R165 to R167) -/

/-- The frame in assembly is dropped and the receiver hunts. -/
def LinkState.hunt (k : LinkState) : LinkState := { k with hunting := true, assembly := none }

/-- A frame dropped for its length or its sum (R167). -/
def LinkState.checkError (k : LinkState) : LinkState := { k.hunt with check := bump k.check }

/-- A framing error (R166). -/
def LinkState.framingError (k : LinkState) : LinkState := { k.hunt with framing := bump k.framing }

/-- A character with a voting sample that disagreed is counted (R165). -/
def LinkState.countNoise (k : LinkState) (noisy : Bool) : LinkState := if noisy then { k with noise := bump k.noise } else k

/-- The sum of header, length, body and check is zero modulo 256 (R167). -/
def Assembly.sumZero (a : Assembly) (check : Byte) : Bool :=
  a.header + byteOf a.body.length + byteSum a.body + check == 0

/-- The frame that an assembly holds; bit 7 of its header is ignored (R167). -/
def Assembly.frame (a : Assembly) : Frame := ⟨a.header.setWidth 7, a.body⟩

/-- An unmarked character taken into a frame in assembly, with the frame it completes (R167). -/
def LinkState.takeBody (k : LinkState) (a : Assembly) (x : Byte) (now : Nat) : LinkState × Option Frame :=
  match a.len with
  | none =>
    if x.toNat ≤ Config.bodyLength then
      ({ k with assembly := some { a with len := some x.toNat, lastAt := now } }, none)
    else (k.checkError, none)
  | some n =>
    if a.body.length < n then ({ k with assembly := some { a with body := a.body ++ [x], lastAt := now } }, none)
    else if a.sumZero x then ({ k with assembly := none }, some a.frame)
    else (k.checkError, none)

/-- A received character passes to the frame assembler, with the frame it completes (R167). An unmarked one outside a
frame is discarded (R166, log entry 34). -/
def LinkState.takeChar (k : LinkState) (marked : Bool) (x : Byte) (now : Nat) : LinkState × Option Frame :=
  if marked then ({ k with hunting := false, assembly := some ⟨x, none, [], now⟩ }, none)
  else if k.hunting then (k, none)
  else
    match k.assembly with
    | none => (k, none)
    | some a => k.takeBody a x now

/-- A link record replaced, and a completed frame sent on to the completed-frame buffer (R168). -/
def State.afterChar (s : State) (l : Link) (r : LinkState × Option Frame) : State :=
  match r.2 with
  | some f => (s.setLink l r.1).arrive l f fun t => t.takeFrame l f
  | none => s.setLink l r.1

/-- A character on a link: a false start is nothing, a bad stop bit a framing error, and any other is counted for noise
and taken (R165, R166). -/
def State.takeSamples (s : State) (l : Link) (c : CharSamples) : State :=
  if !c.started then s
  else if !c.stopped then s.setLink l s.links[l].framingError
  else s.afterChar l ((s.links[l].countNoise c.noisy).takeChar c.marked c.byte s.now)

/-- The frame in assembly has all its body characters, so that the next unmarked character is its check (R167). -/
def Assembly.awaitsCheck (a : Assembly) : Bool := a.len == some a.body.length

/-- A link awaits the check character of a frame. -/
def LinkState.awaitsCheck (k : LinkState) : Bool :=
  !k.hunting &&
    match k.assembly with
    | some a => a.awaitsCheck
    | none => false

/-! ## The transmitter (R170) -/

/-- The head frame has been sent: it leaves the queue and the next frame begins, with the notices-lost flag in its header
(R170). -/
def LinkState.sent (k : LinkState) : LinkState :=
  match k.sending with
  | none => k
  | some _ =>
    match k.queue.drop 1 with
    | [] => { k with queue := [], sending := none }
    | f :: rest => { k with queue := f :: rest, sending := some k.lost, lost := false }

/-- The characters that the transmitter is sending: those of the head frame with bit 7 of the header as sent. -/
def LinkState.sendingChars (k : LinkState) : Option (List LinkChar) :=
  match k.sending, k.queue with
  | some lost, f :: _ => some (f.chars lost)
  | _, _ => none

/-- A new divisor may be applied: the transmit queue is empty and the transmitter idle (R164). -/
def LinkState.mayApply (k : LinkState) : Bool := k.queue.isEmpty && k.sending.isNone

/-! ## Meanings -/

/-- CHARACTER_RECEIVED on a link (R165, R167). -/
def execCharacterReceived (l : Link) (c : CharSamples) (s : State) : Host.Outcome State Fault Refusal :=
  whenPowered s fun s => s.takeSamples l c

/-- FRAME_RECEIVED on a link (R167, R168): the character that arrives is the check of the frame in assembly (log entry
35). -/
def execFrameReceived (l : Link) (c : CharSamples) (s : State) : Host.Outcome State Fault Refusal :=
  whenPowered s fun s => if s.links[l].awaitsCheck && !c.marked then s.takeSamples l c else s

/-- FRAMING_ERROR on a link (R166). -/
def execFramingError (l : Link) (s : State) : Host.Outcome State Fault Refusal :=
  whenPowered s fun s => s.setLink l s.links[l].framingError

/-- FRAME_GAP_TIMEOUT on a link (R167). -/
def execFrameGapTimeout (l : Link) (s : State) : Host.Outcome State Fault Refusal :=
  whenPowered s fun s =>
    match s.links[l].assembly with
    | some a => if a.lastAt + Config.frameGap ≤ s.now then s.setLink l s.links[l].hunt else s
    | none => s

/-- FRAME_TAKEN on a link (R168). -/
def execFrameTaken (l : Link) (s : State) : Host.Outcome State Fault Refusal :=
  whenPowered s fun s =>
    match s.links[l].buffer with
    | some f =>
      if !s.held && s.links[l].hasRoom then (s.setLink l { s.links[l] with buffer := none }).takeFrame l f else s
    | none => s

/-- FRAME_SENT on a link (R170). -/
def execFrameSent (l : Link) (s : State) : Host.Outcome State Fault Refusal :=
  whenPowered s fun s => s.setLink l s.links[l].sent

/-- DIVISOR_APPLIED on a link (R164). -/
def execDivisorApplied (l : Link) (s : State) : Host.Outcome State Fault Refusal :=
  whenPowered s fun s =>
    let k := s.links[l]
    if s.cfg.divisors[l] != k.divisor && k.mayApply then
      s.setLink l { k.hunt with divisor := s.cfg.divisors[l] }
    else s

end Sys2Proof.Machine
end

