-- ==== Sys2Proof/Machine/Dispatch.lean ====
section
/-! DEFINITION. Which meaning each command has. -/

namespace Sys2Proof.Machine

/-- The effect of a command on everything but the queue of waiting commands. -/
def exec (i : Instr) (s : State) : Host.Outcome State Fault Refusal :=
  match i with
  | .powerOn => Sys2Proof.Machine.execPowerOn s
  | .resetEvent => Sys2Proof.Machine.execResetEvent s
  | .resetRelease => Sys2Proof.Machine.execResetRelease s
  | .pttChange p => Sys2Proof.Machine.execPttChange p s
  | .rfsChange p => Sys2Proof.Machine.execRfsChange p s
  | .editChange => Sys2Proof.Machine.execEditChange s
  | .bandCodeEvent p => Sys2Proof.Machine.execBandCodeEvent p s
  | .keyLineFault p => Sys2Proof.Machine.execKeyLineFault p s
  | .freq p rx tx => Sys2Proof.Machine.execFreq p rx tx s
  | .freshnessExpiry p => Sys2Proof.Machine.execFreshnessExpiry p s
  | .dwellExpiry p side => Sys2Proof.Machine.execDwellExpiry p side s
  | .selectMain p antenna noWait => Sys2Proof.Machine.execSelectMain p antenna noWait s
  | .selectListen p antenna noWait => Sys2Proof.Machine.execSelectListen p antenna noWait s
  | .dropMain p => Sys2Proof.Machine.execDropMain p s
  | .dropListen p => Sys2Proof.Machine.execDropListen p s
  | .cancel p slot => Sys2Proof.Machine.execCancel p slot s
  | .waitExpiry a p => Sys2Proof.Machine.execWaitExpiry a p s
  | .yieldExpiry a => Sys2Proof.Machine.execYieldExpiry a s
  | .changeSetStart => Sys2Proof.Machine.execChangeSetStart s
  | .openingPhaseEnd p => Sys2Proof.Machine.execOpeningPhaseEnd p s
  | .closingPhaseStart p => Sys2Proof.Machine.execClosingPhaseStart p s
  | .closingPhaseEnd p => Sys2Proof.Machine.execClosingPhaseEnd p s
  | .crosspointWatchFault p a => Sys2Proof.Machine.execCrosspointWatchFault p a s
  | .contactSenseChange p a closed => Sys2Proof.Machine.execContactSenseChange p a closed s
  | .faultClear antenna => Sys2Proof.Machine.execFaultClear antenna s
  | .filterSwitchBegin p => Sys2Proof.Machine.execFilterSwitchBegin p s
  | .filterSwitchEnd p => Sys2Proof.Machine.execFilterSwitchEnd p s
  | .releaseDelayExpiry => Sys2Proof.Machine.execReleaseDelayExpiry s
  | .releaseOpeningEnd => Sys2Proof.Machine.execReleaseOpeningEnd s
  | .amplifierSettleExpiry p => Sys2Proof.Machine.execAmplifierSettleExpiry p s
  | .keyTimeLimitExpiry p => Sys2Proof.Machine.execKeyTimeLimitExpiry p s
  | .tailEnd p => Sys2Proof.Machine.execTailEnd p s
  | .clear p => Sys2Proof.Machine.execClear p s
  | .protect p on => Sys2Proof.Machine.execProtect p on s
  | .framingError l => Sys2Proof.Machine.execFramingError l s
  | .frameGapTimeout l => Sys2Proof.Machine.execFrameGapTimeout l s
  | .frameReceived l c => Sys2Proof.Machine.execFrameReceived l c s
  | .frameTaken l => Sys2Proof.Machine.execFrameTaken l s
  | .frameSent l => Sys2Proof.Machine.execFrameSent l s
  | .divisorApplied l => Sys2Proof.Machine.execDivisorApplied l s
  | .monitor on => Sys2Proof.Machine.execMonitor on s
  | .queryPosition l position page => Sys2Proof.Machine.execQueryPosition l position page s
  | .queryAntenna l antenna page => Sys2Proof.Machine.execQueryAntenna l antenna page s
  | .queryLink l number => Sys2Proof.Machine.execQueryLink l number s
  | .status page => Sys2Proof.Machine.execStatus page s
  | .configRead body => Sys2Proof.Machine.execConfigRead body s
  | .writeAntennaRecord antenna f => Sys2Proof.Machine.execWriteAntennaRecord antenna f s
  | .writeSegmentMapEntry band seg f => Sys2Proof.Machine.execWriteSegmentMapEntry band seg f s
  | .writePreferenceList position band slot f => Sys2Proof.Machine.execWritePreferenceList position band slot f s
  | .writePositionSettings position f => Sys2Proof.Machine.execWritePositionSettings position f s
  | .writeBandSettings band f => Sys2Proof.Machine.execWriteBandSettings band f s
  | .writeStationSettings index f => Sys2Proof.Machine.execWriteStationSettings index f s
  | .writeInterlockRule rule f => Sys2Proof.Machine.execWriteInterlockRule rule f s
  | .writeLinkDivisor link divisor => Sys2Proof.Machine.execWriteLinkDivisor link divisor s
  | .save => Sys2Proof.Machine.execSave s
  | .saveEnd => Sys2Proof.Machine.execSaveEnd s
  | .restart => Sys2Proof.Machine.execRestart s
  | .samplingInstant x => Sys2Proof.Machine.execSamplingInstant x s
  | .characterReceived l c => Sys2Proof.Machine.execCharacterReceived l c s
  | .lossOfPower => Sys2Proof.Machine.execLossOfPower s

end Sys2Proof.Machine
end

