-- ==== Sys2Proof/Safety.lean ====
section
/-! DEFINITION. What a state of the unit in good order is: the properties that the spec gives of every state, in the terms
that the claims use. -/

namespace Sys2Proof.Machine

/-! ## Requests (R168, R169) -/

/-- A request that comes in on a link now is taken and served in the same event: the unit has its supply and is not held
in reset, the completed-frame buffer is empty and the transmit queue has a free place (R168). -/
def State.Serving (s : State) (l : Link) : Prop :=
  s.powered = true ∧ s.held = false ∧ s.links[l].buffer = none ∧ s.links[l].hasRoom = true

/-- Between the two states an answer has joined the queue of a link; only frames placed after it may follow (R169). -/
def Answered (s t : State) (l : Link) (kind : BitVec 7) (r : Result) : Prop :=
  s.links[l].queue ++ [answerFrame kind r] <+: t.links[l].queue

/-- The unit does nothing with a request but answer it: the answer joins the transmit queue of the link. -/
def State.onlyAnswers (s : State) (l : Link) (kind : BitVec 7) (r : Result) : State :=
  s.setLink l (s.links[l].place (answerFrame kind r))

/-- The unit serves a query: the report joins the transmit queue of the link and nothing else changes. -/
def State.onlyReports (s : State) (l : Link) (body : List Byte) : State :=
  s.setLink l (s.links[l].place (reportFrame body))

/-- The command that writes an item. -/
def writeCommand (w : WriteItem) : Instr :=
  match w with
  | .antenna a f => .writeAntennaRecord a f
  | .mapEntry b g f => .writeSegmentMapEntry b g f
  | .pref p b slot f => .writePreferenceList p b slot f
  | .pos p f => .writePositionSettings p f
  | .band b f => .writeBandSettings b f
  | .station i f => .writeStationSettings i f
  | .rule n f => .writeInterlockRule n f
  | .divisor l d => .writeLinkDivisor l d

/-- The commands by which a request frame can reach its owner: the writes themselves and the link rows that complete or
take a frame (R168). -/
def carriesWrite (c : Instr) : Bool :=
  match c with
  | .writeAntennaRecord _ _ | .writeSegmentMapEntry _ _ _ | .writePreferenceList _ _ _ _
  | .writePositionSettings _ _ | .writeBandSettings _ _ | .writeStationSettings _ _ | .writeInterlockRule _ _
  | .writeLinkDivisor _ _ | .characterReceived _ _ | .frameReceived _ _ | .frameTaken _ => true
  | _ => false

/-! ## What an event leaves alone -/

/-- What the events of the lines, the band units, allocation, the driver, the sequencers and receiver protection leave
alone: the supply, the time base, the working configuration, the store, the EDIT and RESET lines, the monitor switch, and
the receive sides and the divisors of the links, whose transmit queues lose nothing. -/
def RestKept (s t : State) : Prop :=
  t.powered = s.powered ∧ t.now = s.now ∧ t.cfg = s.cfg ∧ t.store = s.store ∧ t.sam.edit = s.sam.edit ∧
    t.sam.reset = s.sam.reset ∧ t.monitor = s.monitor ∧
    ∀ l : Link, s.links[l].queue <+: t.links[l].queue ∧ t.links[l] = { s.links[l] with
      queue := t.links[l].queue, sending := t.links[l].sending, lost := t.links[l].lost,
      noticesLost := t.links[l].noticesLost }

/-- Every sequencer and its outputs stay, but that a position in SETTLING that has reached its amplifier settle, and whose
settle condition comes to hold, goes to KEYED with KEY and AMP active and INH released (R108, R121). -/
def OnlySettles (s t : State) : Prop :=
  ∀ p : Pos, (t.seqs[p] = s.seqs[p] ∧ t.outs[p] = s.outs[p]) ∨
    ∃ since, s.seqs[p] = .settling since ∧ since + s.cfg.pos[p].ampSettle ≤ s.now ∧ t.settleCond p = true ∧
      t.seqs[p] = .keyed s.now ∧ t.outs[p] = ⟨true, true, false, s.outs[p].blk⟩

/-! ## Lines and phases -/

/-- A sample of a level has been taken into a two-level line (R1, R2): its history keeps the newest three samples, and the
accepted value stays but for a first debounced level INACTIVE, which is accepted (log entry 15). -/
def LineTaken (x y : Line) (level : Bool) : Prop :=
  y.history = (x.history ++ [level]).drop (x.history.length + 1 - 3) ∧
    y.accepted = if x.accepted = .unknown ∧ y.history.length = 3 ∧ y.history.count true ≤ 1 then .inactive else x.accepted

/-- A phase that begins now over crosspoints on antennas ends after the longest of their switch times (R106). -/
def State.LastsLongest (s : State) (xs : List Ant) (n : Nat) : Prop :=
  (∀ a ∈ xs, s.now + s.cfg.ants[a].switchTime ≤ n) ∧ ∃ a ∈ xs, n = s.now + s.cfg.ants[a].switchTime

/-- An entry of the pending list that cannot be started with any of its targets, for a reason of its own: a change set of
its position is in progress, an antenna of it is not cold, or condition 4 fails and it holds no target OPEN (R104). -/
def State.PassedOver (s : State) (e : PendEntry) : Prop :=
  (s.progress e.pos).isSome = true ∨ (∃ g ∈ e.targets, s.cold g.ant = false) ∨
    ((∃ g ∈ e.targets, s.mainClear e.pos g = false) ∧ ∀ g ∈ e.targets, g.goal ≠ .opened)

/-! ## The switch pending list (R103, R104) -/

/-- The pending list holds at most one entry for each position, none of them empty, with one target for a crosspoint
(R103); at most two change sets are in progress, of two positions (R104). -/
def State.ListOrder (s : State) : Prop :=
  (s.drv.list.map (·.pos)).Nodup ∧ (∀ e ∈ s.drv.list, e.targets ≠ [] ∧ (e.targets.map (·.ant)).Nodup) ∧
    s.drv.inProg.length ≤ 2 ∧ (s.drv.inProg.map (·.pos)).Nodup ∧ ∀ c ∈ s.drv.inProg, (c.targets.map (·.ant)).Nodup

/-- The state that the pending list is to give a position's crosspoint on an antenna; none without a target for it. -/
def State.listed (s : State) (p : Pos) (a : Ant) : Option XpState :=
  ((s.drv.list.find? fun e => e.pos == p).bind fun e => e.targets.find? fun x => x.ant == a).map (·.goal)

/-- Between the two states a change set has taken a position's crosspoint on an antenna to a state: the pending list has
that target, or none where the crosspoint will stand so once the position's earlier work is done (R103). -/
def Handed (s t : State) (p : Pos) (a : Ant) (g : XpState) : Prop :=
  t.listed p a = if s.futureXp p a = g then none else some g

/-! ## Hand-over and follow -/

/-- A hand-over of a slot of an antenna may grant the slot to an entry: outside key span and main-eligible for a main slot
(R66), listen-eligible and not the holder of the antenna as its main for a listen slot (R67). -/
def State.MayGrant (s : State) (a : Ant) (slot : Slot) (e : WaitEntry) : Prop :=
  e.kind = slot ∧
    match slot with
    | .main => s.inSpan e.pos = false ∧ s.mainElig a e.pos = true
    | .listen => s.listenElig a e.pos = true ∧ s.heldAnt e.pos .main ≠ some a

/-- The entry that a hand-over grants a slot of an antenna to: of those that it may grant, RUN positions come before MULT
positions, and within a class the earlier appended first (R66). -/
def State.FirstInLine (s : State) (a : Ant) (slot : Slot) (e : WaitEntry) : Prop :=
  s.MayGrant a slot e ∧ ∃ before after : List WaitEntry, s.alloc[a].queue = before ++ e :: after ∧
    (∀ x ∈ before, s.MayGrant a slot x → s.isRun e.pos = true ∧ s.isRun x.pos = false) ∧
    ∀ x ∈ after, s.MayGrant a slot x → s.isRun e.pos = true ∨ s.isRun x.pos = false

/-- Allocation and the transmit queues have not changed. -/
def AllocSame (s t : State) : Prop := t.alloc = s.alloc ∧ t.hold = s.hold ∧ t.links = s.links

/-- The first antenna of a list that meets a condition. -/
def FirstOf (xs : List Ant) (f : Ant → Bool) (a : Ant) : Prop :=
  ∃ before after : List Ant, xs = before ++ a :: after ∧ f a = true ∧ ∀ x ∈ before, f x = false

/-- The follow of an empty slot of a position outside key span, on band `b`, leads from `u` to `t` (R89 to R92). With the
follow switch OFF nothing happens. The first candidate of the preference list that is free is granted with origin FOLLOW,
and a pending request of the slot goes. With none free, a pending request on a candidate stands; otherwise the first
candidate that may be queued for gets an entry of origin FOLLOW, before which an earlier request is removed with WITHDRAWN,
and with no such antenna FOLLOW-NONE is sent. -/
def FollowTaken (u t : State) (p : Pos) (slot : Slot) (b : Band) : Prop :=
  let xs := u.prefList p b slot
  let free (a : Ant) : Bool := u.candidate slot p a && u.slotFree slot a
  let queueable (a : Ant) : Bool := u.candidate slot p a && u.mayQueue slot p a
  (u.cfg.pos[p].follow = false → AllocSame u t) ∧
    (u.cfg.pos[p].follow = true →
      (∀ a, FirstOf xs free a → ((t.hold[p].holding slot).map fun h => (h.ant, h.origin)) = some (a, .follow) ∧
        t.hold[p].pend slot = none) ∧
      ((∀ a ∈ xs, free a = false) →
        (∀ c, u.hold[p].pend slot = some c → u.candidate slot p c = true → AllocSame u t) ∧
        ((∀ c, u.hold[p].pend slot = some c → u.candidate slot p c = false) →
          (∀ a, FirstOf xs queueable a → t.hold[p].pend slot = some a ∧
            t.alloc[a].queue = u.alloc[a].queue ++ [⟨p, slot, .follow, u.now⟩] ∧
            t.hold[p].main = u.hold[p].main ∧ t.hold[p].listen = u.hold[p].listen ∧
            t.links = (match u.hold[p].pend slot with
              | some c => (u.notify p (.withdrawn slot c)).links
              | none => u.links)) ∧
          ((∀ a ∈ xs, queueable a = false) → t.alloc = u.alloc ∧ t.hold = u.hold ∧
            t.links = (u.notify p (.followNone slot b (u.bands[p].settled (sideOf slot)))).links))))

/-- Allocation's work at a settled-segment change of a position leads from `u`, in which the settled segment has followed,
to `t` (R96). In key span the slot is marked SEGMENT and kept. Outside it a holding still eligible stays, one no longer
eligible goes with RELEASED, cause SEGMENT, and an empty slot is followed. -/
def SegmentTaken (u t : State) (p : Pos) (slot : Slot) : Prop :=
  (u.inSpan p = true → t.alloc = u.alloc ∧ t.links = u.links ∧
      t.hold = upd u.hold p (u.hold[p].setMark slot (some .segment))) ∧
    (u.inSpan p = false →
      (∀ a, u.heldAnt p slot = some a → u.elig slot a p = true → AllocSame u t) ∧
      (∀ a, u.heldAnt p slot = some a → u.elig slot a p = false → t.heldAnt p slot ≠ some a ∧
        (u.held = false → u.links[linkOf p].hasRoom = true →
          u.links[linkOf p].queue ++ [noticeFrame p (.released slot a .segment)] <+: t.links[linkOf p].queue)) ∧
      (∀ b, u.heldAnt p slot = none → u.bandOf p = some b → FollowTaken u t p slot b))

/-! ## Reset (R182) -/

/-- The live state that a RESET event or a RESTART makes of a state `s`, the links and the accepted value of RESET apart
(R1, R11, R29, R72, R115, R133, R147, R162, R182). -/
def ResetFrom (s t : State) : Prop :=
  t.powered = s.powered ∧ t.now = s.now ∧ t.pending = s.pending ∧ t.cfg = s.cfg ∧ t.store.unsaved = s.store.unsaved ∧
    t.sam.edit = Line.fresh ∧
    (∀ p : Pos, t.sam.pos[p].ptt = Line.fresh ∧ t.sam.pos[p].rfs = Line.fresh ∧ t.sam.pos[p].code = none ∧
      t.sam.pos[p].candidate = none ∧ t.sam.pos[p].keyWatch = none) ∧
    (∀ p : Pos, t.outs[p] = ⟨false, false, true, false⟩) ∧
    (∀ p : Pos, t.bands[p] = BandUnit.initial ∧ t.hold[p] = HoldRecord.initial ∧ t.spans[p] = none ∧
      t.prot[p] = Protection.initial ∧ t.seqs[p] = if s.cfg.pos[p].parked then .parked else .idle) ∧
    (∀ a : Ant, t.alloc[a] = AllocRecord.initial ∧ t.drv.faults[a] = false) ∧
    (∀ (p : Pos) (a : Ant), t.xp p a = { s.xp p a with watch := none }) ∧
    t.drv.list = [] ∧ t.drv.inProg = [] ∧ t.drv.release = .delay s.now ∧
    (∀ p : Pos, t.drv.filters[p] = ⟨none, s.drv.filters[p].commanded, .idle⟩) ∧ t.monitor = false

/-! ## Outputs (R11, R118, R159) -/

/-- The levels that a position's outputs have when its owners command them: KEY, AMP and INH as the sequencer state
commands (R118), BLK active while the blanking cause set holds a pair (R159). -/
def State.commanded (s : State) (p : Pos) : Outputs :=
  s.seqs[p].outputs ⟨false, false, true, s.prot[p].nonempty⟩

/-- Every output of a unit that has its supply stands as its owner commands, and every driver of one without it is
released (R10). -/
def State.OutputsAgree (s : State) : Prop :=
  (s.powered = true → ∀ p : Pos, s.outs[p] = s.commanded p) ∧
    (s.powered = false → ∀ (p : Pos) (x : OutLine), s.driverState p x = .released)

/-- A sequencer that stands in KEYED after a step stood there before, or has entered KEYED in it: from SETTLING, or from an
accepted press in IDLE, with the amplifier settle reached and the settle condition holding (R118, R121). -/
def KeyedBySettling (s t : State) : Prop :=
  ∀ (p : Pos) (n : Nat), t.seqs[p] = .keyed n → s.seqs[p] = .keyed n ∨
    (n = t.now ∧ t.settleCond p = true ∧ ∃ since, since + t.cfg.pos[p].ampSettle ≤ t.now ∧
      (s.seqs[p] = .settling since ∨ (s.seqs[p] = .idle ∧ since = t.now)))

/-! ## The key decision (R138) -/

/-- The place of the check that gives a denial reason (R138). -/
def Denial.place (d : Denial) : Nat :=
  match d with
  | .noAntenna => 1 | .band => 2 | .segment => 3 | .ineligible => 4 | .solo => 5 | .bandBusy => 6
  | .stationBusy => 7 | .rule _ => 8 | .protect => 9

/-- The check that gives a denial reason fails for a position (R138 to R140, R143, R144). -/
def State.CheckFails (s : State) (p : Pos) (d : Denial) : Prop :=
  match d with
  | .noAntenna => ∀ h, s.hold[p].main = some h → h.sw = .awaiting
  | .band => ∀ b, s.bands[p].state ≠ .valid b
  | .segment => ∃ b, s.bands[p].state = .valid b ∧ ∀ g, s.bands[p].curTx = some g → (s.entry b g).kind = .listen
  | .ineligible => ∃ h b g, s.hold[p].main = some h ∧ s.bands[p].state = .valid b ∧ s.bands[p].curTx = some g ∧
      ((s.entry b g).txSet.getLsbD h.ant.val = false ∨ s.drv.faults[h.ant] = true)
  | .solo => ∃ b g, s.bands[p].state = .valid b ∧ s.bands[p].curTx = some g ∧
      ∃ (q : Pos) (x : KeySpan), q ≠ p ∧ s.spans[q] = some x ∧ ((s.entry b g).kind = .solo ∨ x.solo = true)
  | .bandBusy => ∃ b, s.bands[p].state = .valid b ∧ s.cfg.bands[b].limit ≤ s.bandCount b
  | .stationBusy => s.cfg.station.stationLimit ≤ s.stationCount
  | .rule n => ∃ b, s.bands[p].state = .valid b ∧ s.denyingRule p b = some n
  | .protect => ∃ (v : Pos) (b : Band), s.prot[v].flag = true ∧ s.bandOf v = some b ∧ s.cfg.bands[b].policy = .hold ∧
      s.inConflict p v = true

/-! ## Key span and its limits (R135, R136, R160) -/

/-- The key-span records are those of the positions whose sequencer is in key span (R135, R117). -/
def State.SpansAgree (s : State) : Prop := ∀ p : Pos, s.spans[p].isSome = s.inSpan p

/-- No count is above its limit: the band counts and the station count (R136), the protect flags (R160). -/
def State.WithinLimits (s : State) : Prop :=
  (∀ b : Band, s.bandCount b ≤ s.cfg.bands[b].limit) ∧ s.stationCount ≤ s.cfg.station.stationLimit ∧
    s.flagCount ≤ s.cfg.station.protectLimit

/-- A position is PARKED exactly when its mode says so (R130, R133). -/
def State.ModesAgree (s : State) : Prop := ∀ p : Pos, s.isParked p = s.cfg.pos[p].parked

/-- Key-span records and modes agree with the sequencers and no limit is passed. -/
def State.SpanOrder (s : State) : Prop := s.SpansAgree ∧ s.ModesAgree ∧ s.WithinLimits

/-! ## Links (R167, R170, R172) -/

/-- A frame in assembly has taken no more body characters than its length names, and at most 24 (R167); before its
length has come it has taken none. -/
def Assembly.ok (a : Assembly) : Bool :=
  match a.len with
  | none => a.body.isEmpty
  | some n => decide (a.body.length ≤ n) && decide (n ≤ Config.bodyLength)

/-- A counter is from 0 to 65,535 (R172). -/
def counterOk (n : Nat) : Bool := decide (n ≤ Config.counterTop)

/-- A link in good order: at most 8 frames queued, the transmitter sending exactly while there is one, the notices-lost
flag set only while the queue is full (R170), counters in range (R172), and a hunting receiver with no frame in assembly
(R166). -/
def LinkState.ok (k : LinkState) : Bool :=
  decide (k.queue.length ≤ Config.queueLength) && (k.sending.isSome == !k.queue.isEmpty) &&
    (!k.lost || k.queue.length == Config.queueLength) &&
    counterOk k.noise && counterOk k.framing && counterOk k.check && counterOk k.overrun && counterOk k.noticesLost &&
    (!k.hunting || k.assembly.isNone) && k.assembly.elim true Assembly.ok

/-- Every link is in good order. -/
def State.LinksOk (s : State) : Prop := ∀ l : Link, s.links[l].ok = true

/-! ## The two books of the allocation unit (R48 to R51, R35) -/

/-- An antenna's main holder is the position whose main it is (R51). -/
def State.MainsAgree (s : State) : Prop :=
  ∀ (p : Pos) (a : Ant), s.alloc[a].holder = some p ↔ s.heldAnt p .main = some a

/-- An antenna's listeners are the positions whose listen it is, each once (R49, R51). -/
def State.ListensAgree (s : State) : Prop :=
  (∀ (p : Pos) (a : Ant), p ∈ s.alloc[a].listeners ↔ s.heldAnt p .listen = some a) ∧
    ∀ a : Ant, s.alloc[a].listeners.Nodup

/-- A position has an entry of a kind in an antenna's wait queue exactly when its pending request of that kind names the
antenna (R50, R51), has it once, and waits for no antenna that it holds in that slot (R57, R60). -/
def State.WaitsAgree (s : State) : Prop :=
  (∀ (p : Pos) (a : Ant) (k : Slot), s.waitsOn p k a = true ↔ s.hold[p].pend k = some a) ∧
    (∀ a : Ant, (s.alloc[a].queue.map fun e => (e.pos, e.kind)).Nodup) ∧
    ∀ (p : Pos) (a : Ant) (k : Slot), s.hold[p].pend k = some a → s.heldAnt p k ≠ some a

/-- A position's main and listen are different antennas, and so are those it awaits; it awaits no listen on its own main
(R56, R59); no antenna has its main holder on its listener list (R49, R51). -/
def State.SlotsApart (s : State) : Prop :=
  (∀ (p : Pos) (a : Ant), s.heldAnt p .main = some a → s.heldAnt p .listen ≠ some a) ∧
    (∀ (p : Pos) (a : Ant), s.hold[p].pendMain = some a → s.hold[p].pendListen ≠ some a) ∧
    (∀ (p : Pos) (a : Ant), s.heldAnt p .main = some a → s.hold[p].pendListen ≠ some a) ∧
    ∀ (p : Pos) (a : Ant), s.alloc[a].holder = some p → p ∉ s.alloc[a].listeners

/-- No listener list is longer than the share capacity (R35). -/
def State.SharesKept (s : State) : Prop := ∀ a : Ant, s.alloc[a].listeners.length ≤ s.cfg.ants[a].capacity

/-- The allocation records and the holding records tell the same story. -/
def State.BooksAgree (s : State) : Prop :=
  s.MainsAgree ∧ s.ListensAgree ∧ s.WaitsAgree ∧ s.SlotsApart ∧ s.SharesKept

/-! ## What an accepted write does (R178) -/

/-- Every blanking cause set holds exactly the pairs due (R153, R154). -/
def State.BlankingDue (s : State) : Prop :=
  ∀ v u : Pos, (s.prot[v].harmonic.getLsbD u.val = true ↔ s.harmonicDue u v = true) ∧
    (s.prot[v].coupled.getLsbD u.val = true ↔ s.coupledDue u v = true) ∧
    (s.prot[v].shared.getLsbD u.val = true ↔ s.sharedDue u v = true)

/-- A blanking pair of each kind is due exactly under the conditions of R153: the source is another position in key span,
the victim is not PARKED, and for HARMONIC both have fresh frequencies in conflict under a policy that blanks (R149, R152),
for COUPLED the victim has a crosspoint on another antenna of the group of the source's main, for SHARED on that main. That
the group of an absent antenna counts is the model's choice (log entry 53). -/
def State.PairsByRule (s : State) : Prop :=
  ∀ v u : Pos,
    (s.harmonicDue u v = true ↔ u ≠ v ∧ s.inSpan u = true ∧ s.isParked v = false ∧ ∃ (b : Band) (x y : Report),
      s.bandOf v = some b ∧ s.cfg.bands[b].policy ≠ .ignore ∧ s.bands[u].report = some x ∧ s.bands[v].report = some y ∧
      x.fresh.isSome = true ∧ y.fresh.isSome = true ∧
      harmonicTest (x.tx.getD x.rx) y.rx s.cfg.bands[b].guardBase = true) ∧
    (s.coupledDue u v = true ↔ u ≠ v ∧ s.inSpan u = true ∧ s.isParked v = false ∧ ∃ m a : Ant,
      s.heldAnt u .main = some m ∧ s.cfg.ants[m].group ≠ 0 ∧ a ≠ m ∧ s.cfg.ants[a].group = s.cfg.ants[m].group ∧
      s.hasXp v a = true) ∧
    (s.sharedDue u v = true ↔ u ≠ v ∧ s.inSpan u = true ∧ s.isParked v = false ∧ ∃ m : Ant,
      s.heldAnt u .main = some m ∧ s.hasXp v m = true)

/-- Every blanking cause set is as due, and BLK is active exactly where a set holds a pair (R154, R159). -/
def State.Blanked (s : State) : Prop := s.BlankingDue ∧ ∀ v : Pos, s.outs[v].blk = s.prot[v].nonempty

/-- The state that a revalidation leaves (R179): every wait entry is eligible, and so is every holding, but for one that a
position in key span keeps under an EDIT mark. -/
def State.Revalidated (s : State) : Prop :=
  (∀ (a : Ant), ∀ e ∈ s.alloc[a].queue, s.elig e.kind a e.pos = true) ∧
    ∀ (p : Pos) (slot : Slot) (a : Ant), s.heldAnt p slot = some a → s.elig slot a p = true ∨
      (s.inSpan p = true ∧ s.hold[p].mark slot = some .edit)

/-- What a change of an antenna record has done (R35, R71, R158, R179): a capacity lowered to 0 leaves no LISTEN entry, a
raised one leaves none while there is room, a change of group leaves the causes as due, and a change that eligibility
reads has been revalidated. -/
def AntennaTaken (s t : State) (a : Ant) (v : AntennaRecord) : Prop :=
  (s.cfg.ants[a].capacity ≠ 0 → v.capacity = 0 → ∀ e ∈ t.alloc[a].queue, e.kind ≠ .listen) ∧
    (s.cfg.ants[a].capacity < v.capacity → t.hasListenRoom a = true → ∀ e ∈ t.alloc[a].queue, e.kind ≠ .listen) ∧
    (v.group ≠ s.cfg.ants[a].group → t.BlankingDue) ∧
    (v.present ≠ s.cfg.ants[a].present ∨ v.bands ≠ s.cfg.ants[a].bands ∨ v.role ≠ s.cfg.ants[a].role → t.Revalidated)

/-- The yield timer of an antenna is in the state that R77 gives it: RUNNING or HOLDING for the main holder and the head
main-waiter while the yield time is not 0 and the waiter is RUN or the holder MULT, HOLDING while one of the two is in key
span, and STOPPED otherwise. -/
def State.YieldByRule (s : State) (a : Ant) : Prop :=
  (s.alloc[a].yieldT ≠ .stopped ↔ s.cfg.station.yieldTime ≠ 0 ∧ ∃ h w : Pos, s.alloc[a].holder = some h ∧
      s.headWaiter a = some w ∧ (s.isRun w = true ∨ s.isRun h = false)) ∧
    (∀ h w n since, s.alloc[a].yieldT = .running h w n since → s.alloc[a].holder = some h ∧ s.headWaiter a = some w ∧
      s.inSpan h = false ∧ s.inSpan w = false) ∧
    ∀ h w n, s.alloc[a].yieldT = .holding h w n → s.alloc[a].holder = some h ∧ s.headWaiter a = some w ∧
      (s.inSpan h = true ∨ s.inSpan w = true)

/-- What a change of a sequencer setting has done to the sequencer of a position that it finds in key span (R131): KEYED
from SETTLING once the new amplifier settle is reached and the settle condition holds, TAIL with cause TIMEOUT from KEYED
once the new key time limit is reached, the end of TAIL once the new tail is. -/
def TimersTaken (s t : State) (p : Pos) (v : PosSettings) : Prop :=
  (∀ since, s.seqs[p] = .settling since →
      t.seqs[p] = if since + v.ampSettle ≤ s.now ∧ t.settleCond p = true then .keyed s.now else .settling since) ∧
    (∀ since, s.seqs[p] = .keyed since → (s.now < since + v.keyLimit * 1000 → t.seqs[p] = .keyed since) ∧
      (since + v.keyLimit * 1000 ≤ s.now → v.tail ≠ 0 → t.seqs[p] = .tail .timeout none (s.now - since) s.now) ∧
      (since + v.keyLimit * 1000 ≤ s.now → v.tail = 0 → t.inSpan p = false)) ∧
    ∀ c pend n since, s.seqs[p] = .tail c pend n since → (s.now < since + v.tail → t.seqs[p] = s.seqs[p]) ∧
      (since + v.tail ≤ s.now → t.inSpan p = false)

/-- What a change of position settings has done (R8, R25, R79, R113, R130, R131): a dwell that a new segment dwell finds run
out has ended, a position un-parked stands in IDLE with its lines taken afresh, a new class has every yield timer as ruled,
a new filter mode or installed set has the filter selected again, and a sequencer setting acts on the timer that runs. -/
def SettingsTaken (s t : State) (p : Pos) (v : PosSettings) : Prop :=
  (v.dwell ≠ s.cfg.pos[p].dwell → ∀ side, t.dwellDue p side = false) ∧
    (s.cfg.pos[p].parked = true → v.parked = false → t.seqs[p] = .idle ∧ t.sam.pos[p].ptt = Line.fresh ∧
      t.sam.pos[p].rfs = Line.fresh ∧ t.sam.pos[p].code = none ∧ t.sam.pos[p].candidate = none ∧
      t.outs[p].key = false ∧ t.outs[p].amp = false ∧ t.outs[p].inh = true) ∧
    (v.cls ≠ s.cfg.pos[p].cls → s.BooksAgree → ∀ a : Ant, t.YieldByRule a) ∧
    (v.filterThru ≠ s.cfg.pos[p].filterThru ∨ v.installed ≠ s.cfg.pos[p].installed →
      t.drv.filters[p].selected = (match t.bandOf p with
        | some b => if v.filterThru = false ∧ t.isParked p = false ∧ v.installed.getLsbD b.val = true then some b else none
        | none => none)) ∧
    (v.parked = s.cfg.pos[p].parked → v.ampSettle ≠ s.cfg.pos[p].ampSettle ∨ v.tail ≠ s.cfg.pos[p].tail ∨
      v.keyLimit ≠ s.cfg.pos[p].keyLimit → TimersTaken s t p v)

/-- What the write of an item has done to the blocks that read the fields it changed (R178). -/
def WriteTaken (s t : State) (x : Item) : Prop :=
  match x with
  | .antenna a v => AntennaTaken s t a v
  | .mapEntry b g v => v.txSet ≠ s.cfg.segMap[b][g].txSet ∨ v.rxSet ≠ s.cfg.segMap[b][g].rxSet → t.Revalidated
  | .pos p v => SettingsTaken s t p v
  | .band b v =>
    (v.defaultSeg ≠ s.cfg.bands[b].defaultSeg →
        ∀ p : Pos, t.bandOf p = some b → (t.bands[p].curTx, t.bands[p].curRx) = t.currentNow p) ∧
      (v.policy ≠ s.cfg.bands[b].policy ∨ v.guardBase ≠ s.cfg.bands[b].guardBase → t.BlankingDue)
  | .station v =>
    (v.waitLimit ≠ s.cfg.station.waitLimit → ∀ (a : Ant), ∀ e ∈ t.alloc[a].queue, t.waitDue e = false) ∧
      (v.yieldTime ≠ s.cfg.station.yieldTime →
        ∀ a : Ant, t.yieldDue a = false ∧ (v.yieldTime = 0 → t.alloc[a].yieldT = .stopped))
  | .pref _ _ _ _ | .rule _ _ | .divisor _ _ => True

/-! ## Configuration (R31, R39, R88, R164, R177) -/

/-- An antenna record has its counts and its switch time in range and meets R31. -/
def AntennaRecord.valid (r : AntennaRecord) : Bool :=
  decide (r.capacity ≤ 4) && decide (5 ≤ r.switchTime) && decide (r.switchTime ≤ 100) && decide (r.group ≤ 7)

/-- Both lists of a position for a band are no longer than R88 allows and name no antenna twice. -/
def PrefLists.valid (x : PrefLists) : Bool :=
  decide (x.main.length ≤ 4) && decide (x.listen.length ≤ 2) && decide x.main.Nodup && decide x.listen.Nodup

/-- Position settings have their times in range. -/
def PosSettings.valid (x : PosSettings) : Bool :=
  decide (10 ≤ x.bandSettle) && decide (x.bandSettle ≤ 250) && decide (1 ≤ x.freshness) && decide (x.freshness ≤ 60)
    && decide (x.dwell ≤ 5000) && decide (x.ampSettle ≤ 200) && decide (x.tail ≤ 200) && decide (1 ≤ x.keyLimit)
    && decide (x.keyLimit ≤ 600)

/-- Band settings have their limit in range and a guard base of the steps of Chapter 10. -/
def BandSettings.valid (x : BandSettings) : Bool :=
  decide (x.limit ≤ 6) && decide (x.guardBase ≤ 25000) && x.guardBase % 100 == 0

/-- A time that is 0 or in its range (Chapter 5). -/
def zeroOrIn (lo hi n : Nat) : Bool := n == 0 || (decide (lo ≤ n) && decide (n ≤ hi))

/-- Station settings have their limits and times in range. -/
def StationSettings.valid (x : StationSettings) : Bool :=
  decide (1 ≤ x.stationLimit) && decide (x.stationLimit ≤ 6) && decide (x.protectLimit ≤ 2)
    && zeroOrIn 10 3600 x.waitLimit && zeroOrIn 5 600 x.yieldTime

/-- A link divisor is one of the four of R164. -/
def divisorValid (d : Nat) : Bool := d == 12 || d == 6 || d == 3 || d == 2

/-- Every item holds what a write could give it, and the two tables are consistent (R177). -/
def Cfg.valid (c : Cfg) : Bool :=
  (allAnts.all fun a => c.ants[a].valid) && (allPos.all fun p => allBands.all fun b => (c.prefs[p][b]).valid)
    && (allPos.all fun p => c.pos[p].valid) && (allBands.all fun b => c.bands[b].valid) && c.station.valid
    && (allLinks.all fun l => divisorValid c.divisors[l]) && c.consistent

/-- The working configuration is one that writes can make (R177). -/
def State.CfgValid (s : State) : Prop := s.cfg.valid = true

end Sys2Proof.Machine
end

