-- ==== Sys2Proof/Certificates/Slice0/Obligations.lean ====
section
/-! DEFINITION. The statements of the row, in the order of the chapters. Throughout, the time of a timer is a start time in
ms (log entry 1), a request row is the arrival of its complete frame on its link (log entry 8), and a unit without its supply
takes no command (log entry 9): these are the model's choices. -/

section ObligationStatements

open Sys2Proof Sys2Proof.Machine

/-! ## The step -/

/-- A step takes the command at the front of the queue and is that command's effect on the state with the queue's rest.
The queue of waiting commands is the model's (log entry 6). -/
def Obligations.StepRunsFront : Prop :=
  ∀ (c : Instr) (rest : List Instr) (s : State),
    step { s with pending := c :: rest } = exec c { s with pending := rest }

/-- Every command answers a next state, and none touches the queue of waiting commands. The queue is the model's (log
entry 6). -/
def Obligations.CommandsCompleteAndLeaveQueue : Prop :=
  ∀ (c : Instr) (s : State), ∃ t, exec c s = .next t ∧ t.pending = s.pending

/-! ## Power and reset (R9, R180 to R182) -/

/-- The state after power-on on factory defaults (R181), and that every invariant stated here holds of it. That the
store of this state reads bad is the model's choice (log entry 5). -/
def Obligations.ResetIsFactoryPowerOn : Prop :=
  (∀ a : Ant, State.reset.cfg.ants[a].present = false) ∧ (∀ p : Pos, State.reset.isParked p = true) ∧
    (∀ p : Pos, State.reset.outs[p] = ⟨false, false, true, false⟩) ∧
    (∀ (p : Pos) (a : Ant), (State.reset.xp p a).cmd = .opened) ∧
    (∀ p : Pos, State.reset.sam.pos[p].ptt.accepted = .unknown ∧ State.reset.sam.pos[p].rfs.accepted = .unknown ∧
      State.reset.sam.pos[p].code = none ∧ State.reset.bands[p].state = .none) ∧
    State.reset.sam.edit.accepted = .unknown ∧ State.reset.sam.reset.accepted = .unknown ∧
    (∀ a : Ant, State.reset.alloc[a] = ⟨none, [], [], .stopped⟩) ∧
    (∀ l : Link, State.reset.links[l].queue = [] ∧ State.reset.links[l].divisor = 6) ∧
    State.reset.monitor = false ∧
    State.reset.OutputsAgree ∧ State.reset.SpanOrder ∧ State.reset.LinksOk ∧ State.reset.BooksAgree ∧
    State.reset.ListOrder ∧ State.reset.CfgValid

/-- POWER_ON of a unit without its supply and with no save in flight (R181): the configuration is the one the store
gives, or the factory defaults with the store read as BAD; the store's contents stay; and every block takes its power-on
state: outputs safe (R11), lines unknown (R1), band units (R29), both books (R72) and key-span records (R147) empty, no
protection (R162), each sequencer in IDLE or PARKED (R133), every crosspoint and filter open or THRU with nothing pending,
in progress or faulted and no release (R115), links emptied (R174), the monitor switch off. -/
def Obligations.PowerOnLoadsStore : Prop :=
  ∀ s : State, s.powered = false → s.store.copy = none →
    ∃ t, exec .powerOn s = .next t ∧ t.powered = true ∧
      t.cfg = (loadStore s.store.image s.store.check).getD Cfg.factory ∧
      t.store = ⟨s.store.image, s.store.check, (loadStore s.store.image s.store.check).isSome, none, false⟩ ∧
      (∀ p : Pos, t.outs[p] = ⟨false, false, true, false⟩) ∧
      (∀ p : Pos, t.seqs[p] = if t.cfg.pos[p].parked then .parked else .idle) ∧
      (∀ p : Pos, t.bands[p] = ⟨.unknown, .none, none, none, none, none, none, none, none⟩ ∧
        t.hold[p] = ⟨none, none, none, none, none, none⟩ ∧ t.spans[p] = none ∧ t.prot[p] = ⟨0, 0, 0, false⟩) ∧
      (∀ p : Pos, t.sam.pos[p].ptt = Line.fresh ∧ t.sam.pos[p].rfs = Line.fresh ∧ t.sam.pos[p].code = none ∧
        t.sam.pos[p].candidate = none ∧ t.sam.pos[p].keyWatch = none) ∧
      (∀ a : Ant, t.alloc[a] = ⟨none, [], [], .stopped⟩ ∧ t.drv.faults[a] = false) ∧
      (∀ (p : Pos) (a : Ant), (t.xp p a).cmd = .opened ∧ (t.xp p a).watch = none) ∧ t.drv.release = .none ∧
      t.drv.list = [] ∧ t.drv.inProg = [] ∧ (∀ p : Pos, t.drv.filters[p] = ⟨none, none, .idle⟩) ∧
      (∀ l : Link, t.links[l] = LinkState.initial t.cfg.divisors[l]) ∧ t.monitor = false ∧
      t.sam.edit = Line.fresh ∧ t.sam.reset = Line.fresh

/-- LOSS_OF_POWER ends a save in flight and leaves the store with a bad check, so that the next power-on does not load it;
with no save in flight the store keeps its contents (R180). Every output driver is released (R10). The bytes that a
cut-off save leaves are free values (log entry 30). -/
def Obligations.PowerLossSpoilsSave : Prop :=
  ∀ s : State, s.powered = true →
    ∃ t, exec .lossOfPower s = .next t ∧ t.powered = false ∧ t.store.copy = none ∧
      (s.store.copy = none → t.store = s.store) ∧
      (s.store.copy.isSome = true → t.store.good = false ∧ loadStore t.store.image t.store.check = none) ∧
      ∀ (p : Pos) (x : OutLine), t.driverState p x = .released

/-- The RESET event (R9, R182): ACTIVE is accepted on RESET, every block's live state is reset, every link is emptied
and hunts, the configuration is kept; a save in flight is cut off and leaves a store that is not loaded (R180). That each link
still runs at the divisor applied before is the model's choice (log entry 54). -/
def Obligations.ResetEventResets : Prop :=
  ∀ s : State, s.powered = true → s.sam.reset.change = some true →
    ∃ t, exec .resetEvent s = .next t ∧ ResetFrom s t ∧ t.held = true ∧
      (∀ l : Link, t.links[l] = LinkState.initial s.links[l].divisor) ∧ t.store.copy = none ∧
      (s.store.copy = none → t.store = s.store) ∧
      (s.store.copy.isSome = true → t.store.good = false ∧ loadStore t.store.image t.store.check = none)

/-- RESTART (R174, R182): refused with SAVING while a save is in flight; otherwise the same reset, with the accepted
value of RESET kept, and its answer is the one frame queued on the station link. That each link still runs at the divisor
applied before is the model's choice (log entry 54). -/
def Obligations.RestartResetsAndAnswersFirst : Prop :=
  ∀ s : State, s.Serving stationLink →
    (s.store.copy.isSome = true → exec .restart s = .next (s.onlyAnswers stationLink 19 .saving)) ∧
      (s.store.copy = none →
        ∃ t, exec .restart s = .next t ∧ ResetFrom s t ∧ t.sam.reset.accepted = s.sam.reset.accepted ∧
          t.store = s.store ∧ t.links[stationLink].queue = [answerFrame 19 .done] ∧
          ∀ l : Link, l ≠ stationLink → t.links[l] = LinkState.initial s.links[l].divisor)

/-! ## Lines (Chapter 1) -/

/-- One sampling instant (R1, R2, R5, R6, R9, R12, R109). The time base moves by 1 ms. RESET takes its sample always; while
the unit is held in reset nothing else is read but the level sensed on KEY. Otherwise EDIT and every PTT and RFS line take
their samples, each history keeping the newest three and a first debounced level INACTIVE being accepted, the settle
candidate follows the code read, and the KEY readback watch runs while KEY is sensed active against the command. The
crosspoint watches run on disagreement outside command, and stay as they are during a release delay or release opening and
in a unit held in reset. Nothing else changes. The time base, the place of the first acceptance and that KEY comes
with the sample are the model's choices (log entries 1, 15 and 12). -/
def Obligations.SampleTakesEveryLine : Prop :=
  ∀ (s : State) (x : Sample), s.powered = true →
    ∃ t, exec (.samplingInstant x) s = .next t ∧ t.held = s.held ∧
      t = { s with now := s.now + 1, sam := t.sam, drv := { s.drv with xps := t.drv.xps } } ∧
      LineTaken s.sam.reset t.sam.reset x.reset ∧
      (s.held = true → t.sam.edit = s.sam.edit ∧
        ∀ p : Pos, t.sam.pos[p] = { s.sam.pos[p] with keySensed := x.pos[p].key }) ∧
      (s.held = false → LineTaken s.sam.edit t.sam.edit x.edit) ∧
      (s.held = false → ∀ p : Pos, t.sam.pos[p].code = s.sam.pos[p].code ∧ t.sam.pos[p].keySensed = x.pos[p].key ∧
        LineTaken s.sam.pos[p].ptt t.sam.pos[p].ptt x.pos[p].ptt ∧
        LineTaken s.sam.pos[p].rfs t.sam.pos[p].rfs x.pos[p].rfs ∧
        (t.sam.pos[p].candidate.map fun c => (c.code, c.start)) =
          (if s.sam.pos[p].code = some x.pos[p].code then none
          else match s.sam.pos[p].candidate with
            | some c => if c.code = x.pos[p].code then some (c.code, c.start) else some (x.pos[p].code, s.now + 1)
            | none => some (x.pos[p].code, s.now + 1)) ∧
        (∀ c, t.sam.pos[p].candidate = some c → c.start < s.now + 1 →
          (c.ripe = true ↔ c.start + s.cfg.pos[p].bandSettle ≤ s.now + 1)) ∧
        t.sam.pos[p].keyWatch =
          if x.pos[p].key = true ∧ s.outs[p].key = false then some (s.sam.pos[p].keyWatch.getD (s.now + 1)) else none) ∧
      ∀ (p : Pos) (a : Ant), t.xp p a = { s.xp p a with watch :=
        if s.held = true ∨ s.drv.release ≠ .none then (s.xp p a).watch
        else if (s.xp p a).disagrees = true ∧ s.underCommand p a = false then some ((s.xp p a).watch.getD (s.now + 1))
        else none }

/-- A line once accepted (R2): a single sample of the other level makes no change, two in succession do. -/
def Obligations.SecondSampleIsAccepted : Prop :=
  ∀ (v : Bool) (a : Bool),
    ((Line.mk (Accepted.of v) [v, v, v]).sample !v).change = none ∧
      (((Line.mk (Accepted.of v) [a, v, v]).sample !v).sample !v).change = some !v

/-- The changes of the station lines: EDIT opens or closes the gate (R4, R177), and INACTIVE on RESET ends the hold
(R9). -/
def Obligations.StationLinesAreAccepted : Prop :=
  ∀ s : State, s.powered = true →
    (∀ v, s.sam.edit.change = some v →
      ∃ t, exec .editChange s = .next t ∧ t.editOpen = v ∧
        t = { s with sam := { s.sam with edit := { s.sam.edit with accepted := .of v } } }) ∧
      (s.sam.reset.change = some false →
        ∃ t, exec .resetRelease s = .next t ∧ t.held = false ∧
          t = { s with sam := { s.sam with reset := { s.sam.reset with accepted := .inactive } } })

/-! ## Band unit (Chapter 2) -/

/-- A band-code event that changes the lines band of a position that is not PARKED (R6, R14 to R16, R93 to R95, R113,
R114, R122 to R124, R160). The candidate's code is accepted, the report is kept only if it is on the new band, the
segments are those of R23 and settled at once, both dwells stop, the protect flag is cleared, and no other band unit
changes. The sequencer goes from SETTLING or KEYED to TAIL with cause BAND, KEY inactive and AMP still active, which a
tail setting of 0 ends at once, and stays as it is otherwise. The filter is selected again; outside key span, with RFS
inactive and no release or filter switch in course, it is commanded at once, and in key span the commanded filter stays.
After the BAND-STATE notice every pending request is withdrawn with its notice. In key span, with a tail setting other
than 0, both slots are marked BAND and keep their holdings. Outside it, with no band, the position is left with nothing;
on a band a main still eligible stays and one no longer eligible goes, so does a listen when the main stayed, and two
empty slots are followed, the main first: the first free candidate of the main list is granted with origin FOLLOW, and
none while the follow switch is OFF. Where the effects on the other blocks stand in the order is the model's choice (log
entry 18). -/
def Obligations.BandCodeChangesBand : Prop :=
  ∀ (s : State) (p : Pos) (c : Candidate), s.powered = true → s.isParked p = false →
    s.sam.pos[p].candidate = some c → c.ripe = true → linesOfCode c.code ≠ s.bands[p].lines →
    ∃ t, exec (.bandCodeEvent p) s = .next t ∧ t.sam.pos[p].code = some c.code ∧
      t.sam.pos[p].candidate = none ∧ t.bands[p].lines = linesOfCode c.code ∧
      t.bands[p].report = (match linesOfCode c.code, s.bands[p].report with
        | .band b, some r => if r.band = some b then some r else none
        | _, _ => none) ∧
      t.bands[p].state = deriveState t.bands[p].lines t.bands[p].report ∧
      (t.bands[p].curTx, t.bands[p].curRx) = currentOf s.defaultSeg t.bands[p].state t.bands[p].report ∧
      t.bands[p].setTx = t.bands[p].curTx ∧ t.bands[p].setRx = t.bands[p].curRx ∧
      t.bands[p].dwellTx = none ∧ t.bands[p].dwellRx = none ∧ t.prot[p].flag = false ∧ RestKept s t ∧
      (∀ q : Pos, q ≠ p → t.bands[q] = s.bands[q] ∧ t.prot[q].flag = s.prot[q].flag) ∧
      (∀ kt, (∃ since, s.seqs[p] = .settling since) ∧ kt = 0 ∨ (∃ since, s.seqs[p] = .keyed since ∧ kt = s.now - since) →
        (s.cfg.pos[p].tail ≠ 0 → t.seqs[p] = .tail .band none kt s.now ∧ t.spans = s.spans ∧
          t.outs[p].key = false ∧ t.outs[p].amp = true ∧ t.outs[p].inh = true) ∧
        (s.cfg.pos[p].tail = 0 → t.spans = upd s.spans p none ∧
          t.seqs[p] = (if s.sam.pos[p].rfs.accepted = .active then .lockout .rfHang
            else if s.sam.pos[p].ptt.accepted = .active then .denied else .idle) ∧
          t.outs[p].key = false ∧ t.outs[p].amp = false ∧ t.outs[p].inh = true)) ∧
      ((∀ since, s.seqs[p] ≠ .settling since ∧ s.seqs[p] ≠ .keyed since) → t.seqs[p] = s.seqs[p] ∧ t.spans = s.spans ∧
        t.outs[p].key = s.outs[p].key ∧ t.outs[p].amp = s.outs[p].amp ∧ t.outs[p].inh = s.outs[p].inh) ∧
      t.drv.filters[p].selected = (match linesOfCode c.code with
        | .band b => if s.cfg.pos[p].filterThru = false ∧ s.cfg.pos[p].installed.getLsbD b.val = true then some b else none
        | _ => none) ∧
      (t.inSpan p = true → t.drv.filters[p].commanded = s.drv.filters[p].commanded) ∧
      (s.inSpan p = false → s.rfsActive p = false → s.drv.release = .none →
        (∀ n, s.drv.filters[p].sw ≠ .switching n) → t.drv.filters[p].commanded = t.drv.filters[p].selected) ∧
      (∀ w : State, w = (let n := s.notify p (.bandState t.bands[p].state t.bands[p].lines t.bands[p].curTx
            t.bands[p].curRx)
          let n := s.hold[p].pendMain.elim n fun a => n.notify p (.withdrawn .main a)
          s.hold[p].pendListen.elim n fun a => n.notify p (.withdrawn .listen a)) →
        (∀ l : Link, w.links[l].queue <+: t.links[l].queue) ∧
        (s.inSpan p = true → s.cfg.pos[p].tail ≠ 0 → t.links = w.links ∧ t.hold = upd s.hold p { s.hold[p] with
          pendMain := none, pendListen := none, markMain := some .band, markListen := some .band })) ∧
      (s.BooksAgree → s.inSpan p = false →
        ((∀ b, linesOfCode c.code ≠ .band b) → t.hold[p].main = none ∧ t.hold[p].listen = none ∧
          t.hold[p].pendMain = none ∧ t.hold[p].pendListen = none) ∧
        ∀ b, linesOfCode c.code = .band b →
          (∀ h, s.hold[p].main = some h → t.mainElig h.ant p = true → t.hold[p].main = some h ∧
            ∀ k, s.hold[p].listen = some k →
              (t.listenElig k.ant p = true → t.hold[p].listen = some k) ∧
              (t.listenElig k.ant p = false → t.heldAnt p .listen ≠ some k.ant)) ∧
          (∀ a, s.heldAnt p .main = some a → t.mainElig a p = false → t.heldAnt p .main ≠ some a ∧
            (s.cfg.pos[p].follow = false → t.hold[p].main = none ∧ t.hold[p].pendMain = none)) ∧
          (s.hold[p].main = none → s.hold[p].listen = none →
            (s.cfg.pos[p].follow = false → t.hold[p].main = none ∧ t.hold[p].listen = none ∧
              t.hold[p].pendMain = none ∧ t.hold[p].pendListen = none) ∧
            (s.cfg.pos[p].follow = true →
              ∀ a, FirstOf s.cfg.prefs[p][b].main (fun x => t.mainElig x p && s.alloc[x].holder.isNone) a →
                (t.hold[p].main.map fun h => (h.ant, h.origin)) = some (a, .follow))))

/-- FREQ (R19, R20): refused in the order PARKED, RANGE, SPLIT-BAND; otherwise answered DONE, and the report is held,
fresh from now, with the band of its RX frequency and the band state derived from it. -/
def Obligations.FreqIsCheckedThenHeld : Prop :=
  ∀ (s : State) (p : Pos) (rx : BitVec 32) (tx : Option (BitVec 32)), s.Serving (linkOf p) →
    (s.isParked p = true → exec (.freq p rx tx) s = .next (s.onlyAnswers (linkOf p) 6 .parked)) ∧
      (s.isParked p = false →
        (∃ f : BitVec 32, (f = rx ∨ tx = some f) ∧ (f.toNat < 100000 ∨ 60000000 < f.toNat)) →
        exec (.freq p rx tx) s = .next (s.onlyAnswers (linkOf p) 6 .range)) ∧
      (s.isParked p = false →
        (∀ f : BitVec 32, f = rx ∨ tx = some f → 100000 ≤ f.toNat ∧ f.toNat ≤ 60000000) →
        ((∃ f : BitVec 32, tx = some f ∧ bandOfFreq f.toNat ≠ bandOfFreq rx.toNat) →
          exec (.freq p rx tx) s = .next (s.onlyAnswers (linkOf p) 6 .splitBand)) ∧
        ((∀ f : BitVec 32, tx = some f → bandOfFreq f.toNat = bandOfFreq rx.toNat) →
          ∃ t, exec (.freq p rx tx) s = .next t ∧ Answered s t (linkOf p) 6 .done ∧
            t.bands[p].report = some ⟨rx.toNat, tx.map (·.toNat), bandOfFreq rx.toNat,
              some ⟨s.now, s.cfg.pos[p].freshness * 1000⟩⟩ ∧
            t.bands[p].lines = s.bands[p].lines ∧
            t.bands[p].state = deriveState s.bands[p].lines t.bands[p].report ∧
            (t.bands[p].curTx, t.bands[p].curRx) = currentOf s.defaultSeg t.bands[p].state t.bands[p].report ∧
            RestKept s t ∧ t.sam = s.sam ∧ t.spans = s.spans ∧
            ∀ q : Pos, q ≠ p → t.bands[q] = s.bands[q]))

/-- FRESHNESS_EXPIRY (R21): the report is kept and goes stale with its timer stopped, MISMATCH(b) becomes VALID(b), and
the current segments fall to the default segment of the band. -/
def Obligations.FreshnessExpiryMakesStale : Prop :=
  ∀ (s : State) (p : Pos) (r : Report) (x : FreshTimer) (b : Band), s.powered = true →
    s.bands[p].report = some r → r.fresh = some x → x.start + x.limit ≤ s.now → s.bands[p].lines = .band b →
    ∃ t, exec (.freshnessExpiry p) s = .next t ∧ t.bands[p].report = some { r with fresh := none } ∧
      t.bands[p].lines = .band b ∧ t.bands[p].state = .valid b ∧
      t.bands[p].curTx = some s.cfg.bands[b].defaultSeg ∧ t.bands[p].curRx = some s.cfg.bands[b].defaultSeg ∧
      t.rxFreq p = none ∧ t.txFreq p = none ∧ RestKept s t ∧ t.sam = s.sam ∧ t.spans = s.spans ∧
      ∀ q : Pos, q ≠ p → t.bands[q] = s.bands[q]

/-- DWELL_EXPIRY (R25, R96, R89 to R92): the settled segment of the side takes its current segment and the dwell stops; the
other side, the current segments and the other band units stay. Allocation then takes the settled-segment change of the
slot of that side: in key span the slot is marked SEGMENT, outside it a holding no longer eligible is released and an empty
slot is followed as R90 to R92 state. A follow without a band, and that a candidate of R92 need not stand in the list, are
readings of the model (log entries 22 and 23). -/
def Obligations.DwellExpirySettlesSide : Prop :=
  ∀ (s : State) (p : Pos) (start : Nat), s.powered = true → start + s.cfg.pos[p].dwell ≤ s.now →
    (s.bands[p].dwellTx = some start → ∀ u : State,
      u = { s with bands := upd s.bands p { s.bands[p] with setTx := s.bands[p].curTx, dwellTx := none } } →
      ∃ t, exec (.dwellExpiry p .tx) s = .next t ∧ t.bands = u.bands ∧ SegmentTaken u t p .main ∧
        RestKept s t ∧ t.sam = s.sam ∧ t.spans = s.spans ∧ t.prot = s.prot) ∧
      (s.bands[p].dwellRx = some start → ∀ u : State,
        u = { s with bands := upd s.bands p { s.bands[p] with setRx := s.bands[p].curRx, dwellRx := none } } →
        ∃ t, exec (.dwellExpiry p .rx) s = .next t ∧ t.bands = u.bands ∧ SegmentTaken u t p .listen ∧
          RestKept s t ∧ t.sam = s.sam ∧ t.spans = s.spans ∧ t.prot = s.prot)

/-- The band and segment of a frequency (R22): the band is the one whose edges contain it, and there is none outside
every band; the segment is the quotient of (f - low) * 16 by the span, 16 taken as 15; each segment begins at low + k *
width, one sixteenth of the span wide, and the high edge is in S15. -/
def Obligations.SegmentHoldsFrequency : Prop :=
  (∀ f : Nat, (∀ b : Band, f < Config.bandLow b ∨ Config.bandHigh b < f) → bandOfFreq f = none) ∧
    ∀ (b : Band) (f : Nat), Config.bandLow b ≤ f → f ≤ Config.bandHigh b →
      bandOfFreq f = some b ∧
        (segOfFreq b f).val = min 15 ((f - Config.bandLow b) * 16 / Config.bandSpan b) ∧
        Config.bandLow b + (segOfFreq b f).val * (Config.bandSpan b / 16) ≤ f ∧
        (f < Config.bandLow b + ((segOfFreq b f).val + 1) * (Config.bandSpan b / 16) ∨
          (f = Config.bandHigh b ∧ segOfFreq b f = 15))

/-! ## Allocation (Chapters 4 to 6) -/

/-- SELECT_MAIN of an eligible antenna whose main slot is free (R55, R56): answered DONE, and the position is its main
holder and that of no other antenna, with no pending main left. Its change set joins the switch pending list (R53, R103):
the antenna to MAIN and the one it replaces to OPEN, each without a target where the crosspoint will stand so anyway. -/
def Obligations.SelectMainGrantsFreeAntenna : Prop :=
  ∀ (s : State) (p : Pos) (x : Byte) (w : Bool) (a : Ant) (b : Band), s.Serving (linkOf p) → s.BooksAgree →
    s.isParked p = false → s.bands[p].state = .valid b → x.toNat = a.val + 1 → s.mainElig a p = true →
    s.inSpan p = false → s.alloc[a].holder = none →
    ∃ t, exec (.selectMain p x w) s = .next t ∧ Answered s t (linkOf p) 1 .done ∧ t.heldAnt p .main = some a ∧
      (∀ m : Ant, t.alloc[m].holder = some p ↔ m = a) ∧ t.hold[p].pendMain = none ∧
      RestKept s t ∧ t.bands = s.bands ∧ t.sam = s.sam ∧ t.spans = s.spans ∧ t.prot = s.prot ∧
      t.drv = { s.drv with list := t.drv.list } ∧ OnlySettles s t ∧
      (s.ListOrder → Handed s t p a .main ∧ ∀ m : Ant, s.heldAnt p .main = some m → Handed s t p m .opened)

/-- SELECT_MAIN of an eligible antenna that has another main holder (R57). With no-wait: BUSY. Without it: a position
that waits for its main already keeps its entry, now of origin OPERATOR, and is answered QUEUED; one that waits to
listen there is answered BUSY; any other is answered QUEUED, an earlier pending main of it is removed without notice,
and an entry of origin OPERATOR joins the end of the queue with its wait timer at zero. No holding changes. -/
def Obligations.SelectMainQueuesOnHeldAntenna : Prop :=
  ∀ (s : State) (p h : Pos) (x : Byte) (a : Ant) (b : Band), s.Serving (linkOf p) →
    s.isParked p = false → s.bands[p].state = .valid b → x.toNat = a.val + 1 → s.mainElig a p = true →
    s.inSpan p = false → s.alloc[a].holder = some h → s.heldAnt p .main ≠ some a →
    exec (.selectMain p x true) s = .next (s.onlyAnswers (linkOf p) 1 .busy) ∧
      (s.hold[p].pendMain = some a →
        exec (.selectMain p x false) s = .next { s.onlyAnswers (linkOf p) 1 .queued with
          alloc := upd s.alloc a { s.alloc[a] with queue := s.alloc[a].queue.map fun e =>
            if e.pos = p ∧ e.kind = .main then { e with origin := .operator } else e } }) ∧
      (s.hold[p].pendMain ≠ some a → s.hold[p].pendListen = some a →
        exec (.selectMain p x false) s = .next (s.onlyAnswers (linkOf p) 1 .busy)) ∧
      (s.hold[p].pendMain ≠ some a → s.hold[p].pendListen ≠ some a →
        ∃ t, exec (.selectMain p x false) s = .next t ∧
          t.links = (s.onlyAnswers (linkOf p) 1 .queued).links ∧ t.hold[p].pendMain = some a ∧
          t.alloc[a].queue = s.alloc[a].queue ++ [⟨p, .main, .operator, s.now⟩] ∧
          (∀ c : Ant, s.hold[p].pendMain = some c → t.waitsOn p .main c = false) ∧
          (∀ q : Pos, t.hold[q].main = s.hold[q].main ∧ t.hold[q].listen = s.hold[q].listen) ∧
          (∀ c : Ant, t.alloc[c].holder = s.alloc[c].holder ∧ t.alloc[c].listeners = s.alloc[c].listeners) ∧
          RestKept s t ∧ t.bands = s.bands ∧ t.drv = s.drv ∧ t.seqs = s.seqs ∧ t.outs = s.outs)

/-- SELECT_LISTEN (R59, R60). The checks in the order of R59: PARKED, BAND, UNKNOWN, INELIGIBLE for an antenna that is not
listen-eligible or is the position's main, KEYED, and DONE for its own listen; each changes nothing but the transmit
queue. Past them, with room: answered DONE, and the position is among the antenna's listeners and among those of no other
antenna, with no pending listen left; its change set takes the antenna to LISTEN and the one replaced to OPEN (R53, R103).
With a full list: BUSY with no-wait, with a share capacity of 0, or while the position waits for the antenna's main;
otherwise QUEUED, with its entry, new or kept, of origin OPERATOR. -/
def Obligations.SelectListenGrantsRoom : Prop :=
  (∀ (s : State) (p : Pos) (x : Byte) (w : Bool), s.Serving (linkOf p) →
    (s.isParked p = true → exec (.selectListen p x w) s = .next (s.onlyAnswers (linkOf p) 2 .parked)) ∧
      (s.isParked p = false → (∀ b, s.bands[p].state ≠ .valid b) →
        exec (.selectListen p x w) s = .next (s.onlyAnswers (linkOf p) 2 .band)) ∧
      ∀ b, s.isParked p = false → s.bands[p].state = .valid b →
        ((∀ a : Ant, x.toNat = a.val + 1 → s.cfg.ants[a].present = false) →
          exec (.selectListen p x w) s = .next (s.onlyAnswers (linkOf p) 2 .unknown)) ∧
        ∀ a : Ant, x.toNat = a.val + 1 → s.cfg.ants[a].present = true →
          (s.listenElig a p = false ∨ s.heldAnt p .main = some a →
            exec (.selectListen p x w) s = .next (s.onlyAnswers (linkOf p) 2 .ineligible)) ∧
          (s.listenElig a p = true → s.heldAnt p .main ≠ some a →
            (s.inSpan p = true → exec (.selectListen p x w) s = .next (s.onlyAnswers (linkOf p) 2 .keyed)) ∧
            (s.inSpan p = false → s.heldAnt p .listen = some a →
              exec (.selectListen p x w) s = .next (s.onlyAnswers (linkOf p) 2 .done)))) ∧
  ∀ (s : State) (p : Pos) (x : Byte) (a : Ant) (b : Band), s.Serving (linkOf p) → s.BooksAgree →
    s.isParked p = false → s.bands[p].state = .valid b → x.toNat = a.val + 1 → s.listenElig a p = true →
    s.heldAnt p .main ≠ some a → s.inSpan p = false → s.heldAnt p .listen ≠ some a →
    (s.hasListenRoom a = true → ∀ w : Bool,
      ∃ t, exec (.selectListen p x w) s = .next t ∧ Answered s t (linkOf p) 2 .done ∧
        t.heldAnt p .listen = some a ∧ (∀ m : Ant, p ∈ t.alloc[m].listeners ↔ m = a) ∧ t.hold[p].pendListen = none ∧
        RestKept s t ∧ t.bands = s.bands ∧ t.sam = s.sam ∧ t.spans = s.spans ∧ t.prot = s.prot ∧
        t.drv = { s.drv with list := t.drv.list } ∧ OnlySettles s t ∧
        (s.ListOrder → Handed s t p a .listen ∧
          ∀ m : Ant, s.heldAnt p .listen = some m → Handed s t p m .opened)) ∧
      (s.hasListenRoom a = false →
        exec (.selectListen p x true) s = .next (s.onlyAnswers (linkOf p) 2 .busy) ∧
        (s.cfg.ants[a].capacity = 0 → exec (.selectListen p x false) s = .next (s.onlyAnswers (linkOf p) 2 .busy)) ∧
        (s.cfg.ants[a].capacity ≠ 0 → s.hold[p].pendListen ≠ some a → s.hold[p].pendMain = some a →
          exec (.selectListen p x false) s = .next (s.onlyAnswers (linkOf p) 2 .busy)) ∧
        (s.cfg.ants[a].capacity ≠ 0 → s.hold[p].pendListen = some a →
          exec (.selectListen p x false) s = .next { s.onlyAnswers (linkOf p) 2 .queued with
            alloc := upd s.alloc a { s.alloc[a] with queue := s.alloc[a].queue.map fun e =>
              if e.pos = p ∧ e.kind = .listen then { e with origin := .operator } else e } }) ∧
        (s.cfg.ants[a].capacity ≠ 0 → s.hold[p].pendListen ≠ some a → s.hold[p].pendMain ≠ some a →
          ∃ t, exec (.selectListen p x false) s = .next t ∧
            t.links = (s.onlyAnswers (linkOf p) 2 .queued).links ∧ t.hold[p].pendListen = some a ∧
            t.alloc[a].queue = s.alloc[a].queue ++ [⟨p, .listen, .operator, s.now⟩] ∧
            (∀ q : Pos, t.hold[q].main = s.hold[q].main ∧ t.hold[q].listen = s.hold[q].listen) ∧
            (∀ c : Ant, t.alloc[c].holder = s.alloc[c].holder ∧ t.alloc[c].listeners = s.alloc[c].listeners) ∧
            RestKept s t ∧ t.drv = s.drv ∧ t.seqs = s.seqs))

/-- The checks of SELECT_MAIN, in the order of R55: PARKED, BAND, UNKNOWN, INELIGIBLE, KEYED, and DONE for the
position's own main. Each changes nothing but the transmit queue. -/
def Obligations.SelectMainRefusesInOrder : Prop :=
  ∀ (s : State) (p : Pos) (x : Byte) (w : Bool), s.Serving (linkOf p) →
    (s.isParked p = true → exec (.selectMain p x w) s = .next (s.onlyAnswers (linkOf p) 1 .parked)) ∧
      (s.isParked p = false → (∀ b, s.bands[p].state ≠ .valid b) →
        exec (.selectMain p x w) s = .next (s.onlyAnswers (linkOf p) 1 .band)) ∧
      ∀ b, s.isParked p = false → s.bands[p].state = .valid b →
        ((∀ a : Ant, x.toNat = a.val + 1 → s.cfg.ants[a].present = false) →
          exec (.selectMain p x w) s = .next (s.onlyAnswers (linkOf p) 1 .unknown)) ∧
        ∀ a : Ant, x.toNat = a.val + 1 → s.cfg.ants[a].present = true →
          (s.mainElig a p = false → exec (.selectMain p x w) s = .next (s.onlyAnswers (linkOf p) 1 .ineligible)) ∧
            (s.mainElig a p = true → s.inSpan p = true →
              exec (.selectMain p x w) s = .next (s.onlyAnswers (linkOf p) 1 .keyed)) ∧
            (s.mainElig a p = true → s.inSpan p = false → s.heldAnt p .main = some a →
              exec (.selectMain p x w) s = .next (s.onlyAnswers (linkOf p) 1 .done))

/-- DROP_MAIN and DROP_LISTEN (R61, R62): from a PARKED position answered PARKED and in key span KEYED, with no effect;
otherwise answered DONE. A dropped main leaves the position no main and no pending main; a dropped listen is left; with
nothing to drop nothing changes. The slot freed goes to the first waiter in arbitration order that it may be granted to
(R66, R67): RUN before MULT and within a class the earlier appended, an entry in key span passed over at a main slot. With
no such waiter the main slot stays free, and the entries of positions in key span keep their places. The crosspoint dropped
is listed for OPEN, and that of the position granted for MAIN or LISTEN, unless it will stand so anyway (R53, R103); a
PARKED position, which only a state that no run reaches has in a queue, hands over none. -/
def Obligations.DropsReleaseSlots : Prop :=
  ∀ (s : State) (p : Pos), s.Serving (linkOf p) →
    (s.isParked p = true → exec (.dropMain p) s = .next (s.onlyAnswers (linkOf p) 3 .parked) ∧
      exec (.dropListen p) s = .next (s.onlyAnswers (linkOf p) 4 .parked)) ∧
      (s.inSpan p = true → exec (.dropMain p) s = .next (s.onlyAnswers (linkOf p) 3 .keyed) ∧
        exec (.dropListen p) s = .next (s.onlyAnswers (linkOf p) 4 .keyed)) ∧
      (s.isParked p = false → s.inSpan p = false → s.BooksAgree →
        (∃ t, exec (.dropMain p) s = .next t ∧ Answered s t (linkOf p) 3 .done ∧ t.heldAnt p .main = none ∧
          t.hold[p].pendMain = none ∧ (∀ a : Ant, t.alloc[a].holder ≠ some p) ∧ RestKept s t ∧ t.bands = s.bands ∧
          t.spans = s.spans ∧ t.drv = { s.drv with list := t.drv.list } ∧ OnlySettles s t ∧
          ∀ a : Ant, s.heldAnt p .main = some a →
            (s.ListOrder → Handed s t p a .opened) ∧
            (∀ e, s.FirstInLine a .main e → t.alloc[a].holder = some e.pos ∧ t.hold[e.pos].pendMain = none ∧
              (t.hold[e.pos].main.map fun h => (h.ant, h.origin)) = some (a, e.origin) ∧
              (s.ListOrder → s.isParked e.pos = false → Handed s t e.pos a .main)) ∧
            ((∀ e ∈ s.alloc[a].queue, ¬s.MayGrant a .main e) → t.alloc[a].holder = none ∧
              t.alloc[a].queue = s.alloc[a].queue.filter fun e => e.kind == .listen || s.inSpan e.pos)) ∧
        (s.heldAnt p .main = none → s.hold[p].pendMain = none →
          exec (.dropMain p) s = .next (s.onlyAnswers (linkOf p) 3 .done)) ∧
        (s.heldAnt p .listen = none → exec (.dropListen p) s = .next (s.onlyAnswers (linkOf p) 4 .done)) ∧
        ∀ a : Ant, s.heldAnt p .listen = some a →
          ∃ t, exec (.dropListen p) s = .next t ∧ Answered s t (linkOf p) 4 .done ∧ t.heldAnt p .listen ≠ some a ∧
            p ∉ t.alloc[a].listeners ∧ RestKept s t ∧ t.bands = s.bands ∧ t.spans = s.spans ∧
            t.drv = { s.drv with list := t.drv.list } ∧ OnlySettles s t ∧
            (s.ListOrder → Handed s t p a .opened) ∧
            (∀ e, s.FirstInLine a .listen e → e.pos ∈ t.alloc[a].listeners ∧
              (t.hold[e.pos].listen.map fun h => (h.ant, h.origin)) = some (a, e.origin) ∧
              (s.ListOrder → s.isParked e.pos = false → Handed s t e.pos a .listen)) ∧
            ((∀ e ∈ s.alloc[a].queue, ¬s.MayGrant a .listen e) →
              t.alloc[a].listeners = s.alloc[a].listeners.filter (· != p) ∧
              t.alloc[a].queue = s.alloc[a].queue.filter (·.kind == .main)))

/-- CANCEL (R63): answered DONE whatever the state, each slot named loses its pending request, and with it its entry,
without notice. A slot not named keeps its request, every other wait entry keeps its place, and no holding changes. -/
def Obligations.CancelRemovesPending : Prop :=
  ∀ (s : State) (p : Pos) (x : CancelSlot), s.Serving (linkOf p) →
    ∃ t, exec (.cancel p x) s = .next t ∧ t.links = (s.onlyAnswers (linkOf p) 5 .done).links ∧
      (x ≠ .listen → t.hold[p].pendMain = none ∧ ∀ a : Ant, s.hold[p].pendMain = some a → t.waitsOn p .main a = false) ∧
      (x ≠ .main → t.hold[p].pendListen = none ∧
        ∀ a : Ant, s.hold[p].pendListen = some a → t.waitsOn p .listen a = false) ∧
      (x = .listen → t.hold[p].pendMain = s.hold[p].pendMain) ∧
      (x = .main → t.hold[p].pendListen = s.hold[p].pendListen) ∧
      (∀ a : Ant, t.alloc[a].queue = s.alloc[a].queue.filter fun e => !decide (e.pos = p ∧
        ((e.kind = .main ∧ x ≠ .listen ∧ s.hold[p].pendMain = some a) ∨
          (e.kind = .listen ∧ x ≠ .main ∧ s.hold[p].pendListen = some a)))) ∧
      (∀ q : Pos, t.hold[q].main = s.hold[q].main ∧ t.hold[q].listen = s.hold[q].listen ∧
        t.hold[q].markMain = s.hold[q].markMain ∧ t.hold[q].markListen = s.hold[q].markListen ∧
        (q ≠ p → t.hold[q] = s.hold[q])) ∧
      (∀ a : Ant, t.alloc[a].holder = s.alloc[a].holder ∧ t.alloc[a].listeners = s.alloc[a].listeners) ∧
      RestKept s t ∧ t.bands = s.bands ∧ t.drv = s.drv ∧ t.seqs = s.seqs ∧ t.outs = s.outs

/-- WAIT_EXPIRY of an entry that has reached a wait limit other than 0 (R75): it leaves the queue, its position's
pending request is absent, and an EXPIRED notice with cause WAIT goes to the position. No slot is freed or granted. -/
def Obligations.WaitExpiryRemovesEntry : Prop :=
  ∀ (s : State) (a : Ant) (p : Pos) (e : WaitEntry), s.powered = true →
    (s.alloc[a].queue.find? fun y => y.pos == p) = some e → s.cfg.station.waitLimit ≠ 0 →
    e.since + s.cfg.station.waitLimit * 1000 ≤ s.now →
    ∃ t, exec (.waitExpiry a p) s = .next t ∧ t.waitsOn p e.kind a = false ∧ t.hold[p].pend e.kind = none ∧
      t.links = (s.notify p (.expired e.kind a .wait)).links ∧
      (∀ q : Pos, t.hold[q].main = s.hold[q].main ∧ t.hold[q].listen = s.hold[q].listen) ∧
      (∀ c : Ant, t.alloc[c].holder = s.alloc[c].holder ∧ t.alloc[c].listeners = s.alloc[c].listeners ∧
        (c ≠ a → t.alloc[c] = s.alloc[c])) ∧
      RestKept s t ∧ t.bands = s.bands ∧ t.drv = s.drv ∧ t.seqs = s.seqs

/-- YIELD_EXPIRY of a timer that has counted the yield time (R78, R80, R81): an eligible head main-waiter becomes the main
holder, and the position that held the antenna holds it no more and is told PREEMPTED if its queue has room; the
crosspoints are listed for MAIN and OPEN (R53, R103). A head main-waiter that is not eligible loses its entry with an
EXPIRED notice of cause INELIGIBLE, and no holding changes. -/
def Obligations.YieldExpiryPreempts : Prop :=
  ∀ (s : State) (a : Ant) (h w h' w' : Pos) (n since : Nat), s.powered = true → s.held = false → s.BooksAgree →
    s.alloc[a].holder = some h → s.headWaiter a = some w → s.alloc[a].yieldT = .running h' w' n since →
    s.cfg.station.yieldTime * 1000 ≤ n + (s.now - since) →
    (s.mainElig a w = true →
      ∃ t, exec (.yieldExpiry a) s = .next t ∧ t.alloc[a].holder = some w ∧ t.heldAnt w .main = some a ∧
        t.heldAnt h .main ≠ some a ∧ t.hold[w].pendMain = none ∧
        (s.links[linkOf h].hasRoom = true →
          s.links[linkOf h].queue ++ [noticeFrame h (.preempted .main a w)] <+: t.links[linkOf h].queue) ∧
        RestKept s t ∧ t.bands = s.bands ∧ t.sam = s.sam ∧ t.spans = s.spans ∧ t.prot = s.prot ∧
        t.drv = { s.drv with list := t.drv.list } ∧ OnlySettles s t ∧
        (s.ListOrder → (s.isParked w = false → Handed s t w a .main) ∧
          (s.isParked h = false → Handed s t h a .opened))) ∧
      (s.mainElig a w = false →
        ∃ t, exec (.yieldExpiry a) s = .next t ∧ t.waitsOn w .main a = false ∧ t.hold[w].pendMain = none ∧
          t.links = (s.notify w (.expired .main a .ineligible)).links ∧
          (∀ q : Pos, t.hold[q].main = s.hold[q].main ∧ t.hold[q].listen = s.hold[q].listen) ∧
          (∀ c : Ant, t.alloc[c].holder = s.alloc[c].holder ∧ t.alloc[c].listeners = s.alloc[c].listeners) ∧
          RestKept s t ∧ t.bands = s.bands ∧ t.drv = s.drv ∧ t.seqs = s.seqs ∧ t.outs = s.outs)

/-! ## Crosspoint driver (Chapter 7) -/

/-- CHANGE_SET_START of an entry of the pending list that meets conditions 1, 2, 3 and 5 of R104, past entries that cannot
be started. With condition 4 it starts whole and leaves the list; without it its targets OPEN start as a change set of
their own and the entry keeps its place with the others. What starts is in progress, and each AWAITING holding that it
carries goes to SWITCHING (R52). Targets OPEN, and those that go from one closed state to the other, are commanded OPEN in
an opening phase as long as the longest switch time among their antennas; with nothing to open, the closings are commanded
at once in a closing phase of the length of theirs (R106). That one command starts one entry, and how condition 4 is read,
are the model's choices (log entries 16 and 43). -/
def Obligations.ChangeSetStartsInOrder : Prop :=
  ∀ (s : State) (e : PendEntry) (pre rest : List PendEntry) (ts : List Target), s.powered = true →
    s.drv.list = pre ++ e :: rest → (∀ x ∈ pre, s.PassedOver x) → (∀ x ∈ pre ++ rest, x.pos ≠ e.pos ∧ x.targets ≠ []) →
    (e.targets.map (·.ant)).Nodup → s.drv.inProg.length < 2 → s.progress e.pos = none → s.drv.release = .none →
    (∀ g ∈ e.targets, s.cold g.ant = true) → ts ≠ [] →
    ((∀ g ∈ e.targets, s.mainClear e.pos g = true) ∧ ts = e.targets ∨
      (∃ g ∈ e.targets, s.mainClear e.pos g = false) ∧ ts = e.targets.filter fun g => g.goal == .opened) →
    ∃ t, exec .changeSetStart s = .next t ∧
      (ts = e.targets → t.drv.list = pre ++ rest) ∧
      (ts ≠ e.targets → t.drv.list = pre ++ { e with targets := e.targets.filter fun g => g.goal != .opened } :: rest) ∧
      (∃ c, t.drv.inProg = s.drv.inProg ++ [c] ∧ c.pos = e.pos ∧ c.targets = ts ∧
        ∀ opens : List Target, opens = (ts.filter fun g => g.goal == .opened ||
            ((s.xp e.pos g.ant).cmd != .opened && (s.xp e.pos g.ant).cmd != g.goal)) →
          (opens ≠ [] → (∃ n, c.phase = .opening n ∧ s.LastsLongest (opens.map (·.ant)) n) ∧
            (∀ g ∈ opens, (t.xp e.pos g.ant).cmd = .opened) ∧
            ∀ g ∈ ts, g ∉ opens → t.xp e.pos g.ant = s.xp e.pos g.ant) ∧
          (opens = [] → (∃ n, c.phase = .closing n ∧ s.LastsLongest (ts.map (·.ant)) n) ∧
            ∀ g ∈ ts, (t.xp e.pos g.ant).cmd = g.goal)) ∧
      (∀ g ∈ ts, ∀ (slot : Slot) (o : Origin) (f : Bool), slotOf g.goal = some slot →
        s.hold[e.pos].holding slot = some ⟨g.ant, .awaiting, o, f⟩ →
        t.hold[e.pos].holding slot = some ⟨g.ant, .switching, o, f⟩) ∧
      (∀ q : Pos, q ≠ e.pos → t.hold[q] = s.hold[q]) ∧
      (∀ (q : Pos) (a : Ant), (t.xp q a).closed = (s.xp q a).closed ∧
        (q ≠ e.pos ∨ (∀ g ∈ ts, g.ant ≠ a) → t.xp q a = s.xp q a)) ∧
      t.drv.faults = s.drv.faults ∧ t.alloc = s.alloc ∧ t.links = s.links ∧ RestKept s t ∧ t.seqs = s.seqs

/-- The phases of a change set (R106): an opening phase that has ended with every opened contact sensed OPEN completes a
set without closings, begins the closing phase when all its antennas are cold, and waits otherwise; a waiting set begins
its closing phase once they are cold. A closing phase lasts the longest switch time among the antennas it closes on. An
opened contact sensed CLOSED at the end of the opening phase is a RELAY fault (R107, R109): the set leaves the in-progress
count, the flag of each such antenna is set, no closing on it stays listed, and no crosspoint is commanded. A closing of
the set on an antenna that agreed returns to the pending list, and the SWITCHING holding that it carried goes back to
AWAITING, if that slot keeps its antenna: a main always, a listen with no pending listen and the main not on an antenna
that failed. -/
def Obligations.PhasesFollowEachOther : Prop :=
  ∀ (s : State) (p : Pos) (c : ChangeSet) (n : Nat), s.powered = true → s.progress p = some c →
    (c.phase = .opening n → n ≤ s.now → (∀ o ∈ c.opens, (s.xp p o.ant).closed = false) →
      ∃ t, exec (.openingPhaseEnd p) s = .next t ∧ t.alloc = s.alloc ∧ t.hold = s.hold ∧ t.links = s.links ∧
        t.drv.list = s.drv.list ∧ t.drv.faults = s.drv.faults ∧ t.seqs = s.seqs ∧ RestKept s t ∧
        (c.closings = [] → t.drv.inProg = s.drv.inProg.filter fun x => x.pos != p) ∧
        (c.closings ≠ [] → (∀ g ∈ c.closings, s.cold g.ant = true) →
          ∃ m, t.progress p = some { c with phase := .closing m } ∧
            s.LastsLongest (c.closings.map (·.ant)) m) ∧
        ((∃ g ∈ c.closings, s.cold g.ant = false) → t.progress p = some { c with phase := .waiting } ∧
          t.drv.xps = s.drv.xps)) ∧
      (c.phase = .opening n → n ≤ s.now → (∃ o ∈ c.opens, (s.xp p o.ant).closed = true) →
        ∃ t, exec (.openingPhaseEnd p) s = .next t ∧ t.progress p = none ∧
          (∀ a : Ant, t.drv.faults[a] = true ↔
            s.drv.faults[a] = true ∨ ∃ o ∈ c.opens, o.ant = a ∧ (s.xp p a).closed = true) ∧
          (∀ e ∈ t.drv.list, ∀ y ∈ e.targets, (∃ o ∈ c.opens, o.ant = y.ant ∧ (s.xp p y.ant).closed = true) →
            y.goal = .opened) ∧
          (∀ (q : Pos) (a : Ant), (t.xp q a).cmd = (s.xp q a).cmd ∧ (t.xp q a).closed = (s.xp q a).closed) ∧
          RestKept s t ∧ t.bands = s.bands ∧
          (s.BooksAgree → s.ListOrder → s.drv.release = .none → ∀ g ∈ c.closings, ∀ (slot : Slot) (o : Origin) (f : Bool),
            slotOf g.goal = some slot → s.hold[p].holding slot = some ⟨g.ant, .switching, o, f⟩ →
            (∀ x ∈ c.opens, (s.xp p x.ant).closed = true → x.ant ≠ g.ant) → (s.xp p g.ant).cmd = .opened →
            s.listed p g.ant = none →
            (slot = .main ∨ (s.hold[p].pendListen = none ∧ ∀ x ∈ c.opens, s.heldAnt p .main ≠ some x.ant)) →
            t.hold[p].holding slot = some ⟨g.ant, .awaiting, o, f⟩ ∧ t.listed p g.ant = some g.goal)) ∧
      (c.phase = .waiting → (∀ g ∈ c.closings, s.cold g.ant = true) →
        (c.closings.map (·.ant)).Nodup →
        ∃ t m, exec (.closingPhaseStart p) s = .next t ∧ t.progress p = some { c with phase := .closing m } ∧
          (∀ g ∈ c.closings, (t.xp p g.ant).cmd = g.goal) ∧
          (c.closings ≠ [] → s.LastsLongest (c.closings.map (·.ant)) m) ∧
          t.alloc = s.alloc ∧ t.hold = s.hold ∧ t.links = s.links ∧ t.drv.list = s.drv.list ∧ t.seqs = s.seqs ∧
          RestKept s t)

/-- The end of a closing phase that closed one crosspoint to MAIN (R107, R52, R108): the set leaves the in-progress count.
Sensed CLOSED, on an antenna without a fault flag and without a fault since the grant, the SWITCHING main holding goes to
SET with its GRANTED notice if the queue has room; otherwise it stays as it is and nothing is sent. Sensed OPEN, it is a
RELAY fault (R109 to R112): the flag is set and the station link told if its queue has room; no crosspoint is commanded;
with the flag set before, allocation is left alone; otherwise, with books that agree, the holding is lost outside key
span, and kept in SWITCHING under a FAULT mark in key span. That a fault already cleared counts is the model's reading of
R108 (log entry 25). -/
def Obligations.ClosingEndGrantsMain : Prop :=
  ∀ (s : State) (p : Pos) (c : ChangeSet) (a : Ant) (o : Origin) (f : Bool) (n : Nat), s.powered = true →
    s.held = false → s.progress p = some c → c.phase = .closing n → n ≤ s.now → c.closings = [⟨a, .main⟩] →
    s.hold[p].main = some ⟨a, .switching, o, f⟩ →
    ∃ t, exec (.closingPhaseEnd p) s = .next t ∧ t.progress p = none ∧
      (∀ (q : Pos) (b : Ant), (t.xp q b).cmd = (s.xp q b).cmd ∧ (t.xp q b).closed = (s.xp q b).closed) ∧
      RestKept s t ∧ t.bands = s.bands ∧
      ((s.xp p a).closed = true →
        (s.drv.faults[a] = false → f = false →
          t.hold = upd s.hold p { s.hold[p] with main := some ⟨a, .set, o, false⟩ } ∧
          (s.links[linkOf p].hasRoom = true →
            s.links[linkOf p].queue ++ [noticeFrame p (.granted .main a o)] <+: t.links[linkOf p].queue)) ∧
        (s.drv.faults[a] = true ∨ f = true → t.hold = s.hold ∧ t.links = s.links ∧ t.seqs = s.seqs) ∧
        t.drv.inProg = (s.drv.inProg.filter fun x => x.pos != p) ∧ t.alloc = s.alloc ∧ t.drv.list = s.drv.list ∧
        t.drv.xps = s.drv.xps ∧ t.drv.faults = s.drv.faults) ∧
      ((s.xp p a).closed = false → t.drv.faults = upd s.drv.faults a true ∧
        (s.links[stationLink].hasRoom = true →
          s.links[stationLink].queue ++ [noticeFrame p (.fault a (s.xp p a).cmd false .closing)]
            <+: t.links[stationLink].queue) ∧
        (s.drv.faults[a] = true → t.hold = s.hold ∧ t.alloc = s.alloc ∧ t.seqs = s.seqs) ∧
        (s.drv.faults[a] = false → s.BooksAgree → t.alloc[a].queue = [] ∧
          (s.inSpan p = false → t.heldAnt p .main ≠ some a) ∧
          (s.inSpan p = true → t.hold[p].main = some ⟨a, .switching, o, true⟩ ∧
            t.hold[p].markMain = some (.fault a))))

/-- CROSSPOINT_WATCH_FAULT of a watch of 5 ms (R109 to R112, R97): the antenna's fault flag is set, and the station link
is told if its queue has room. With the flag already set no holding, no allocation record and no other link changes.
With the flag clear and books that agree, the wait queue empties; the main holder and the listeners outside key span lose
the antenna, and those in key span keep it under a FAULT mark (a listener, unless a pending listen of its own is granted
elsewhere meanwhile). A main holder so released follows its main slot, if its switch is ON: it has the first free candidate
of its list, with origin FOLLOW. No closing on the antenna stays in the pending list, and each crosspoint commanded to it is
listed for OPEN (R110), where no change set of its position and no release is in course. That one command sets the flag and
takes the fault event, and that its order with a yield expiry due then is a free value, are the model's choices (log entry
47). -/
def Obligations.WatchFindsRelayFault : Prop :=
  ∀ (s : State) (p : Pos) (a : Ant) (n : Nat), s.powered = true → s.held = false → (s.xp p a).watch = some n →
    n + 5 ≤ s.now →
    ∃ t, exec (.crosspointWatchFault p a) s = .next t ∧ t.drv.faults = upd s.drv.faults a true ∧
      (s.links[stationLink].hasRoom = true →
        s.links[stationLink].queue ++ [noticeFrame p (.fault a (s.xp p a).cmd (s.xp p a).closed .watch)]
          <+: t.links[stationLink].queue) ∧
      (s.drv.faults[a] = true → t.hold = s.hold ∧ t.alloc = s.alloc ∧ t.seqs = s.seqs ∧
        ∀ l : Link, l ≠ stationLink → t.links[l] = s.links[l]) ∧
      (s.drv.faults[a] = false → s.BooksAgree → t.alloc[a].queue = [] ∧
        (∀ (q : Pos) (slot : Slot), s.heldAnt q slot = some a →
          (s.inSpan q = false → t.heldAnt q slot ≠ some a) ∧
          (s.inSpan q = true → slot = .main ∨ s.hold[q].pendListen = none →
            t.heldAnt q slot = some a ∧ t.hold[q].mark slot = some (.fault a))) ∧
        ∀ (h : Pos) (b : Band) (c : Ant), s.alloc[a].holder = some h → s.inSpan h = false →
          s.cfg.pos[h].follow = true → s.bandOf h = some b →
          FirstOf s.cfg.prefs[h][b].main (fun x => x != a && s.mainElig x h && s.alloc[x].holder.isNone) c →
          (t.hold[h].main.map fun k => (k.ant, k.origin)) = some (c, .follow)) ∧
      (∀ e ∈ t.drv.list, ∀ y ∈ e.targets, y.ant = a → y.goal = .opened) ∧
      (s.ListOrder → s.drv.release = .none → ∀ q : Pos, (s.xp q a).cmd ≠ .opened → s.progress q = none →
        t.listed q a = some .opened) ∧
      (∀ (q : Pos) (b : Ant), (t.xp q b).cmd = (s.xp q b).cmd ∧ (t.xp q b).closed = (s.xp q b).closed) ∧
      RestKept s t ∧ t.bands = s.bands ∧ t.sam = s.sam ∧ t.spans = s.spans

/-- CONTACT_SENSE_CHANGE (R101, R153, R154, R159): the sensed state follows, every position's blanking cause set holds
exactly the pairs due, and BLK is active exactly where a pair is held. The conditions under which a pair is due are those
of R149 to R153. That every pair is computed again, and that the coupling group of an absent antenna counts, are the
model's choices (log entries 38 and 53). -/
def Obligations.ContactChangeRecomputesBlanking : Prop :=
  ∀ (s : State) (p : Pos) (a : Ant) (x : Bool), s.powered = true →
    ∃ t, exec (.contactSenseChange p a x) s = .next t ∧ t.xp p a = { s.xp p a with closed := x } ∧
      (∀ (q : Pos) (b : Ant), (q ≠ p ∨ b ≠ a) → t.xp q b = s.xp q b) ∧
      (∀ v u : Pos, (t.prot[v].harmonic.getLsbD u.val = true ↔ t.harmonicDue u v = true) ∧
        (t.prot[v].coupled.getLsbD u.val = true ↔ t.coupledDue u v = true) ∧
        (t.prot[v].shared.getLsbD u.val = true ↔ t.sharedDue u v = true)) ∧
      (∀ v : Pos, (t.outs[v].blk = true ↔
          ∃ u : Pos, t.harmonicDue u v = true ∨ t.coupledDue u v = true ∨ t.sharedDue u v = true) ∧
        t.outs[v].key = s.outs[v].key ∧ t.outs[v].amp = s.outs[v].amp ∧ t.outs[v].inh = s.outs[v].inh) ∧
      t.PairsByRule ∧ (∀ v : Pos, t.prot[v].flag = s.prot[v].flag) ∧ RestKept s t ∧ t.alloc = s.alloc ∧ t.hold = s.hold ∧
      t.links = s.links ∧ t.seqs = s.seqs

/-- FAULT_CLEAR (R112): LOCKED while the EDIT gate is closed, UNKNOWN for a number outside 1 to 20, otherwise DONE with
the flag clear, no notice, and the pending list as it was. That LOCKED comes first where both refusals hold is the model's
choice (log entry 52). -/
def Obligations.FaultClearClearsFlag : Prop :=
  ∀ (s : State) (x : Byte), s.Serving stationLink →
    (s.editOpen = false → exec (.faultClear x) s = .next (s.onlyAnswers stationLink 20 .locked)) ∧
      (s.editOpen = true → (∀ a : Ant, x.toNat ≠ a.val + 1) →
        exec (.faultClear x) s = .next (s.onlyAnswers stationLink 20 .unknown)) ∧
      ∀ a : Ant, s.editOpen = true → x.toNat = a.val + 1 →
        ∃ t, exec (.faultClear x) s = .next t ∧ t.drv.faults = upd s.drv.faults a false ∧
          t = { s.onlyAnswers stationLink 20 .done with drv := t.drv } ∧ t.drv.list = s.drv.list ∧
          t.drv.inProg = s.drv.inProg ∧
          ∀ (q : Pos) (b : Ant), (t.xp q b).cmd = (s.xp q b).cmd ∧ (t.xp q b).closed = (s.xp q b).closed

/-- The filter switch (R114): a PENDING one begins when the position is outside key span with RFS inactive and no
release delay or release opening is in course; after 10 ms it ends in IDLE if the selection still equals the commanded
filter. When the row takes a beginning is the model's choice (log entry 17). -/
def Obligations.FilterSwitchBeginsAndEnds : Prop :=
  ∀ (s : State) (p : Pos), s.powered = true →
    (s.drv.filters[p].sw = .pending → s.inSpan p = false → s.rfsActive p = false → s.drv.release = .none →
      exec (.filterSwitchBegin p) s = .next
        (s.setFilter p ⟨s.drv.filters[p].selected, s.drv.filters[p].selected, .switching s.now⟩)) ∧
      ∀ n, s.drv.filters[p].sw = .switching n → n + 10 ≤ s.now →
        s.drv.filters[p].selected = s.drv.filters[p].commanded →
        ∃ t, exec (.filterSwitchEnd p) s = .next t ∧
          t.drv = { s.drv with filters := upd s.drv.filters p { s.drv.filters[p] with sw := .idle } } ∧
          t.alloc = s.alloc ∧ t.hold = s.hold ∧ t.links = s.links ∧ RestKept s t ∧
          ∀ q : Pos, q ≠ p → t.seqs[q] = s.seqs[q] ∧ t.outs[q] = s.outs[q]

/-- The release (R115): at 100 ms every crosspoint is commanded OPEN and every filter THRU, for at least 10 ms and the
longest switch time among the antennas opened; at its end, with every contact sensed OPEN, no fault is found, the
release is over and every filter is selected again. -/
def Obligations.ReleaseOpensEverything : Prop :=
  ∀ (s : State) (n : Nat), s.powered = true → n ≤ s.now →
    (∀ since, s.drv.release = .delay since → since + 100 ≤ s.now →
      ∃ t m, exec .releaseDelayExpiry s = .next t ∧ t.drv.release = .opening m ∧ s.now + 10 ≤ m ∧
        (∀ (p : Pos) (a : Ant), (t.xp p a).cmd = .opened ∧ (t.xp p a).closed = (s.xp p a).closed ∧
          ((s.xp p a).cmd ≠ .opened → s.now + s.cfg.ants[a].switchTime ≤ m)) ∧
        (∀ p : Pos, t.drv.filters[p] = { s.drv.filters[p] with commanded := none }) ∧
        t.drv.list = s.drv.list ∧ t.drv.faults = s.drv.faults ∧ t.alloc = s.alloc ∧ t.links = s.links ∧
        t.seqs = s.seqs ∧ RestKept s t) ∧
      (s.drv.release = .opening n → (∀ (p : Pos) (a : Ant), (s.xp p a).closed = false) →
        ∃ t, exec .releaseOpeningEnd s = .next t ∧ t.drv.release = .none ∧ t.drv.faults = s.drv.faults ∧
          t.drv.xps = s.drv.xps ∧ t.drv.list = s.drv.list ∧
          (∀ p : Pos, t.drv.filters[p].selected = s.selectedFilter p) ∧ t.alloc = s.alloc ∧ t.links = s.links ∧
          t.seqs = s.seqs ∧ t.outs = s.outs ∧ RestKept s t)

/-! ## Key sequencer and interlock (Chapters 8 and 9) -/

/-- The key decision (R137 to R145): it accepts exactly when a main holding past AWAITING, a VALID band, a current TX
segment that is no LISTEN entry, an antenna in the TX set without a fault flag, no SOLO conflict, both counts below
their limits, no denying rule and no protected victim are all there; the record carries the band and the solo mark.
Otherwise it denies with the reason of the first check of R138 that fails. A VALID band without a current TX segment, which
no run reaches, is taken as a failure of the third check. -/
def Obligations.KeyDecisionAcceptsExactly : Prop :=
  ∀ (s : State) (p : Pos), (∀ k : KeySpan,
    s.keyDecision p = .ok k ↔
      ∃ (h : Holding) (b : Band) (g : Seg), s.hold[p].main = some h ∧ h.sw ≠ .awaiting ∧
        s.bands[p].state = .valid b ∧ s.bands[p].curTx = some g ∧ (s.entry b g).kind ≠ .listen ∧
        (s.entry b g).txSet.getLsbD h.ant.val = true ∧ s.drv.faults[h.ant] = false ∧
        (∀ (q : Pos) (x : KeySpan), q ≠ p → s.spans[q] = some x →
          x.solo = false ∧ (s.entry b g).kind ≠ .solo) ∧
        s.bandCount b < s.cfg.bands[b].limit ∧ s.stationCount < s.cfg.station.stationLimit ∧
        s.denyingRule p b = none ∧ s.protectsAgainst p = false ∧
        k = ⟨b, decide ((s.entry b g).kind = .solo)⟩) ∧
    ∀ d : Denial, s.keyDecision p = .error d ↔
      s.CheckFails p d ∧ ∀ x : Denial, x.place < d.place → ¬s.CheckFails p x

/-- PTT_CHANGE (R120 to R124, R126, R128, R130, R145). A press in IDLE is decided: accepted, it makes the key-span record,
raises AMP and leaves the sequencer in KEYED if the settle condition holds and the amplifier settle is 0, and in SETTLING
otherwise; denied, it leads to DENIED with a KEY-DENIED notice and no record. A release leads from SETTLING or KEYED to
TAIL with cause RELEASE, which a tail setting of 0 ends at once, in LOCKOUT with cause RF-HANG if RFS is active and in
IDLE otherwise; from DENIED it leads to IDLE. At the entry into key span and at leaving it, every blanking cause set and
BLK are made as due (R155, R156). Every other change is accepted on the line and ignored by the sequencer. -/
def Obligations.PttChangeIsTaken : Prop :=
  ∀ (s : State) (p : Pos) (v : Bool), s.powered = true → s.sam.pos[p].ptt.change = some v →
    (s.seqs[p] = .idle → v = true → ∀ k, s.keyDecision p = .ok k →
      ∃ t, exec (.pttChange p) s = .next t ∧ t.spans = upd s.spans p (some k) ∧
        (s.settleCond p = true ∧ s.cfg.pos[p].ampSettle = 0 → t.seqs[p] = .keyed s.now ∧
          t.outs[p].key = true ∧ t.outs[p].amp = true ∧ t.outs[p].inh = false) ∧
        (¬(s.settleCond p = true ∧ s.cfg.pos[p].ampSettle = 0) → t.seqs[p] = .settling s.now ∧
          t.outs[p].key = false ∧ t.outs[p].amp = true ∧ t.outs[p].inh = true) ∧
        t.sam.pos[p].ptt.accepted = .active ∧ t.hold = s.hold ∧ t.links = s.links ∧ t.drv = s.drv ∧ RestKept s t ∧
        t.bands = s.bands ∧ t.Blanked ∧ (∀ q : Pos, t.prot[q].flag = s.prot[q].flag) ∧
        ∀ q : Pos, q ≠ p → t.seqs[q] = s.seqs[q]) ∧
      (s.seqs[p] = .idle → v = true → ∀ d, s.keyDecision p = .error d →
        ∃ t, exec (.pttChange p) s = .next t ∧ t.seqs = upd s.seqs p .denied ∧
          t.outs = upd s.outs p ⟨false, false, true, s.outs[p].blk⟩ ∧ t.spans = s.spans ∧
          t.links = (s.notify p (.keyDenied d)).links ∧ t.prot = s.prot ∧ t.hold = s.hold ∧ t.alloc = s.alloc ∧
          t.drv = s.drv ∧ RestKept s t ∧ t.bands = s.bands) ∧
      (v = false → s.cfg.pos[p].tail = 0 → (∃ since, s.seqs[p] = .settling since ∨ s.seqs[p] = .keyed since) →
        ∃ t, exec (.pttChange p) s = .next t ∧ t.spans = upd s.spans p none ∧
          t.seqs[p] = (if s.sam.pos[p].rfs.accepted = .active then .lockout .rfHang else .idle) ∧
          t.outs[p].key = false ∧ t.outs[p].amp = false ∧ t.outs[p].inh = true ∧
          t.sam.pos[p].ptt.accepted = .inactive ∧ RestKept s t ∧ t.bands = s.bands ∧ t.Blanked ∧
          (∀ q : Pos, t.prot[q].flag = s.prot[q].flag) ∧ ∀ q : Pos, q ≠ p → t.inSpan q = s.inSpan q) ∧
      ∀ u : State, u = s.setLines p { s.sam.pos[p] with ptt := { s.sam.pos[p].ptt with accepted := .of v } } →
        (v = false → s.cfg.pos[p].tail ≠ 0 → ∀ since, s.seqs[p] = .settling since →
          exec (.pttChange p) s = .next { u with
            seqs := upd s.seqs p (.tail .release none 0 s.now)
            outs := upd s.outs p ⟨false, true, true, s.outs[p].blk⟩ }) ∧
        (v = false → s.cfg.pos[p].tail ≠ 0 → ∀ since, s.seqs[p] = .keyed since →
          exec (.pttChange p) s = .next { u with
            seqs := upd s.seqs p (.tail .release none (s.now - since) s.now)
            outs := upd s.outs p ⟨false, true, true, s.outs[p].blk⟩ }) ∧
        (v = false → s.seqs[p] = .denied →
          exec (.pttChange p) s = .next { u with
            seqs := upd s.seqs p .idle, outs := upd s.outs p ⟨false, false, true, s.outs[p].blk⟩ }) ∧
        ((s.seqs[p] = .idle ∧ v = false) ∨ ((s.seqs[p] = .denied ∨ s.inSpan p = true) ∧ v = true) ∨
          (∃ c k kt since, s.seqs[p] = .tail c k kt since) ∨ (∃ c, s.seqs[p] = .lockout c) ∨ s.isParked p = true →
          exec (.pttChange p) s = .next u)

/-- RFS_CHANGE (R120, R122 to R124, R126, R128, R130). RF sensed in IDLE or DENIED leads to LOCKOUT with cause
UNSEQUENCED and its notice, KEY and AMP inactive and INH asserted; in SETTLING it leads to TAIL with cause UNSEQUENCED
and that lockout pending (with a tail setting other than 0). Every other change is accepted on the line and ignored by
the sequencer. -/
def Obligations.RfsChangeIsTaken : Prop :=
  ∀ (s : State) (p : Pos) (v : Bool), s.powered = true → s.sam.pos[p].rfs.change = some v →
    (s.seqs[p] = .idle ∨ s.seqs[p] = .denied → v = true →
      ∃ t, exec (.rfsChange p) s = .next t ∧ t.seqs = upd s.seqs p (.lockout .unsequenced) ∧
        t.outs = upd s.outs p ⟨false, false, true, s.outs[p].blk⟩ ∧ t.rfsActive p = true ∧
        t.links = (s.notify p (.lockout .unsequenced)).links ∧ t.spans = s.spans ∧ t.hold = s.hold ∧
        t.alloc = s.alloc ∧ t.drv = s.drv ∧ RestKept s t ∧ t.bands = s.bands) ∧
      ∀ u : State, u = s.setLines p { s.sam.pos[p] with rfs := { s.sam.pos[p].rfs with accepted := .of v } } →
        (v = true → s.cfg.pos[p].tail ≠ 0 → ∀ since, s.seqs[p] = .settling since →
          exec (.rfsChange p) s = .next { u with
            seqs := upd s.seqs p (.tail .unsequenced (some .unsequenced) 0 s.now)
            outs := upd s.outs p ⟨false, true, true, s.outs[p].blk⟩ }) ∧
        (v = false ∨ (∃ since, s.seqs[p] = .keyed since) ∨ (∃ c k kt since, s.seqs[p] = .tail c k kt since) ∨
          (∃ c, s.seqs[p] = .lockout c) ∨ s.isParked p = true → exec (.rfsChange p) s = .next u)

/-- KEY_LINE_FAULT of a watch of 5 ms (R12, R127), after which a new watch runs. From IDLE or DENIED the sequencer enters
LOCKOUT with cause KEY-LINE; from SETTLING, KEYED or TAIL as well, with the key-span record removed and KEY and AMP down
at once, and every blanking cause set made as due (R156). In LOCKOUT another cause becomes KEY-LINE with its notice; in
LOCKOUT with cause KEY-LINE and in PARKED the fault is ignored. -/
def Obligations.KeyLineFaultLocksOut : Prop :=
  ∀ (s : State) (p : Pos) (n : Nat), s.powered = true → s.sam.pos[p].keyWatch = some n → n + 5 ≤ s.now →
    (s.seqs[p] = .idle ∨ s.seqs[p] = .denied ∨ s.inSpan p = true →
      ∃ t, exec (.keyLineFault p) s = .next t ∧ t.seqs[p] = .lockout .keyLine ∧ t.outs[p].key = false ∧
        t.outs[p].amp = false ∧ t.outs[p].inh = true ∧ t.sam.pos[p].keyWatch = some s.now ∧ RestKept s t ∧
        t.bands = s.bands ∧
        (s.inSpan p = true → t.spans = upd s.spans p none ∧ t.Blanked) ∧ (s.inSpan p = false → t.spans = s.spans) ∧
        (∀ q : Pos, q ≠ p → t.inSpan q = s.inSpan q) ∧ ∀ q : Pos, t.prot[q].flag = s.prot[q].flag) ∧
      ∀ u : State, u = s.setLines p { s.sam.pos[p] with keyWatch := some s.now } →
        (∀ c, s.seqs[p] = .lockout c → c ≠ .keyLine → exec (.keyLineFault p) s = .next { u with
          seqs := upd s.seqs p (.lockout .keyLine)
          outs := upd s.outs p ⟨false, false, true, s.outs[p].blk⟩
          links := (s.notify p (.lockout .keyLine)).links }) ∧
        (s.seqs[p] = .lockout .keyLine ∨ s.isParked p = true → exec (.keyLineFault p) s = .next u)

/-- The timers of SETTLING and KEYED (R121, R123, R124): with the settle condition, the settle time leads to KEYED with
KEY up and INH down; without it nothing changes; the key time limit leads to TAIL with cause TIMEOUT, KEY down and AMP
still up, the key-span record kept. -/
def Obligations.SettleAndLimitTimers : Prop :=
  ∀ (s : State) (p : Pos) (since : Nat), s.powered = true →
    (s.seqs[p] = .settling since → since + s.cfg.pos[p].ampSettle ≤ s.now →
      (s.settleCond p = true → exec (.amplifierSettleExpiry p) s = .next { s with
        seqs := upd s.seqs p (.keyed s.now), outs := upd s.outs p ⟨true, true, false, s.outs[p].blk⟩ }) ∧
      (s.settleCond p = false → exec (.amplifierSettleExpiry p) s = .next s)) ∧
      (s.seqs[p] = .keyed since → since + s.cfg.pos[p].keyLimit * 1000 ≤ s.now → s.cfg.pos[p].tail ≠ 0 →
        exec (.keyTimeLimitExpiry p) s = .next { s with
          seqs := upd s.seqs p (.tail .timeout none (s.now - since) s.now),
          outs := upd s.outs p ⟨false, true, true, s.outs[p].blk⟩ })

/-- TAIL_END (R125, R135, R70): AMP falls, the key-span record is removed, and the next state is the pending lockout,
RF-HANG, DENIED or IDLE, the first that applies. The KEY-ENDED notice goes out after the notices of the other blocks'
work, if any, and after it the LOCKOUT notice where the state is LOCKOUT. Every blanking cause set and BLK are made as
due, with no pair left whose source is the position (R156). The deferred marks are gone, and the antenna of a marked slot,
if it is no longer eligible, is held in it no more. With no yield timer to expire and no pending main, a main without a
mark, or with a mark other than FAULT and still eligible, stays; and with no mark at all a pending main whose antenna is
free hands it to the first waiter in arbitration order. That the state is chosen before the other blocks act is the
model's choice (log entry 41), and so is how the work of a mark is read (log entries 20 and 21). -/
def Obligations.TailEndChoosesState : Prop :=
  ∀ (s : State) (p : Pos) (c : TailCause) (pend : Option LockCause) (kt since : Nat), s.powered = true →
    s.seqs[p] = .tail c pend kt since → since + s.cfg.pos[p].tail ≤ s.now →
    ∃ t, exec (.tailEnd p) s = .next t ∧ t.spans = upd s.spans p none ∧ t.outs[p].amp = false ∧
      t.outs[p].key = false ∧ t.outs[p].inh = true ∧
      t.seqs[p] = (match pend with
        | some x => .lockout x
        | none =>
          if s.sam.pos[p].rfs.accepted = .active then .lockout .rfHang
          else if s.sam.pos[p].ptt.accepted = .active then .denied else .idle) ∧
      RestKept s t ∧ t.bands = s.bands ∧ t.sam = s.sam ∧ t.drv.xps = s.drv.xps ∧ t.drv.inProg = s.drv.inProg ∧
      (∀ q : Pos, q ≠ p → t.inSpan q = s.inSpan q) ∧ (∀ q : Pos, t.prot[q].flag = s.prot[q].flag) ∧
      t.Blanked ∧ (∀ v : Pos, t.prot[v].harmonic.getLsbD p.val = false ∧ t.prot[v].coupled.getLsbD p.val = false ∧
        t.prot[v].shared.getLsbD p.val = false) ∧
      (∃ u : State, RestKept s u ∧
        t.links = (let k := u.notify p (.keyEnded (.tail c) kt t.seqs[p])
          match t.seqs[p] with
          | .lockout x => (k.notify p (.lockout x)).links
          | _ => k.links) ∧
        (s.hold[p].markMain = none → s.hold[p].markListen = none → s.hold[p].pendMain = none →
          s.cfg.station.yieldTime = 0 → u.links = s.links)) ∧
      (s.BooksAgree →
        t.hold[p].markMain = none ∧ t.hold[p].markListen = none ∧
        (∀ (slot : Slot) (m : Mark) (a : Ant), s.hold[p].mark slot = some m → s.heldAnt p slot = some a →
          s.elig slot a p = false → t.heldAnt p slot ≠ some a) ∧
        (s.cfg.station.yieldTime = 0 → s.hold[p].pendMain = none → ∀ h, s.hold[p].main = some h →
          s.hold[p].markMain = none ∨ ((∀ a, s.hold[p].markMain ≠ some (.fault a)) ∧ s.mainElig h.ant p = true) →
          t.hold[p].main = some h) ∧
        (s.hold[p].markMain = none → s.hold[p].markListen = none →
          ∀ (a : Ant) (e : WaitEntry), s.hold[p].pendMain = some a → s.alloc[a].holder = none →
            (s.setSeq p .idle).FirstInLine a .main e →
            t.alloc[a].holder = some e.pos ∧ (t.hold[e.pos].main.map fun h => (h.ant, h.origin)) = some (a, e.origin)))

/-- CLEAR (R129): PARKED from a parked position; DONE and IDLE from LOCKOUT with PTT and RFS not accepted active; STATE
from LOCKOUT with one of them active, and from every other state. -/
def Obligations.ClearLeavesLockout : Prop :=
  ∀ (s : State) (p : Pos), s.Serving (linkOf p) →
    (s.isParked p = true → exec (.clear p) s = .next (s.onlyAnswers (linkOf p) 8 .parked)) ∧
      ((∀ c, s.seqs[p] ≠ .lockout c) → s.isParked p = false →
        exec (.clear p) s = .next (s.onlyAnswers (linkOf p) 8 .state)) ∧
      ∀ c, s.seqs[p] = .lockout c →
        (s.sam.pos[p].ptt.accepted = .active ∨ s.sam.pos[p].rfs.accepted = .active →
          exec (.clear p) s = .next (s.onlyAnswers (linkOf p) 8 .state)) ∧
        (s.sam.pos[p].ptt.accepted ≠ .active → s.sam.pos[p].rfs.accepted ≠ .active →
          exec (.clear p) s = .next { s.onlyAnswers (linkOf p) 8 .done with
            seqs := upd s.seqs p .idle, outs := upd s.outs p ⟨false, false, true, s.outs[p].blk⟩ })

/-! ## Receiver protection (Chapter 10) -/

/-- The harmonic check (R149, R150): the order is the whole number nearest to fr divided by ft, a half rounded upward; a
conflict is an order from 2 to 5, a guard base other than 0, and the harmonic no farther from fr than the order times
the guard base. -/
def Obligations.HarmonicCheckIsNearestHarmonic : Prop :=
  ∀ ft fr g : Nat, 0 < ft →
    (harmonicTest ft fr g = true ↔
      ∃ n : Nat, 2 ≤ n ∧ n ≤ 5 ∧ g ≠ 0 ∧ 2 * n * ft ≤ 2 * fr + ft ∧ 2 * fr + ft < 2 * (n + 1) * ft ∧
        n * ft ≤ fr + n * g ∧ fr ≤ n * ft + n * g)

/-- PROTECT (R160), in the order of its table; a flag set or cleared is all that changes beside the answer. -/
def Obligations.ProtectAnswersByTable : Prop :=
  ∀ (s : State) (p : Pos), s.Serving (linkOf p) →
    (s.isParked p = true → ∀ on, exec (.protect p on) s = .next (s.onlyAnswers (linkOf p) 7 .parked)) ∧
      (s.isParked p = false →
        (s.bandOf p = none → exec (.protect p true) s = .next (s.onlyAnswers (linkOf p) 7 .band)) ∧
        (∀ b, s.bandOf p = some b →
          (s.prot[p].flag = true → exec (.protect p true) s = .next (s.onlyAnswers (linkOf p) 7 .done)) ∧
          (s.prot[p].flag = false → s.cfg.station.protectLimit ≤ s.flagCount →
            exec (.protect p true) s = .next (s.onlyAnswers (linkOf p) 7 .full)) ∧
          (s.prot[p].flag = false → s.flagCount < s.cfg.station.protectLimit →
            exec (.protect p true) s = .next { s.onlyAnswers (linkOf p) 7 .done with
              prot := upd s.prot p { s.prot[p] with flag := true } })) ∧
        exec (.protect p false) s = .next { s.onlyAnswers (linkOf p) 7 .done with
          prot := upd s.prot p { s.prot[p] with flag := false } })

/-! ## Links (Chapter 11) -/

/-- Characters on a link (R165 to R167, R172). A framing error drops the frame in assembly, counts one up to 65,535 and
makes the receiver hunt; a gap of 20 ms drops the frame without count and makes it hunt; a false start is nothing, and a
character with a zero stop bit is a framing error. A received character is counted once for noise if a voting sample of it
disagreed. A marked one begins a frame with itself as header; an unmarked one is discarded while the receiver hunts; as
the length of a frame it is recorded up to 24 and is a check error above; as a body character it joins the body. The votes
as operand and the gap in whole ms are the model's choices (log entries 33 and 36), and that all of this goes on in a unit
held in reset is its reading (log entry 34). -/
def Obligations.CharactersAssembleFrames : Prop :=
  ∀ (s : State) (l : Link) (c : CharSamples), s.powered = true →
    exec (.framingError l) s = .next (s.setLink l { s.links[l] with
      hunting := true
      assembly := none
      framing := if s.links[l].framing < 65535 then s.links[l].framing + 1 else s.links[l].framing }) ∧
      (∀ a, s.links[l].assembly = some a → a.lastAt + 20 ≤ s.now →
        exec (.frameGapTimeout l) s = .next (s.setLink l { s.links[l] with hunting := true, assembly := none })) ∧
      (c.started = false → exec (.characterReceived l c) s = .next s) ∧
      (c.started = true → c.stopped = false → exec (.characterReceived l c) s = exec (.framingError l) s) ∧
      ∀ k : LinkState, k = { s.links[l] with
          noise := if c.noisy = true ∧ s.links[l].noise < 65535 then s.links[l].noise + 1 else s.links[l].noise } →
        (c.started = true → c.stopped = true →
          (c.marked = true → exec (.characterReceived l c) s = .next (s.setLink l { k with
            hunting := false, assembly := some ⟨c.byte, none, [], s.now⟩ })) ∧
          (c.marked = false → s.links[l].hunting = true → exec (.characterReceived l c) s = .next (s.setLink l k)) ∧
          ∀ a, c.marked = false → s.links[l].hunting = false → s.links[l].assembly = some a →
            (a.len = none → c.byte.toNat ≤ 24 → exec (.characterReceived l c) s = .next (s.setLink l { k with
              assembly := some { a with len := some c.byte.toNat, lastAt := s.now } })) ∧
            (a.len = none → 24 < c.byte.toNat → exec (.characterReceived l c) s = .next (s.setLink l { k with
              hunting := true, assembly := none, check := bump s.links[l].check })) ∧
            ∀ n, a.len = some n → a.body.length < n →
              exec (.characterReceived l c) s = .next (s.setLink l { k with
                assembly := some { a with body := a.body ++ [c.byte], lastAt := s.now } }))

/-- The check character of a frame (R167 to R169), counted for noise if a voting sample of it disagreed (R165): a sum other
than zero drops the frame, counts one and makes the receiver hunt; a complete frame is lost with an overrun when the buffer
is full, enters it when the transmit queue has no room, and is taken at once when it has: a kind not served on the link is
answered UNKNOWN, a body that does not fit its kind FORMAT, and a request is served. A unit held in reset drops a complete
frame (R174). Which row carries the check is the model's choice (log entry 35), and that a unit held in reset counts and
hunts is its reading (log entry 34). -/
def Obligations.CheckCharacterCompletesFrame : Prop :=
  ∀ (s : State) (l : Link) (c : CharSamples) (a : Assembly), s.powered = true → c.started = true → c.stopped = true →
    c.marked = false → s.links[l].hunting = false → s.links[l].assembly = some a →
    a.len = some a.body.length → ∀ k : LinkState, k = { s.links[l] with
      assembly := none
      noise := if c.noisy = true ∧ s.links[l].noise < 65535 then s.links[l].noise + 1 else s.links[l].noise } →
    ((a.header + BitVec.ofNat 8 a.body.length + a.body.foldl (· + ·) 0 + c.byte ≠ 0) →
      exec (.frameReceived l c) s = .next (s.setLink l { k with hunting := true, check := bump s.links[l].check })) ∧
      (a.header + BitVec.ofNat 8 a.body.length + a.body.foldl (· + ·) 0 + c.byte = 0 →
        (s.held = true → exec (.frameReceived l c) s = .next (s.setLink l k)) ∧
        (s.held = false → s.links[l].buffer ≠ none →
          exec (.frameReceived l c) s = .next (s.setLink l { k with overrun := bump s.links[l].overrun })) ∧
        (s.held = false → s.links[l].buffer = none → s.links[l].queue.length < 8 →
          (servedOn l (a.header.setWidth 7) = false → exec (.frameReceived l c) s =
            .next ((s.setLink l k).onlyAnswers l (a.header.setWidth 7) .unknown)) ∧
          (servedOn l (a.header.setWidth 7) = true → readBody (a.header.setWidth 7) a.body = none →
            exec (.frameReceived l c) s = .next ((s.setLink l k).onlyAnswers l (a.header.setWidth 7) .format)) ∧
          ∀ r : Request, servedOn l (a.header.setWidth 7) = true → readBody (a.header.setWidth 7) a.body = some r →
            exec (.frameReceived l c) s = .next ((s.setLink l k).serve l r)) ∧
        (s.held = false → s.links[l].buffer = none → 8 ≤ s.links[l].queue.length →
          exec (.frameReceived l c) s = .next (s.setLink l { k with buffer := some ⟨a.header.setWidth 7, a.body⟩ })))

/-- FRAME_TAKEN (R168, R169): a buffered frame is taken when the queue has room and the unit is not held in reset; the
buffer is emptied, a kind not served on the link is answered UNKNOWN, and the frame of a request served there is served
as the request. -/
def Obligations.BufferedFrameIsServed : Prop :=
  ∀ (s : State) (l : Link) (f : Frame), s.powered = true → s.held = false → s.links[l].buffer = some f →
    s.links[l].hasRoom = true →
    (servedOn l f.kind = false → exec (.frameTaken l) s =
      .next ((s.setLink l { s.links[l] with buffer := none }).onlyAnswers l f.kind .unknown)) ∧
      ∀ r : Request, servedOn l r.kind = true → f = r.frame →
        exec (.frameTaken l) s = .next ((s.setLink l { s.links[l] with buffer := none }).serve l r)

/-- FRAME_SENT and DIVISOR_APPLIED (R164, R170): a frame that has been sent leaves the queue and the next begins with
the notices-lost flag, which is then clear; a new divisor is applied on an idle link with an empty queue, which drops
the frame in assembly without count. -/
def Obligations.TransmitterSendsInOrder : Prop :=
  ∀ (s : State) (l : Link) (f : Frame) (rest : List Frame) (x : Bool), s.powered = true →
    (s.links[l].sending = some x → s.links[l].queue = f :: rest →
      exec (.frameSent l) s = .next (s.setLink l (if rest = [] then { s.links[l] with queue := [], sending := none }
        else { s.links[l] with queue := rest, sending := some s.links[l].lost, lost := false }))) ∧
      (s.links[l].sending = none → s.links[l].queue = [] → s.cfg.divisors[l] ≠ s.links[l].divisor →
        exec (.divisorApplied l) s = .next (s.setLink l { s.links[l] with
          divisor := s.cfg.divisors[l], hunting := true, assembly := none }))

/-- The paged queries (R173, Table 11.5): each page of QUERY_POSITION, QUERY_ANTENNA and STATUS is one report with the
opening bytes and the fields that the table gives, and serving it changes nothing else. A page not in the table is
answered FORMAT, and a number out of range UNKNOWN, which comes first where both fail, in the model's reading (log entry
32); that an RX frequency with no report held is sent as 0 is its choice (log entry 50). -/
def Obligations.QueriesReportByTable : Prop :=
  ∀ (s : State) (l : Link) (n g : Byte), s.Serving l →
    (∀ p : Pos, n.toNat = p.val + 1 →
      (g.toNat = 0 → exec (.queryPosition l n g) s = .next (s.onlyReports l ([9, n, g]
        ++ [acceptedByte s.sam.pos[p].ptt.accepted, acceptedByte s.sam.pos[p].rfs.accepted, codeByte s.sam.pos[p].code,
          boolByte s.sam.pos[p].keySensed, boolByte s.outs[p].key, boolByte s.outs[p].amp, boolByte s.outs[p].inh,
          boolByte s.outs[p].blk, seqByte s.seqs[p]]
        ++ (match s.seqs[p] with
          | .settling since => [boolByte (decide (since + s.cfg.pos[p].ampSettle ≤ s.now)), boolByte (s.settleCond p)]
            ++ bytes4 0 ++ [0, 0, 0]
          | .keyed since => [0, 0] ++ bytes4 (s.now - since) ++ [0, 0, 0]
          | .tail c pend kt _ => [0, 0] ++ bytes4 kt ++ [tailCauseByte c, pend.elim 0 lockCauseByte, 0]
          | .lockout c => [0, 0] ++ bytes4 0 ++ [0, 0, lockCauseByte c]
          | .idle | .denied | .parked => [0, 0] ++ bytes4 0 ++ [0, 0, 0])
        ++ [optNumByte (s.spans[p].map (·.band)), boolByte (s.spans[p].elim false (·.solo))]))) ∧
      (g.toNat = 1 → exec (.queryPosition l n g) s = .next (s.onlyReports l ([9, n, g]
        ++ [linesBandByte s.bands[p].lines] ++ bandStateBytes s.bands[p].state
        ++ [s.bands[p].report.elim 0 fun r => if r.fresh.isSome then 1 else 2]
        ++ bytes4 (s.bands[p].report.elim 0 (·.rx)) ++ bytes4 (s.bands[p].report.elim 0 fun r => r.tx.getD 0)
        ++ [optNumByte (s.bands[p].report.bind (·.band)), segByte s.bands[p].curTx, segByte s.bands[p].curRx,
          segByte s.bands[p].setTx, segByte s.bands[p].setRx,
          BitVec.ofNat 8 (s.bands[p].dwellTx.isSome.toNat + 2 * s.bands[p].dwellRx.isSome.toNat)]))) ∧
      (g.toNat = 2 → exec (.queryPosition l n g) s = .next (s.onlyReports l ([9, n, g]
        ++ holdingBytes s.hold[p].main ++ holdingBytes s.hold[p].listen
        ++ [optNumByte s.hold[p].pendMain, optNumByte s.hold[p].pendListen, markByte s.hold[p].markMain,
          markByte s.hold[p].markListen, boolByte s.cfg.pos[p].follow]))) ∧
      (g.toNat = 3 → ∀ ts : List Target, ts = (s.pendEntry p).elim [] (·.targets) →
        ∃ xs : AntSet, (∀ a : Ant, xs.getLsbD a.val = true ↔ ∃ y ∈ ts, y.ant = a ∧ y.goal = .opened) ∧
        exec (.queryPosition l n g) s = .next (s.onlyReports l ([9, n, g] ++ bytes24 (xs.setWidth 24)
          ++ [optNumByte ((ts.find? fun y => y.goal == .main).map (·.ant)),
            optNumByte ((ts.find? fun y => y.goal == .listen).map (·.ant)), phaseByte ((s.progress p).map (·.phase)),
            filterByte s.drv.filters[p].selected, filterByte s.drv.filters[p].commanded,
            filterSwitchByte s.drv.filters[p].sw, boolByte s.cfg.pos[p].filterThru, boolByte s.prot[p].flag,
            s.prot[p].harmonic.setWidth 8, s.prot[p].coupled.setWidth 8, s.prot[p].shared.setWidth 8]))) ∧
      (3 < g.toNat → exec (.queryPosition l n g) s = .next (s.onlyAnswers l 9 .format))) ∧
      ((∀ p : Pos, n.toNat ≠ p.val + 1) → exec (.queryPosition l n g) s = .next (s.onlyAnswers l 9 .unknown)) ∧
      (∀ a : Ant, n.toNat = a.val + 1 →
        (g.toNat = 0 → exec (.queryAntenna l n g) s = .next (s.onlyReports l ([10, n, g] ++ s.cfg.ants[a].bytes
          ++ [boolByte s.drv.faults[a], boolByte (decide (∃ p : Pos, l = linkOf p ∧ s.mainElig a p = true)),
            boolByte (decide (∃ p : Pos, l = linkOf p ∧ s.listenElig a p = true))]
          ++ (allPos.map fun q => xpByte (s.xp q a).cmd) ++ (allPos.map fun q => sensedByte (s.xp q a).closed)))) ∧
        (g.toNat = 1 → exec (.queryAntenna l n g) s = .next (s.onlyReports l ([10, n, g]
          ++ [optNumByte s.alloc[a].holder, s.alloc[a].holder.elim 0 (s.switchOn .main a)]
          ++ ([0, 1, 2, 3].flatMap fun i => match s.alloc[a].listeners[i]? with
            | some q => [numByte q, s.switchOn .listen a q]
            | none => [0, 0])
          ++ match s.alloc[a].yieldT with
            | .stopped => [0, 0, 0, 0]
            | .running _ _ x since => 1 :: secondsBytes (x + (s.now - since)) ++ [optNumByte (s.headWaiter a)]
            | .holding _ _ x => 2 :: secondsBytes x ++ [optNumByte (s.headWaiter a)]))) ∧
        (∀ i : Nat, (g.toNat = 2 ∧ i = 0) ∨ (g.toNat = 3 ∧ i = 3) →
          exec (.queryAntenna l n g) s = .next (s.onlyReports l ([10, n, g]
            ++ [i, i + 1, i + 2].flatMap fun j => match s.alloc[a].queue[j]? with
              | some e => [numByte e.pos, slotByte e.kind, originByte e.origin] ++ secondsBytes (s.now - e.since)
              | none => [0, 0, 0, 0, 0]))) ∧
        (3 < g.toNat → exec (.queryAntenna l n g) s = .next (s.onlyAnswers l 10 .format))) ∧
      ((∀ a : Ant, n.toNat ≠ a.val + 1) → exec (.queryAntenna l n g) s = .next (s.onlyAnswers l 10 .unknown)) ∧
      (l = stationLink →
        (g.toNat = 0 → exec (.status g) s = .next (s.onlyReports l [22, 0, g, acceptedByte s.sam.edit.accepted,
          boolByte s.monitor, boolByte !s.store.good, boolByte s.store.copy.isSome, boolByte s.store.unsaved])) ∧
        (g.toNat = 1 → ∃ solo : PosSet,
          (∀ p : Pos, solo.getLsbD p.val = true ↔ ∃ k, s.spans[p] = some k ∧ k.solo = true) ∧
          exec (.status g) s = .next (s.onlyReports l ([22, 0, g]
            ++ (allBands.map fun b => BitVec.ofNat 8 (s.bandCount b)) ++ [BitVec.ofNat 8 s.stationCount]
            ++ (allPos.map fun p => optNumByte (s.spans[p].map (·.band)))
            ++ [solo.setWidth 8, BitVec.ofNat 8 s.flagCount]))) ∧
        (g.toNat = 2 → exec (.status g) s = .next (s.onlyReports l [22, 0, g, byteOf s.drv.list.length,
          byteOf s.drv.inProg.length, releaseByte s.drv.release])) ∧
        (2 < g.toNat → exec (.status g) s = .next (s.onlyAnswers l 22 .format)))

/-- QUERY_LINK (R172, Table 11.5) reports the five counters of the link it names and clears none, and is answered
UNKNOWN for a number outside 1 to 7; MONITOR sets the monitor switch and is answered DONE (R171). A notice is offered to the
link of its position and, while the switch is on, a copy of it to the station link (R171). Each is placed at the end of a
queue of fewer than 8 frames, and begun at once by an idle transmitter, which carries and clears the notices-lost flag; a
full queue drops it, sets the flag and counts it up to 65,535 (R170). No other link changes, nor anything else. -/
def Obligations.LinkQueryAndMonitor : Prop :=
  ∀ (s : State) (l : Link) (n : Byte), s.Serving l →
    (∀ m : Link, n.toNat = m.val + 1 →
      exec (.queryLink l n) s = .next (s.onlyReports l ([11, n] ++ bytes2 s.links[m].noise ++ bytes2 s.links[m].framing
        ++ bytes2 s.links[m].check ++ bytes2 s.links[m].overrun ++ bytes2 s.links[m].noticesLost))) ∧
      ((∀ m : Link, n.toNat ≠ m.val + 1) → exec (.queryLink l n) s = .next (s.onlyAnswers l 11 .unknown)) ∧
      (l = stationLink → ∀ on, exec (.monitor on) s = .next { s.onlyAnswers l 21 .done with monitor := on }) ∧
      ∀ (p : Pos) (x : Notice), s.notify p x = { s with links := (s.notify p x).links } ∧
        ∀ (m : Link) (k : LinkState), k = s.links[m] →
          (m = linkOf p ∨ (m = stationLink ∧ s.monitor = true) →
            (k.queue.length < 8 →
              (∀ y, k.sending = some y → (s.notify p x).links[m] = { k with queue := k.queue ++ [noticeFrame p x] }) ∧
              (k.sending = none → (s.notify p x).links[m] =
                { k with queue := k.queue ++ [noticeFrame p x], sending := some k.lost, lost := false })) ∧
            (8 ≤ k.queue.length → (s.notify p x).links[m] = { k with
              lost := true, noticesLost := if k.noticesLost < 65535 then k.noticesLost + 1 else k.noticesLost })) ∧
          (m ≠ linkOf p → m ≠ stationLink ∨ s.monitor = false → (s.notify p x).links[m] = k)

/-! ## Configuration (Chapter 12) -/

/-- CONFIG_READ (R176): served whatever the EDIT gate and a save in flight, with the kind, the item code, the index
bytes and the fields as they stand; FORMAT where the body fits no item code, UNKNOWN where an index is out of range. -/
def Obligations.ConfigReadReportsItem : Prop :=
  ∀ (s : State) (body : List Byte), s.Serving stationLink →
    (∀ x addr, readName body = some x → x.addr = some addr →
      exec (.configRead body) s = .next (s.onlyReports stationLink (16 :: body ++ s.cfg.fields addr))) ∧
      (∀ x, readName body = some x → x.addr = none →
        exec (.configRead body) s = .next (s.onlyAnswers stationLink 16 .unknown)) ∧
      (readName body = none → exec (.configRead body) s = .next (s.onlyAnswers stationLink 16 .format))

/-- An accepted write, of any of the eight items (R177, R178, R183): answered CLAMPED if a field was clamped and DONE
otherwise, the working configuration is the old one with that item alone replaced, and the unsaved flag is set exactly
when that changed a field. What changed is delivered to the block that reads it: share capacity (R35, R71), coupling group
(R158), what eligibility reads (R179), segment dwell (R25), un-parking (R8), default segment (R23), policy and guard base
(R157), wait limit (R75), yield time (R85), class (R79), filter mode and installed set (R113), sequencer settings (R131).
That a preference list with nonzero unused bytes is accepted is the model's choice (log entry 29), and so is the order of
the effects (log entry 28). -/
def Obligations.AcceptedWriteReplacesItem : Prop :=
  ∀ (s : State) (w : WriteItem) (x : Item) (clamped : Bool), s.Serving stationLink → s.editOpen = true →
    s.store.copy = none → w.value = .ok (x, clamped) → s.breaksTables x = false → s.inUse x = false →
    ∃ t, exec (writeCommand w) s = .next t ∧
      Answered s t stationLink 17 (if clamped then .clamped else .done) ∧ t.cfg = s.cfg.put x ∧
      t.cfg.holds x = true ∧
      t.store = { s.store with unsaved := s.store.unsaved || decide (t.cfg ≠ s.cfg) } ∧ t.now = s.now ∧
      (s.cfg.holds x = true →
        t = s.onlyAnswers stationLink 17 (if clamped then .clamped else .done)) ∧
      WriteTaken s t x

/-- The refusals of a write, in the order of R177: LOCKED, SAVING, UNKNOWN or INVALID for the item itself, INVALID for
the tables, IN-USE. A refused write changes no part of the working configuration, nor anything but the
transmit queue. -/
def Obligations.WriteRefusedInOrder : Prop :=
  ∀ (s : State) (w : WriteItem), s.Serving stationLink →
    (s.editOpen = false → exec (writeCommand w) s = .next (s.onlyAnswers stationLink 17 .locked)) ∧
      (s.editOpen = true → s.store.copy ≠ none →
        exec (writeCommand w) s = .next (s.onlyAnswers stationLink 17 .saving)) ∧
      (s.editOpen = true → s.store.copy = none →
        (w.name.addr = none → exec (writeCommand w) s = .next (s.onlyAnswers stationLink 17 .unknown)) ∧
        (∀ r, w.name.addr ≠ none → w.value = .error r →
          r = .invalid ∧ exec (writeCommand w) s = .next (s.onlyAnswers stationLink 17 .invalid)) ∧
        ∀ x c, w.value = .ok (x, c) →
          (s.breaksTables x = true → exec (writeCommand w) s = .next (s.onlyAnswers stationLink 17 .invalid)) ∧
          (s.breaksTables x = false → s.inUse x = true →
            exec (writeCommand w) s = .next (s.onlyAnswers stationLink 17 .inUse)))

/-- A write of the mode PARKED to an ACTIVE position outside key span (R29, R71, R113, R130, R161): it is PARKED, holds
and awaits nothing, its band unit is in its reset state, its protect flag and its causes are gone, its KEY, AMP and BLK
are inactive and INH asserted, and THRU is selected. The order of the effects of parking is the model's choice (log
entry 27). -/
def Obligations.ParkingClearsPosition : Prop :=
  ∀ (s : State) (n : Byte) (f : PosFields) (p : Pos) (v : PosSettings) (c : Bool), s.Serving stationLink →
    s.editOpen = true → s.store.copy = none → s.BooksAgree → (WriteItem.pos n f).value = .ok (.pos p v, c) →
    v.parked = true → s.cfg.pos[p].parked = false → s.inSpan p = false →
    ∃ t, exec (.writePositionSettings n f) s = .next t ∧ t.isParked p = true ∧ t.bands[p] = BandUnit.initial ∧
      t.heldAnt p .main = none ∧ t.heldAnt p .listen = none ∧ t.hold[p].pendMain = none ∧
      t.hold[p].pendListen = none ∧ t.prot[p] = Protection.initial ∧ t.outs[p] = ⟨false, false, true, false⟩ ∧
      t.drv.filters[p].selected = none ∧ t.cfg = s.cfg.put (.pos p v)

/-- Saving (R180, R183): SAVE is LOCKED with the gate closed and SAVING with a save in flight; otherwise it is answered
DONE and the store reads bad while the copy is in flight; at SAVE_END the store holds that copy under an agreeing check,
GOOD, and the unsaved flag is clear. That LOCKED comes first where the gate is closed during a save is the model's choice
(log entry 51); when a save ends is not bounded in it (log entry 31), and the bad check byte is a free value (log entry
30). -/
def Obligations.SaveWritesCopy : Prop :=
  ∀ s : State, s.Serving stationLink →
    (s.editOpen = false → exec .save s = .next (s.onlyAnswers stationLink 18 .locked)) ∧
      (s.editOpen = true → s.store.copy ≠ none → exec .save s = .next (s.onlyAnswers stationLink 18 .saving)) ∧
      (s.editOpen = true → s.store.copy = none →
        ∃ t, exec .save s = .next t ∧ Answered s t stationLink 18 .done ∧ t.store.copy = some s.cfg.image ∧
          t.store.good = false ∧ loadStore t.store.image t.store.check = none ∧ t.store.unsaved = s.store.unsaved ∧
          t = { s.onlyAnswers stationLink 18 .done with store := t.store, freeIx := t.freeIx }) ∧
      ∀ c, s.store.copy = some c →
        ∃ t, exec .saveEnd s = .next t ∧ t = { s with store := t.store } ∧ t.store.image = c ∧
          c.foldl (· + ·) 0 + t.store.check = 0 ∧ t.store.good = true ∧ t.store.copy = none ∧ t.store.unsaved = false

/-- A configuration that has been saved survives the loss of power (R180, R181): the save ends, power is lost and comes
back, and the unit works with the configuration it had, its store GOOD. The layout of the image is the model's choice
(log entry 30). -/
def Obligations.SavedConfigurationSurvives : Prop :=
  ∀ (s : State) (c : Cfg), s.powered = true → c.valid = true → s.store.copy = some c.image →
    ∃ t u v, exec .saveEnd s = .next t ∧ exec .lossOfPower t = .next u ∧ exec .powerOn u = .next v ∧
      v.cfg = c ∧ v.store.good = true ∧ v.powered = true

/-! ## Encodings of frames -/

/-- Every request served on a link is read back from the frame that carries it, with every operand at every value. -/
def Obligations.RequestFrameRoundTrip : Prop :=
  ∀ (l : Link) (r : Request), servedOn l r.kind = true → readRequest l r.frame = .ok r

/-- The characters of a frame as the unit sends them, the first marked and the others not (R164), with either value of the
notices-lost bit, are assembled by a receiver into that frame, and the receiver is ready for the next. A receiver whose
votes are the eleven bits of a character as sent reads its mark and its data (R165). -/
def Obligations.SentFrameIsAssembled : Prop :=
  ∀ (k : LinkState) (f : Frame) (lost : Bool) (now : Nat), f.body.length ≤ 24 →
    (∃ (h : LinkChar) (rest : List LinkChar), f.chars lost = h :: rest ∧ h.mark = true ∧ ∀ x ∈ rest, x.mark = false) ∧
      (∃ (most : List LinkChar) (last : LinkChar), f.chars lost = most ++ [last] ∧
        (most.foldl (fun (r : LinkState) x => (r.takeChar x.mark x.data now).1) k).takeChar last.mark last.data now =
          ({ k with hunting := false, assembly := none }, some f)) ∧
      ∀ (c : LinkChar) (x : CharSamples),
        vote x.start :: (x.data.toList.map vote ++ [vote x.mark, vote x.stop]) = c.bits →
        x.started = true ∧ x.stopped = true ∧ x.marked = c.mark ∧ x.byte = c.data

/-! ## What every step keeps -/

/-- The outputs of a unit that has its supply stand as their owners command, after every step, and the drivers of one
without it are released (R10, R11, R118, R159): the driver of KEY and that of INH conduct exactly in KEYED, that of AMP
exactly in key span, that of BLK exactly while the blanking cause set holds a pair. With books that agree, a step leaves a
sequencer in KEYED only if it stood there, or with the amplifier settle reached and the settle condition holding (R121). -/
def Obligations.OutputsStandAsCommanded : Prop :=
  ∀ s t : State, step s = .next t →
    (s.OutputsAgree → t.OutputsAgree ∧ (t.powered = true → ∀ p : Pos,
      (t.driverState p .key = .conducting ↔ ∃ n, t.seqs[p] = .keyed n) ∧
      (t.driverState p .inh = .conducting ↔ ∃ n, t.seqs[p] = .keyed n) ∧
      (t.driverState p .amp = .conducting ↔ t.inSpan p = true) ∧
      (t.driverState p .blk = .conducting ↔ t.prot[p].nonempty = true))) ∧ (s.BooksAgree → KeyedBySettling s t)

/-- The key-span records agree with the sequencers, and no band count, station count or number of protect flags passes
its limit, after every step (R135, R136, R160). -/
def Obligations.LimitsAreNeverPassed : Prop :=
  ∀ s t : State, s.SpanOrder → step s = .next t → t.SpanOrder

/-- Every link stays in good order: queue, transmitter, flag, counters, assembly (R167, R170, R172). -/
def Obligations.LinksStayInOrder : Prop := ∀ s t : State, s.LinksOk → step s = .next t → t.LinksOk

/-- The two books of the allocation unit agree after every step, and no position has one antenna in both slots or awaits
one in both, or a listen on its own main (R48 to R51, R35, R56, R59). The switch pending list keeps one entry for a
position and one target for a crosspoint, and at most two change sets are in progress (R103, R104). -/
def Obligations.BooksStayInAgreement : Prop :=
  ∀ s t : State, step s = .next t → (s.BooksAgree → t.BooksAgree) ∧ (s.ListOrder → t.ListOrder)

/-- The working configuration stays one that writes can make (R31, R39, R177). -/
def Obligations.ConfigurationStaysValid : Prop := ∀ s t : State, s.CfgValid → step s = .next t → t.CfgValid

/-- The working configuration of a unit changes only at power-on, or by one item of a write through the open EDIT gate
with no save in flight (Chapter 12, R177). -/
def Obligations.ConfigurationChangesThroughGate : Prop :=
  ∀ (c : Instr) (s t : State), exec c s = .next t → t.cfg ≠ s.cfg →
    c = .powerOn ∨ (carriesWrite c = true ∧ s.editOpen = true ∧ s.store.copy = none ∧ ∃ x : Item, t.cfg = s.cfg.put x)

end ObligationStatements
end

