-- ==== Sys2Proof/Laws/State.lean ====
section
/-! SUPPORT. One lemma for each field of the state and each update of one record: the field after the update. -/

namespace Sys2Proof.Machine

@[simp] theorem State.setLines_powered (s : State) (p : Pos) (x : PosLines) :
    (s.setLines p x).powered = s.powered := rfl
@[simp] theorem State.setLines_now (s : State) (p : Pos) (x : PosLines) :
    (s.setLines p x).now = s.now := rfl
@[simp] theorem State.setLines_freeIx (s : State) (p : Pos) (x : PosLines) :
    (s.setLines p x).freeIx = s.freeIx := rfl
@[simp] theorem State.setLines_pending (s : State) (p : Pos) (x : PosLines) :
    (s.setLines p x).pending = s.pending := rfl
@[simp] theorem State.setLines_cfg (s : State) (p : Pos) (x : PosLines) :
    (s.setLines p x).cfg = s.cfg := rfl
@[simp] theorem State.setLines_store (s : State) (p : Pos) (x : PosLines) :
    (s.setLines p x).store = s.store := rfl
@[simp] theorem State.setLines_sam (s : State) (p : Pos) (x : PosLines) :
    (s.setLines p x).sam = { s.sam with pos := upd s.sam.pos p x } := rfl
@[simp] theorem State.setLines_outs (s : State) (p : Pos) (x : PosLines) :
    (s.setLines p x).outs = s.outs := rfl
@[simp] theorem State.setLines_bands (s : State) (p : Pos) (x : PosLines) :
    (s.setLines p x).bands = s.bands := rfl
@[simp] theorem State.setLines_alloc (s : State) (p : Pos) (x : PosLines) :
    (s.setLines p x).alloc = s.alloc := rfl
@[simp] theorem State.setLines_hold (s : State) (p : Pos) (x : PosLines) :
    (s.setLines p x).hold = s.hold := rfl
@[simp] theorem State.setLines_drv (s : State) (p : Pos) (x : PosLines) :
    (s.setLines p x).drv = s.drv := rfl
@[simp] theorem State.setLines_seqs (s : State) (p : Pos) (x : PosLines) :
    (s.setLines p x).seqs = s.seqs := rfl
@[simp] theorem State.setLines_spans (s : State) (p : Pos) (x : PosLines) :
    (s.setLines p x).spans = s.spans := rfl
@[simp] theorem State.setLines_prot (s : State) (p : Pos) (x : PosLines) :
    (s.setLines p x).prot = s.prot := rfl
@[simp] theorem State.setLines_links (s : State) (p : Pos) (x : PosLines) :
    (s.setLines p x).links = s.links := rfl
@[simp] theorem State.setLines_monitor (s : State) (p : Pos) (x : PosLines) :
    (s.setLines p x).monitor = s.monitor := rfl

@[simp] theorem State.setEdit_powered (s : State) (x : Line) :
    (s.setEdit x).powered = s.powered := rfl
@[simp] theorem State.setEdit_now (s : State) (x : Line) :
    (s.setEdit x).now = s.now := rfl
@[simp] theorem State.setEdit_freeIx (s : State) (x : Line) :
    (s.setEdit x).freeIx = s.freeIx := rfl
@[simp] theorem State.setEdit_pending (s : State) (x : Line) :
    (s.setEdit x).pending = s.pending := rfl
@[simp] theorem State.setEdit_cfg (s : State) (x : Line) :
    (s.setEdit x).cfg = s.cfg := rfl
@[simp] theorem State.setEdit_store (s : State) (x : Line) :
    (s.setEdit x).store = s.store := rfl
@[simp] theorem State.setEdit_sam (s : State) (x : Line) :
    (s.setEdit x).sam = { s.sam with edit := x } := rfl
@[simp] theorem State.setEdit_outs (s : State) (x : Line) :
    (s.setEdit x).outs = s.outs := rfl
@[simp] theorem State.setEdit_bands (s : State) (x : Line) :
    (s.setEdit x).bands = s.bands := rfl
@[simp] theorem State.setEdit_alloc (s : State) (x : Line) :
    (s.setEdit x).alloc = s.alloc := rfl
@[simp] theorem State.setEdit_hold (s : State) (x : Line) :
    (s.setEdit x).hold = s.hold := rfl
@[simp] theorem State.setEdit_drv (s : State) (x : Line) :
    (s.setEdit x).drv = s.drv := rfl
@[simp] theorem State.setEdit_seqs (s : State) (x : Line) :
    (s.setEdit x).seqs = s.seqs := rfl
@[simp] theorem State.setEdit_spans (s : State) (x : Line) :
    (s.setEdit x).spans = s.spans := rfl
@[simp] theorem State.setEdit_prot (s : State) (x : Line) :
    (s.setEdit x).prot = s.prot := rfl
@[simp] theorem State.setEdit_links (s : State) (x : Line) :
    (s.setEdit x).links = s.links := rfl
@[simp] theorem State.setEdit_monitor (s : State) (x : Line) :
    (s.setEdit x).monitor = s.monitor := rfl

@[simp] theorem State.setResetLine_powered (s : State) (x : Line) :
    (s.setResetLine x).powered = s.powered := rfl
@[simp] theorem State.setResetLine_now (s : State) (x : Line) :
    (s.setResetLine x).now = s.now := rfl
@[simp] theorem State.setResetLine_freeIx (s : State) (x : Line) :
    (s.setResetLine x).freeIx = s.freeIx := rfl
@[simp] theorem State.setResetLine_pending (s : State) (x : Line) :
    (s.setResetLine x).pending = s.pending := rfl
@[simp] theorem State.setResetLine_cfg (s : State) (x : Line) :
    (s.setResetLine x).cfg = s.cfg := rfl
@[simp] theorem State.setResetLine_store (s : State) (x : Line) :
    (s.setResetLine x).store = s.store := rfl
@[simp] theorem State.setResetLine_sam (s : State) (x : Line) :
    (s.setResetLine x).sam = { s.sam with reset := x } := rfl
@[simp] theorem State.setResetLine_outs (s : State) (x : Line) :
    (s.setResetLine x).outs = s.outs := rfl
@[simp] theorem State.setResetLine_bands (s : State) (x : Line) :
    (s.setResetLine x).bands = s.bands := rfl
@[simp] theorem State.setResetLine_alloc (s : State) (x : Line) :
    (s.setResetLine x).alloc = s.alloc := rfl
@[simp] theorem State.setResetLine_hold (s : State) (x : Line) :
    (s.setResetLine x).hold = s.hold := rfl
@[simp] theorem State.setResetLine_drv (s : State) (x : Line) :
    (s.setResetLine x).drv = s.drv := rfl
@[simp] theorem State.setResetLine_seqs (s : State) (x : Line) :
    (s.setResetLine x).seqs = s.seqs := rfl
@[simp] theorem State.setResetLine_spans (s : State) (x : Line) :
    (s.setResetLine x).spans = s.spans := rfl
@[simp] theorem State.setResetLine_prot (s : State) (x : Line) :
    (s.setResetLine x).prot = s.prot := rfl
@[simp] theorem State.setResetLine_links (s : State) (x : Line) :
    (s.setResetLine x).links = s.links := rfl
@[simp] theorem State.setResetLine_monitor (s : State) (x : Line) :
    (s.setResetLine x).monitor = s.monitor := rfl

@[simp] theorem State.setOut_powered (s : State) (p : Pos) (x : Outputs) :
    (s.setOut p x).powered = s.powered := rfl
@[simp] theorem State.setOut_now (s : State) (p : Pos) (x : Outputs) :
    (s.setOut p x).now = s.now := rfl
@[simp] theorem State.setOut_freeIx (s : State) (p : Pos) (x : Outputs) :
    (s.setOut p x).freeIx = s.freeIx := rfl
@[simp] theorem State.setOut_pending (s : State) (p : Pos) (x : Outputs) :
    (s.setOut p x).pending = s.pending := rfl
@[simp] theorem State.setOut_cfg (s : State) (p : Pos) (x : Outputs) :
    (s.setOut p x).cfg = s.cfg := rfl
@[simp] theorem State.setOut_store (s : State) (p : Pos) (x : Outputs) :
    (s.setOut p x).store = s.store := rfl
@[simp] theorem State.setOut_sam (s : State) (p : Pos) (x : Outputs) :
    (s.setOut p x).sam = s.sam := rfl
@[simp] theorem State.setOut_outs (s : State) (p : Pos) (x : Outputs) :
    (s.setOut p x).outs = upd s.outs p x := rfl
@[simp] theorem State.setOut_bands (s : State) (p : Pos) (x : Outputs) :
    (s.setOut p x).bands = s.bands := rfl
@[simp] theorem State.setOut_alloc (s : State) (p : Pos) (x : Outputs) :
    (s.setOut p x).alloc = s.alloc := rfl
@[simp] theorem State.setOut_hold (s : State) (p : Pos) (x : Outputs) :
    (s.setOut p x).hold = s.hold := rfl
@[simp] theorem State.setOut_drv (s : State) (p : Pos) (x : Outputs) :
    (s.setOut p x).drv = s.drv := rfl
@[simp] theorem State.setOut_seqs (s : State) (p : Pos) (x : Outputs) :
    (s.setOut p x).seqs = s.seqs := rfl
@[simp] theorem State.setOut_spans (s : State) (p : Pos) (x : Outputs) :
    (s.setOut p x).spans = s.spans := rfl
@[simp] theorem State.setOut_prot (s : State) (p : Pos) (x : Outputs) :
    (s.setOut p x).prot = s.prot := rfl
@[simp] theorem State.setOut_links (s : State) (p : Pos) (x : Outputs) :
    (s.setOut p x).links = s.links := rfl
@[simp] theorem State.setOut_monitor (s : State) (p : Pos) (x : Outputs) :
    (s.setOut p x).monitor = s.monitor := rfl

@[simp] theorem State.setBandUnit_powered (s : State) (p : Pos) (x : BandUnit) :
    (s.setBandUnit p x).powered = s.powered := rfl
@[simp] theorem State.setBandUnit_now (s : State) (p : Pos) (x : BandUnit) :
    (s.setBandUnit p x).now = s.now := rfl
@[simp] theorem State.setBandUnit_freeIx (s : State) (p : Pos) (x : BandUnit) :
    (s.setBandUnit p x).freeIx = s.freeIx := rfl
@[simp] theorem State.setBandUnit_pending (s : State) (p : Pos) (x : BandUnit) :
    (s.setBandUnit p x).pending = s.pending := rfl
@[simp] theorem State.setBandUnit_cfg (s : State) (p : Pos) (x : BandUnit) :
    (s.setBandUnit p x).cfg = s.cfg := rfl
@[simp] theorem State.setBandUnit_store (s : State) (p : Pos) (x : BandUnit) :
    (s.setBandUnit p x).store = s.store := rfl
@[simp] theorem State.setBandUnit_sam (s : State) (p : Pos) (x : BandUnit) :
    (s.setBandUnit p x).sam = s.sam := rfl
@[simp] theorem State.setBandUnit_outs (s : State) (p : Pos) (x : BandUnit) :
    (s.setBandUnit p x).outs = s.outs := rfl
@[simp] theorem State.setBandUnit_bands (s : State) (p : Pos) (x : BandUnit) :
    (s.setBandUnit p x).bands = upd s.bands p x := rfl
@[simp] theorem State.setBandUnit_alloc (s : State) (p : Pos) (x : BandUnit) :
    (s.setBandUnit p x).alloc = s.alloc := rfl
@[simp] theorem State.setBandUnit_hold (s : State) (p : Pos) (x : BandUnit) :
    (s.setBandUnit p x).hold = s.hold := rfl
@[simp] theorem State.setBandUnit_drv (s : State) (p : Pos) (x : BandUnit) :
    (s.setBandUnit p x).drv = s.drv := rfl
@[simp] theorem State.setBandUnit_seqs (s : State) (p : Pos) (x : BandUnit) :
    (s.setBandUnit p x).seqs = s.seqs := rfl
@[simp] theorem State.setBandUnit_spans (s : State) (p : Pos) (x : BandUnit) :
    (s.setBandUnit p x).spans = s.spans := rfl
@[simp] theorem State.setBandUnit_prot (s : State) (p : Pos) (x : BandUnit) :
    (s.setBandUnit p x).prot = s.prot := rfl
@[simp] theorem State.setBandUnit_links (s : State) (p : Pos) (x : BandUnit) :
    (s.setBandUnit p x).links = s.links := rfl
@[simp] theorem State.setBandUnit_monitor (s : State) (p : Pos) (x : BandUnit) :
    (s.setBandUnit p x).monitor = s.monitor := rfl

@[simp] theorem State.setAlloc_powered (s : State) (a : Ant) (x : AllocRecord) :
    (s.setAlloc a x).powered = s.powered := rfl
@[simp] theorem State.setAlloc_now (s : State) (a : Ant) (x : AllocRecord) :
    (s.setAlloc a x).now = s.now := rfl
@[simp] theorem State.setAlloc_freeIx (s : State) (a : Ant) (x : AllocRecord) :
    (s.setAlloc a x).freeIx = s.freeIx := rfl
@[simp] theorem State.setAlloc_pending (s : State) (a : Ant) (x : AllocRecord) :
    (s.setAlloc a x).pending = s.pending := rfl
@[simp] theorem State.setAlloc_cfg (s : State) (a : Ant) (x : AllocRecord) :
    (s.setAlloc a x).cfg = s.cfg := rfl
@[simp] theorem State.setAlloc_store (s : State) (a : Ant) (x : AllocRecord) :
    (s.setAlloc a x).store = s.store := rfl
@[simp] theorem State.setAlloc_sam (s : State) (a : Ant) (x : AllocRecord) :
    (s.setAlloc a x).sam = s.sam := rfl
@[simp] theorem State.setAlloc_outs (s : State) (a : Ant) (x : AllocRecord) :
    (s.setAlloc a x).outs = s.outs := rfl
@[simp] theorem State.setAlloc_bands (s : State) (a : Ant) (x : AllocRecord) :
    (s.setAlloc a x).bands = s.bands := rfl
@[simp] theorem State.setAlloc_alloc (s : State) (a : Ant) (x : AllocRecord) :
    (s.setAlloc a x).alloc = upd s.alloc a x := rfl
@[simp] theorem State.setAlloc_hold (s : State) (a : Ant) (x : AllocRecord) :
    (s.setAlloc a x).hold = s.hold := rfl
@[simp] theorem State.setAlloc_drv (s : State) (a : Ant) (x : AllocRecord) :
    (s.setAlloc a x).drv = s.drv := rfl
@[simp] theorem State.setAlloc_seqs (s : State) (a : Ant) (x : AllocRecord) :
    (s.setAlloc a x).seqs = s.seqs := rfl
@[simp] theorem State.setAlloc_spans (s : State) (a : Ant) (x : AllocRecord) :
    (s.setAlloc a x).spans = s.spans := rfl
@[simp] theorem State.setAlloc_prot (s : State) (a : Ant) (x : AllocRecord) :
    (s.setAlloc a x).prot = s.prot := rfl
@[simp] theorem State.setAlloc_links (s : State) (a : Ant) (x : AllocRecord) :
    (s.setAlloc a x).links = s.links := rfl
@[simp] theorem State.setAlloc_monitor (s : State) (a : Ant) (x : AllocRecord) :
    (s.setAlloc a x).monitor = s.monitor := rfl

@[simp] theorem State.setHold_powered (s : State) (p : Pos) (x : HoldRecord) :
    (s.setHold p x).powered = s.powered := rfl
@[simp] theorem State.setHold_now (s : State) (p : Pos) (x : HoldRecord) :
    (s.setHold p x).now = s.now := rfl
@[simp] theorem State.setHold_freeIx (s : State) (p : Pos) (x : HoldRecord) :
    (s.setHold p x).freeIx = s.freeIx := rfl
@[simp] theorem State.setHold_pending (s : State) (p : Pos) (x : HoldRecord) :
    (s.setHold p x).pending = s.pending := rfl
@[simp] theorem State.setHold_cfg (s : State) (p : Pos) (x : HoldRecord) :
    (s.setHold p x).cfg = s.cfg := rfl
@[simp] theorem State.setHold_store (s : State) (p : Pos) (x : HoldRecord) :
    (s.setHold p x).store = s.store := rfl
@[simp] theorem State.setHold_sam (s : State) (p : Pos) (x : HoldRecord) :
    (s.setHold p x).sam = s.sam := rfl
@[simp] theorem State.setHold_outs (s : State) (p : Pos) (x : HoldRecord) :
    (s.setHold p x).outs = s.outs := rfl
@[simp] theorem State.setHold_bands (s : State) (p : Pos) (x : HoldRecord) :
    (s.setHold p x).bands = s.bands := rfl
@[simp] theorem State.setHold_alloc (s : State) (p : Pos) (x : HoldRecord) :
    (s.setHold p x).alloc = s.alloc := rfl
@[simp] theorem State.setHold_hold (s : State) (p : Pos) (x : HoldRecord) :
    (s.setHold p x).hold = upd s.hold p x := rfl
@[simp] theorem State.setHold_drv (s : State) (p : Pos) (x : HoldRecord) :
    (s.setHold p x).drv = s.drv := rfl
@[simp] theorem State.setHold_seqs (s : State) (p : Pos) (x : HoldRecord) :
    (s.setHold p x).seqs = s.seqs := rfl
@[simp] theorem State.setHold_spans (s : State) (p : Pos) (x : HoldRecord) :
    (s.setHold p x).spans = s.spans := rfl
@[simp] theorem State.setHold_prot (s : State) (p : Pos) (x : HoldRecord) :
    (s.setHold p x).prot = s.prot := rfl
@[simp] theorem State.setHold_links (s : State) (p : Pos) (x : HoldRecord) :
    (s.setHold p x).links = s.links := rfl
@[simp] theorem State.setHold_monitor (s : State) (p : Pos) (x : HoldRecord) :
    (s.setHold p x).monitor = s.monitor := rfl

@[simp] theorem State.setSeq_powered (s : State) (p : Pos) (x : SeqState) :
    (s.setSeq p x).powered = s.powered := rfl
@[simp] theorem State.setSeq_now (s : State) (p : Pos) (x : SeqState) :
    (s.setSeq p x).now = s.now := rfl
@[simp] theorem State.setSeq_freeIx (s : State) (p : Pos) (x : SeqState) :
    (s.setSeq p x).freeIx = s.freeIx := rfl
@[simp] theorem State.setSeq_pending (s : State) (p : Pos) (x : SeqState) :
    (s.setSeq p x).pending = s.pending := rfl
@[simp] theorem State.setSeq_cfg (s : State) (p : Pos) (x : SeqState) :
    (s.setSeq p x).cfg = s.cfg := rfl
@[simp] theorem State.setSeq_store (s : State) (p : Pos) (x : SeqState) :
    (s.setSeq p x).store = s.store := rfl
@[simp] theorem State.setSeq_sam (s : State) (p : Pos) (x : SeqState) :
    (s.setSeq p x).sam = s.sam := rfl
@[simp] theorem State.setSeq_outs (s : State) (p : Pos) (x : SeqState) :
    (s.setSeq p x).outs = s.outs := rfl
@[simp] theorem State.setSeq_bands (s : State) (p : Pos) (x : SeqState) :
    (s.setSeq p x).bands = s.bands := rfl
@[simp] theorem State.setSeq_alloc (s : State) (p : Pos) (x : SeqState) :
    (s.setSeq p x).alloc = s.alloc := rfl
@[simp] theorem State.setSeq_hold (s : State) (p : Pos) (x : SeqState) :
    (s.setSeq p x).hold = s.hold := rfl
@[simp] theorem State.setSeq_drv (s : State) (p : Pos) (x : SeqState) :
    (s.setSeq p x).drv = s.drv := rfl
@[simp] theorem State.setSeq_seqs (s : State) (p : Pos) (x : SeqState) :
    (s.setSeq p x).seqs = upd s.seqs p x := rfl
@[simp] theorem State.setSeq_spans (s : State) (p : Pos) (x : SeqState) :
    (s.setSeq p x).spans = s.spans := rfl
@[simp] theorem State.setSeq_prot (s : State) (p : Pos) (x : SeqState) :
    (s.setSeq p x).prot = s.prot := rfl
@[simp] theorem State.setSeq_links (s : State) (p : Pos) (x : SeqState) :
    (s.setSeq p x).links = s.links := rfl
@[simp] theorem State.setSeq_monitor (s : State) (p : Pos) (x : SeqState) :
    (s.setSeq p x).monitor = s.monitor := rfl

@[simp] theorem State.setSpan_powered (s : State) (p : Pos) (x : Option KeySpan) :
    (s.setSpan p x).powered = s.powered := rfl
@[simp] theorem State.setSpan_now (s : State) (p : Pos) (x : Option KeySpan) :
    (s.setSpan p x).now = s.now := rfl
@[simp] theorem State.setSpan_freeIx (s : State) (p : Pos) (x : Option KeySpan) :
    (s.setSpan p x).freeIx = s.freeIx := rfl
@[simp] theorem State.setSpan_pending (s : State) (p : Pos) (x : Option KeySpan) :
    (s.setSpan p x).pending = s.pending := rfl
@[simp] theorem State.setSpan_cfg (s : State) (p : Pos) (x : Option KeySpan) :
    (s.setSpan p x).cfg = s.cfg := rfl
@[simp] theorem State.setSpan_store (s : State) (p : Pos) (x : Option KeySpan) :
    (s.setSpan p x).store = s.store := rfl
@[simp] theorem State.setSpan_sam (s : State) (p : Pos) (x : Option KeySpan) :
    (s.setSpan p x).sam = s.sam := rfl
@[simp] theorem State.setSpan_outs (s : State) (p : Pos) (x : Option KeySpan) :
    (s.setSpan p x).outs = s.outs := rfl
@[simp] theorem State.setSpan_bands (s : State) (p : Pos) (x : Option KeySpan) :
    (s.setSpan p x).bands = s.bands := rfl
@[simp] theorem State.setSpan_alloc (s : State) (p : Pos) (x : Option KeySpan) :
    (s.setSpan p x).alloc = s.alloc := rfl
@[simp] theorem State.setSpan_hold (s : State) (p : Pos) (x : Option KeySpan) :
    (s.setSpan p x).hold = s.hold := rfl
@[simp] theorem State.setSpan_drv (s : State) (p : Pos) (x : Option KeySpan) :
    (s.setSpan p x).drv = s.drv := rfl
@[simp] theorem State.setSpan_seqs (s : State) (p : Pos) (x : Option KeySpan) :
    (s.setSpan p x).seqs = s.seqs := rfl
@[simp] theorem State.setSpan_spans (s : State) (p : Pos) (x : Option KeySpan) :
    (s.setSpan p x).spans = upd s.spans p x := rfl
@[simp] theorem State.setSpan_prot (s : State) (p : Pos) (x : Option KeySpan) :
    (s.setSpan p x).prot = s.prot := rfl
@[simp] theorem State.setSpan_links (s : State) (p : Pos) (x : Option KeySpan) :
    (s.setSpan p x).links = s.links := rfl
@[simp] theorem State.setSpan_monitor (s : State) (p : Pos) (x : Option KeySpan) :
    (s.setSpan p x).monitor = s.monitor := rfl

@[simp] theorem State.setProt_powered (s : State) (p : Pos) (x : Protection) :
    (s.setProt p x).powered = s.powered := rfl
@[simp] theorem State.setProt_now (s : State) (p : Pos) (x : Protection) :
    (s.setProt p x).now = s.now := rfl
@[simp] theorem State.setProt_freeIx (s : State) (p : Pos) (x : Protection) :
    (s.setProt p x).freeIx = s.freeIx := rfl
@[simp] theorem State.setProt_pending (s : State) (p : Pos) (x : Protection) :
    (s.setProt p x).pending = s.pending := rfl
@[simp] theorem State.setProt_cfg (s : State) (p : Pos) (x : Protection) :
    (s.setProt p x).cfg = s.cfg := rfl
@[simp] theorem State.setProt_store (s : State) (p : Pos) (x : Protection) :
    (s.setProt p x).store = s.store := rfl
@[simp] theorem State.setProt_sam (s : State) (p : Pos) (x : Protection) :
    (s.setProt p x).sam = s.sam := rfl
@[simp] theorem State.setProt_outs (s : State) (p : Pos) (x : Protection) :
    (s.setProt p x).outs = s.outs := rfl
@[simp] theorem State.setProt_bands (s : State) (p : Pos) (x : Protection) :
    (s.setProt p x).bands = s.bands := rfl
@[simp] theorem State.setProt_alloc (s : State) (p : Pos) (x : Protection) :
    (s.setProt p x).alloc = s.alloc := rfl
@[simp] theorem State.setProt_hold (s : State) (p : Pos) (x : Protection) :
    (s.setProt p x).hold = s.hold := rfl
@[simp] theorem State.setProt_drv (s : State) (p : Pos) (x : Protection) :
    (s.setProt p x).drv = s.drv := rfl
@[simp] theorem State.setProt_seqs (s : State) (p : Pos) (x : Protection) :
    (s.setProt p x).seqs = s.seqs := rfl
@[simp] theorem State.setProt_spans (s : State) (p : Pos) (x : Protection) :
    (s.setProt p x).spans = s.spans := rfl
@[simp] theorem State.setProt_prot (s : State) (p : Pos) (x : Protection) :
    (s.setProt p x).prot = upd s.prot p x := rfl
@[simp] theorem State.setProt_links (s : State) (p : Pos) (x : Protection) :
    (s.setProt p x).links = s.links := rfl
@[simp] theorem State.setProt_monitor (s : State) (p : Pos) (x : Protection) :
    (s.setProt p x).monitor = s.monitor := rfl

@[simp] theorem State.setLink_powered (s : State) (l : Link) (x : LinkState) :
    (s.setLink l x).powered = s.powered := rfl
@[simp] theorem State.setLink_now (s : State) (l : Link) (x : LinkState) :
    (s.setLink l x).now = s.now := rfl
@[simp] theorem State.setLink_freeIx (s : State) (l : Link) (x : LinkState) :
    (s.setLink l x).freeIx = s.freeIx := rfl
@[simp] theorem State.setLink_pending (s : State) (l : Link) (x : LinkState) :
    (s.setLink l x).pending = s.pending := rfl
@[simp] theorem State.setLink_cfg (s : State) (l : Link) (x : LinkState) :
    (s.setLink l x).cfg = s.cfg := rfl
@[simp] theorem State.setLink_store (s : State) (l : Link) (x : LinkState) :
    (s.setLink l x).store = s.store := rfl
@[simp] theorem State.setLink_sam (s : State) (l : Link) (x : LinkState) :
    (s.setLink l x).sam = s.sam := rfl
@[simp] theorem State.setLink_outs (s : State) (l : Link) (x : LinkState) :
    (s.setLink l x).outs = s.outs := rfl
@[simp] theorem State.setLink_bands (s : State) (l : Link) (x : LinkState) :
    (s.setLink l x).bands = s.bands := rfl
@[simp] theorem State.setLink_alloc (s : State) (l : Link) (x : LinkState) :
    (s.setLink l x).alloc = s.alloc := rfl
@[simp] theorem State.setLink_hold (s : State) (l : Link) (x : LinkState) :
    (s.setLink l x).hold = s.hold := rfl
@[simp] theorem State.setLink_drv (s : State) (l : Link) (x : LinkState) :
    (s.setLink l x).drv = s.drv := rfl
@[simp] theorem State.setLink_seqs (s : State) (l : Link) (x : LinkState) :
    (s.setLink l x).seqs = s.seqs := rfl
@[simp] theorem State.setLink_spans (s : State) (l : Link) (x : LinkState) :
    (s.setLink l x).spans = s.spans := rfl
@[simp] theorem State.setLink_prot (s : State) (l : Link) (x : LinkState) :
    (s.setLink l x).prot = s.prot := rfl
@[simp] theorem State.setLink_links (s : State) (l : Link) (x : LinkState) :
    (s.setLink l x).links = upd s.links l x := rfl
@[simp] theorem State.setLink_monitor (s : State) (l : Link) (x : LinkState) :
    (s.setLink l x).monitor = s.monitor := rfl

@[simp] theorem State.setDrv_powered (s : State) (d : Driver) :
    (s.setDrv d).powered = s.powered := rfl
@[simp] theorem State.setDrv_now (s : State) (d : Driver) :
    (s.setDrv d).now = s.now := rfl
@[simp] theorem State.setDrv_freeIx (s : State) (d : Driver) :
    (s.setDrv d).freeIx = s.freeIx := rfl
@[simp] theorem State.setDrv_pending (s : State) (d : Driver) :
    (s.setDrv d).pending = s.pending := rfl
@[simp] theorem State.setDrv_cfg (s : State) (d : Driver) :
    (s.setDrv d).cfg = s.cfg := rfl
@[simp] theorem State.setDrv_store (s : State) (d : Driver) :
    (s.setDrv d).store = s.store := rfl
@[simp] theorem State.setDrv_sam (s : State) (d : Driver) :
    (s.setDrv d).sam = s.sam := rfl
@[simp] theorem State.setDrv_outs (s : State) (d : Driver) :
    (s.setDrv d).outs = s.outs := rfl
@[simp] theorem State.setDrv_bands (s : State) (d : Driver) :
    (s.setDrv d).bands = s.bands := rfl
@[simp] theorem State.setDrv_alloc (s : State) (d : Driver) :
    (s.setDrv d).alloc = s.alloc := rfl
@[simp] theorem State.setDrv_hold (s : State) (d : Driver) :
    (s.setDrv d).hold = s.hold := rfl
@[simp] theorem State.setDrv_drv (s : State) (d : Driver) :
    (s.setDrv d).drv = d := rfl
@[simp] theorem State.setDrv_seqs (s : State) (d : Driver) :
    (s.setDrv d).seqs = s.seqs := rfl
@[simp] theorem State.setDrv_spans (s : State) (d : Driver) :
    (s.setDrv d).spans = s.spans := rfl
@[simp] theorem State.setDrv_prot (s : State) (d : Driver) :
    (s.setDrv d).prot = s.prot := rfl
@[simp] theorem State.setDrv_links (s : State) (d : Driver) :
    (s.setDrv d).links = s.links := rfl
@[simp] theorem State.setDrv_monitor (s : State) (d : Driver) :
    (s.setDrv d).monitor = s.monitor := rfl

@[simp] theorem State.setStore_powered (s : State) (x : StoreUnit) :
    (s.setStore x).powered = s.powered := rfl
@[simp] theorem State.setStore_now (s : State) (x : StoreUnit) :
    (s.setStore x).now = s.now := rfl
@[simp] theorem State.setStore_freeIx (s : State) (x : StoreUnit) :
    (s.setStore x).freeIx = s.freeIx := rfl
@[simp] theorem State.setStore_pending (s : State) (x : StoreUnit) :
    (s.setStore x).pending = s.pending := rfl
@[simp] theorem State.setStore_cfg (s : State) (x : StoreUnit) :
    (s.setStore x).cfg = s.cfg := rfl
@[simp] theorem State.setStore_store (s : State) (x : StoreUnit) :
    (s.setStore x).store = x := rfl
@[simp] theorem State.setStore_sam (s : State) (x : StoreUnit) :
    (s.setStore x).sam = s.sam := rfl
@[simp] theorem State.setStore_outs (s : State) (x : StoreUnit) :
    (s.setStore x).outs = s.outs := rfl
@[simp] theorem State.setStore_bands (s : State) (x : StoreUnit) :
    (s.setStore x).bands = s.bands := rfl
@[simp] theorem State.setStore_alloc (s : State) (x : StoreUnit) :
    (s.setStore x).alloc = s.alloc := rfl
@[simp] theorem State.setStore_hold (s : State) (x : StoreUnit) :
    (s.setStore x).hold = s.hold := rfl
@[simp] theorem State.setStore_drv (s : State) (x : StoreUnit) :
    (s.setStore x).drv = s.drv := rfl
@[simp] theorem State.setStore_seqs (s : State) (x : StoreUnit) :
    (s.setStore x).seqs = s.seqs := rfl
@[simp] theorem State.setStore_spans (s : State) (x : StoreUnit) :
    (s.setStore x).spans = s.spans := rfl
@[simp] theorem State.setStore_prot (s : State) (x : StoreUnit) :
    (s.setStore x).prot = s.prot := rfl
@[simp] theorem State.setStore_links (s : State) (x : StoreUnit) :
    (s.setStore x).links = s.links := rfl
@[simp] theorem State.setStore_monitor (s : State) (x : StoreUnit) :
    (s.setStore x).monitor = s.monitor := rfl

@[simp] theorem State.setCfg_powered (s : State) (c : Cfg) :
    (s.setCfg c).powered = s.powered := rfl
@[simp] theorem State.setCfg_now (s : State) (c : Cfg) :
    (s.setCfg c).now = s.now := rfl
@[simp] theorem State.setCfg_freeIx (s : State) (c : Cfg) :
    (s.setCfg c).freeIx = s.freeIx := rfl
@[simp] theorem State.setCfg_pending (s : State) (c : Cfg) :
    (s.setCfg c).pending = s.pending := rfl
@[simp] theorem State.setCfg_cfg (s : State) (c : Cfg) :
    (s.setCfg c).cfg = c := rfl
@[simp] theorem State.setCfg_store (s : State) (c : Cfg) :
    (s.setCfg c).store = s.store := rfl
@[simp] theorem State.setCfg_sam (s : State) (c : Cfg) :
    (s.setCfg c).sam = s.sam := rfl
@[simp] theorem State.setCfg_outs (s : State) (c : Cfg) :
    (s.setCfg c).outs = s.outs := rfl
@[simp] theorem State.setCfg_bands (s : State) (c : Cfg) :
    (s.setCfg c).bands = s.bands := rfl
@[simp] theorem State.setCfg_alloc (s : State) (c : Cfg) :
    (s.setCfg c).alloc = s.alloc := rfl
@[simp] theorem State.setCfg_hold (s : State) (c : Cfg) :
    (s.setCfg c).hold = s.hold := rfl
@[simp] theorem State.setCfg_drv (s : State) (c : Cfg) :
    (s.setCfg c).drv = s.drv := rfl
@[simp] theorem State.setCfg_seqs (s : State) (c : Cfg) :
    (s.setCfg c).seqs = s.seqs := rfl
@[simp] theorem State.setCfg_spans (s : State) (c : Cfg) :
    (s.setCfg c).spans = s.spans := rfl
@[simp] theorem State.setCfg_prot (s : State) (c : Cfg) :
    (s.setCfg c).prot = s.prot := rfl
@[simp] theorem State.setCfg_links (s : State) (c : Cfg) :
    (s.setCfg c).links = s.links := rfl
@[simp] theorem State.setCfg_monitor (s : State) (c : Cfg) :
    (s.setCfg c).monitor = s.monitor := rfl

@[simp] theorem State.setMonitor_powered (s : State) (on : Bool) :
    (s.setMonitor on).powered = s.powered := rfl
@[simp] theorem State.setMonitor_now (s : State) (on : Bool) :
    (s.setMonitor on).now = s.now := rfl
@[simp] theorem State.setMonitor_freeIx (s : State) (on : Bool) :
    (s.setMonitor on).freeIx = s.freeIx := rfl
@[simp] theorem State.setMonitor_pending (s : State) (on : Bool) :
    (s.setMonitor on).pending = s.pending := rfl
@[simp] theorem State.setMonitor_cfg (s : State) (on : Bool) :
    (s.setMonitor on).cfg = s.cfg := rfl
@[simp] theorem State.setMonitor_store (s : State) (on : Bool) :
    (s.setMonitor on).store = s.store := rfl
@[simp] theorem State.setMonitor_sam (s : State) (on : Bool) :
    (s.setMonitor on).sam = s.sam := rfl
@[simp] theorem State.setMonitor_outs (s : State) (on : Bool) :
    (s.setMonitor on).outs = s.outs := rfl
@[simp] theorem State.setMonitor_bands (s : State) (on : Bool) :
    (s.setMonitor on).bands = s.bands := rfl
@[simp] theorem State.setMonitor_alloc (s : State) (on : Bool) :
    (s.setMonitor on).alloc = s.alloc := rfl
@[simp] theorem State.setMonitor_hold (s : State) (on : Bool) :
    (s.setMonitor on).hold = s.hold := rfl
@[simp] theorem State.setMonitor_drv (s : State) (on : Bool) :
    (s.setMonitor on).drv = s.drv := rfl
@[simp] theorem State.setMonitor_seqs (s : State) (on : Bool) :
    (s.setMonitor on).seqs = s.seqs := rfl
@[simp] theorem State.setMonitor_spans (s : State) (on : Bool) :
    (s.setMonitor on).spans = s.spans := rfl
@[simp] theorem State.setMonitor_prot (s : State) (on : Bool) :
    (s.setMonitor on).prot = s.prot := rfl
@[simp] theorem State.setMonitor_links (s : State) (on : Bool) :
    (s.setMonitor on).links = s.links := rfl
@[simp] theorem State.setMonitor_monitor (s : State) (on : Bool) :
    (s.setMonitor on).monitor = on := rfl

/-! ## The parts of a holding record, by slot -/

@[simp] theorem HoldRecord.setPend_pend (h : HoldRecord) (k k' : Slot) (x : Option Ant) :
    (h.setPend k x).pend k' = if k' = k then x else h.pend k' := by cases k <;> cases k' <;> rfl
@[simp] theorem HoldRecord.setPend_holding (h : HoldRecord) (k k' : Slot) (x : Option Ant) :
    (h.setPend k x).holding k' = h.holding k' := by cases k <;> cases k' <;> rfl
@[simp] theorem HoldRecord.setPend_mark (h : HoldRecord) (k k' : Slot) (x : Option Ant) :
    (h.setPend k x).mark k' = h.mark k' := by cases k <;> cases k' <;> rfl
@[simp] theorem HoldRecord.setHolding_pend (h : HoldRecord) (k k' : Slot) (x : Option Holding) :
    (h.setHolding k x).pend k' = h.pend k' := by cases k <;> cases k' <;> rfl
@[simp] theorem HoldRecord.setHolding_holding (h : HoldRecord) (k k' : Slot) (x : Option Holding) :
    (h.setHolding k x).holding k' = if k' = k then x else h.holding k' := by cases k <;> cases k' <;> rfl
@[simp] theorem HoldRecord.setHolding_mark (h : HoldRecord) (k k' : Slot) (x : Option Holding) :
    (h.setHolding k x).mark k' = h.mark k' := by cases k <;> cases k' <;> rfl
@[simp] theorem HoldRecord.setMark_pend (h : HoldRecord) (k k' : Slot) (x : Option Mark) :
    (h.setMark k x).pend k' = h.pend k' := by cases k <;> cases k' <;> rfl
@[simp] theorem HoldRecord.setMark_holding (h : HoldRecord) (k k' : Slot) (x : Option Mark) :
    (h.setMark k x).holding k' = h.holding k' := by cases k <;> cases k' <;> rfl
@[simp] theorem HoldRecord.setMark_mark (h : HoldRecord) (k k' : Slot) (x : Option Mark) :
    (h.setMark k x).mark k' = if k' = k then x else h.mark k' := by cases k <;> cases k' <;> rfl

end Sys2Proof.Machine
end

