-- ==== Sys2Proof/Laws/Ops.lean ====
section
/-! SUPPORT. The shared operations of Machine/Ops.lean: what an updated table reads, what a run of updates keeps, and what
placing a frame or a notice can do. -/

namespace Sys2Proof.Machine

/-! ## Tables -/

theorem upd_get_same {α : Type} {n : Nat} (v : Vector α n) (i : Fin n) (x : α) : (upd v i x)[i] = x := by
  simp [upd]

theorem upd_get_ne {α : Type} {n : Nat} (v : Vector α n) {i j : Fin n} (x : α) (h : i ≠ j) : (upd v i x)[j] = v[j] := by
  have : i.val ≠ j.val := fun e => h (Fin.ext e)
  simp [upd, this]

/-- An updated table reads the new entry at its place and the old ones elsewhere. -/
theorem upd_get {α : Type} {n : Nat} (v : Vector α n) (i j : Fin n) (x : α) :
    (upd v i x)[j] = if i = j then x else v[j] := by
  by_cases h : i = j
  · subst h; rw [upd_get_same]; simp
  · rw [upd_get_ne v x h]; simp [h]

theorem upd_getElem {α : Type} {n : Nat} (v : Vector α n) (i j : Fin n) (x : α) :
    (upd v i x)[j.val] = if i = j then x else v[j.val] := upd_get v i j x

/-- Two tables with the same entries are the same. -/
theorem table_ext {α : Type} {n : Nat} {v w : Vector α n} (h : ∀ i : Fin n, v[i] = w[i]) : v = w := by
  apply Vector.ext
  intro i hi
  exact h ⟨i, hi⟩

theorem upd_self {α : Type} {n : Nat} (v : Vector α n) (i : Fin n) : upd v i v[i] = v := by
  apply table_ext
  intro j
  rw [upd_get]
  split
  · next h => rw [h]
  · rfl

/-! ## Every position, band, segment, antenna, link -/

@[simp] theorem mem_allPos (p : Pos) : p ∈ allPos := by revert p; decide
@[simp] theorem mem_allBands (b : Band) : b ∈ allBands := by revert b; decide
@[simp] theorem mem_allSegs (g : Seg) : g ∈ allSegs := by revert g; decide
@[simp] theorem mem_allAnts (a : Ant) : a ∈ allAnts := by revert a; decide
@[simp] theorem mem_allLinks (l : Link) : l ∈ allLinks := by revert l; decide
@[simp] theorem mem_allRules (n : RuleIx) : n ∈ allRules := by revert n; decide

theorem allPos_nodup : allPos.Nodup := by decide
theorem allAnts_nodup : allAnts.Nodup := by decide

/-! ## Runs of updates -/

@[simp] theorem State.each_nil {α : Type} (s : State) (f : α → State → State) : s.each [] f = s := rfl

@[simp] theorem State.each_cons {α : Type} (s : State) (x : α) (xs : List α) (f : α → State → State) :
    s.each (x :: xs) f = (f x s).each xs f := rfl

/-- A relation that each update makes, and that is reflexive and transitive, holds across the run. -/
theorem State.each_rel {α : Type} (r : State → State → Prop) (refl : ∀ s, r s s) (trans : ∀ {s t u}, r s t → r t u → r s u)
    (xs : List α) (f : α → State → State) (h : ∀ x t, r t (f x t)) (s : State) : r s (s.each xs f) := by
  induction xs generalizing s with
  | nil => exact refl s
  | cons x xs ih => exact trans (h x s) (ih (f x s))

/-- A property that each update keeps is kept by the run. -/
theorem State.each_keeps {α : Type} (q : State → Prop) (xs : List α) (f : α → State → State)
    (h : ∀ x t, x ∈ xs → q t → q (f x t)) (s : State) (hs : q s) : q (s.each xs f) := by
  induction xs generalizing s with
  | nil => exact hs
  | cons x xs ih =>
    exact ih (fun y t hy ht => h y t (List.mem_cons_of_mem x hy) ht) (f x s) (h x s List.mem_cons_self hs)

/-- A part of the state that no update touches is untouched by the run. -/
theorem State.each_same {α β : Type} (v : State → β) (xs : List α) (f : α → State → State)
    (h : ∀ x t, v (f x t) = v t) (s : State) : v (s.each xs f) = v s := by
  induction xs generalizing s with
  | nil => rfl
  | cons x xs ih => rw [State.each_cons, ih, h]

/-! ## The outcome of a command -/

/-- A command of a powered unit answers the next state that its effect gives. -/
theorem whenPowered_on {s : State} (h : s.powered = true) (f : State → State) : whenPowered s f = .next (f s) := by
  simp [whenPowered, h]

/-- A unit without its supply keeps its state (log entry 9). -/
theorem whenPowered_off {s : State} (h : s.powered = false) (f : State → State) : whenPowered s f = .next s := by
  simp [whenPowered, h]

/-- What a command can answer: a next state, which is the effect of it or the state itself. -/
theorem whenPowered_cases {s t : State} {f : State → State} (h : whenPowered s f = .next t) :
    (s.powered = true ∧ t = f s) ∨ (s.powered = false ∧ t = s) := by
  cases hp : s.powered with
  | true => rw [whenPowered_on hp] at h; cases h; exact .inl ⟨rfl, rfl⟩
  | false => rw [whenPowered_off hp] at h; cases h; exact .inr ⟨rfl, rfl⟩

/-! ## Frames and notices -/

/-- A link's transmit side may have taken frames at the end of its queue or dropped notices; nothing else of the link has
changed. -/
structure LinkGrow (k k' : LinkState) : Prop where
  queue : k.queue <+: k'.queue
  rest : k' = { k with queue := k'.queue, sending := k'.sending, lost := k'.lost, noticesLost := k'.noticesLost }

theorem LinkGrow.refl (k : LinkState) : LinkGrow k k := ⟨List.prefix_refl _, rfl⟩

theorem LinkGrow.trans {k m n : LinkState} (h : LinkGrow k m) (g : LinkGrow m n) : LinkGrow k n :=
  ⟨h.queue.trans g.queue, by rw [g.rest, h.rest]⟩

/-- A frame placed joins the end of the queue. -/
@[simp] theorem LinkState.place_queue (k : LinkState) (f : Frame) : (k.place f).queue = k.queue ++ [f] := by
  unfold LinkState.place
  split <;> rfl

theorem LinkState.place_grow (k : LinkState) (f : Frame) : LinkGrow k (k.place f) := by
  refine ⟨by simp, ?_⟩
  unfold LinkState.place
  split <;> rfl

theorem LinkState.offer_grow (k : LinkState) (f : Frame) : LinkGrow k (k.offer f) := by
  unfold LinkState.offer
  split
  · exact k.place_grow f
  · exact ⟨List.prefix_refl _, rfl⟩

/-- Nothing but transmit sides of links has changed, and their queues have at most grown. -/
structure LinksGrow (s t : State) : Prop where
  eq : t = { s with links := t.links }
  grow : ∀ l : Link, LinkGrow s.links[l] t.links[l]

theorem LinksGrow.refl (s : State) : LinksGrow s s := ⟨rfl, fun _ => .refl _⟩

theorem LinksGrow.trans {s t u : State} (h : LinksGrow s t) (k : LinksGrow t u) : LinksGrow s u :=
  ⟨by rw [k.eq, h.eq], fun l => (h.grow l).trans (k.grow l)⟩

theorem State.setLink_grow (s : State) (l : Link) (x : LinkState) (h : LinkGrow s.links[l] x) :
    LinksGrow s (s.setLink l x) := by
  refine ⟨rfl, fun m => ?_⟩
  rw [State.setLink_links, upd_get]
  split
  · next e => rw [← e]; exact h
  · exact .refl _

theorem State.reply_grow (s : State) (l : Link) (f : Frame) : LinksGrow s (s.reply l f) := by
  unfold State.reply
  split
  · exact .refl s
  · exact s.setLink_grow l _ (LinkState.place_grow _ f)

theorem State.answer_grow (s : State) (l : Link) (k : BitVec 7) (r : Result) : LinksGrow s (s.answer l k r) :=
  s.reply_grow l _

theorem State.offer_grow (s : State) (l : Link) (f : Frame) : LinksGrow s (s.offer l f) := by
  unfold State.offer
  split
  · exact .refl s
  · exact s.setLink_grow l _ (LinkState.offer_grow _ f)

/-- A notice changes nothing but transmit sides of links. -/
theorem State.notify_grow (s : State) (p : Pos) (n : Notice) : LinksGrow s (s.notify p n) := by
  unfold State.notify
  dsimp only
  split
  · exact (s.offer_grow _ _).trans (State.offer_grow _ _ _)
  · exact s.offer_grow _ _

/-- An answer on a link with room, in a unit not held in reset, is placed in its queue. -/
theorem State.reply_placed {s : State} {l : Link} (f : Frame) (h : s.held = false) (r : s.links[l].hasRoom = true) :
    s.reply l f = s.setLink l (s.links[l].place f) := by
  simp only [Fin.getElem_fin] at r
  simp [State.reply, h, r]

/-- A counter never falls, and never passes 65,535. -/
theorem bump_le (n : Nat) (h : n ≤ Config.counterTop) : bump n ≤ Config.counterTop := by
  unfold bump
  split
  · omega
  · exact h

/-! ## What a position holds -/

/-- A deferred mark leaves what a position holds. -/
theorem State.mark_heldAnt (s : State) (p q : Pos) (k k' : Slot) (x : Option Mark) :
    (s.mark p k x).heldAnt q k' = s.heldAnt q k' := by
  simp only [State.heldAnt, State.mark, State.setHold_hold, Fin.getElem_fin, upd_getElem]
  split
  · rename_i h; subst h; simp
  · rfl

/-- A holding that is kept with its antenna marked as faulted stays on that antenna. -/
theorem State.keepFaulted_heldAnt (s : State) (p q : Pos) (k k' : Slot) :
    (s.keepFaulted p k).heldAnt q k' = s.heldAnt q k' := by
  simp only [State.heldAnt, State.keepFaulted, State.setHold_hold, Fin.getElem_fin, upd_getElem]
  split
  · rename_i h
    subst h
    by_cases h : k' = k
    · subst h; simp [Function.comp_def]
    · simp [h]
  · rfl

/-! ## Output drivers (R10) -/

@[simp] theorem Outputs.driver_conducting (o : Outputs) (x : OutLine) : o.driver x = .conducting ↔ o.conducts x = true := by
  unfold Outputs.driver; cases o.conducts x <;> simp

@[simp] theorem Outputs.safe_driver (x : OutLine) : Outputs.safe.driver x = .released := by cases x <;> rfl

/-- The driver that conducts in each sequencer state (R10, R118). -/
@[simp] theorem SeqState.outputs_conducts_key (q : SeqState) (o : Outputs) :
    (q.outputs o).conducts .key = true ↔ ∃ n, q = .keyed n := by cases q <;> simp [SeqState.outputs, Outputs.conducts]

@[simp] theorem SeqState.outputs_conducts_inh (q : SeqState) (o : Outputs) :
    (q.outputs o).conducts .inh = true ↔ ∃ n, q = .keyed n := by cases q <;> simp [SeqState.outputs, Outputs.conducts]

@[simp] theorem SeqState.outputs_conducts_amp (q : SeqState) (o : Outputs) :
    (q.outputs o).conducts .amp = q.inSpan := by cases q <;> rfl

@[simp] theorem SeqState.outputs_conducts_blk (q : SeqState) (o : Outputs) :
    (q.outputs o).conducts .blk = o.blk := by cases q <;> rfl

end Sys2Proof.Machine
end

