-- ==== Sys2Proof/Laws/Frame.lean ====
section
/-! SUPPORT. What allocation and the switch pending list leave alone: one relation, and that every operation of Books,
Keying, PendingList, Allocation and Follow stays within it. -/

namespace Sys2Proof.Machine

/-- What an operation of allocation leaves alone: everything but the two books, the pending list, the transmit queues and
the step from SETTLING to KEYED that a completed holding makes. -/
structure AllocFrame (s t : State) : Prop where
  powered : t.powered = s.powered
  now : t.now = s.now
  freeIx : t.freeIx = s.freeIx
  pending : t.pending = s.pending
  cfg : t.cfg = s.cfg
  store : t.store = s.store
  sam : t.sam = s.sam
  bands : t.bands = s.bands
  spans : t.spans = s.spans
  prot : t.prot = s.prot
  monitor : t.monitor = s.monitor
  drv : t.drv = { s.drv with list := t.drv.list }
  links : ∀ l : Link, LinkGrow s.links[l] t.links[l]
  seqs : ∀ p : Pos, (t.seqs[p] = s.seqs[p] ∧ t.outs[p] = s.outs[p]) ∨
    ∃ since, s.seqs[p] = .settling since ∧ since + s.cfg.pos[p].ampSettle ≤ s.now ∧ t.seqs[p] = .keyed s.now ∧
      t.outs[p] = (SeqState.keyed s.now).outputs s.outs[p]

namespace AllocFrame

theorem refl (s : State) : AllocFrame s s := by
  constructor <;> first | rfl | exact fun _ => .inl ⟨rfl, rfl⟩ | exact fun _ => .refl _

theorem trans {s t u : State} (h : AllocFrame s t) (k : AllocFrame t u) : AllocFrame s u where
  powered := k.powered.trans h.powered
  now := k.now.trans h.now
  freeIx := k.freeIx.trans h.freeIx
  pending := k.pending.trans h.pending
  cfg := k.cfg.trans h.cfg
  store := k.store.trans h.store
  sam := k.sam.trans h.sam
  bands := k.bands.trans h.bands
  spans := k.spans.trans h.spans
  prot := k.prot.trans h.prot
  monitor := k.monitor.trans h.monitor
  drv := by rw [k.drv, h.drv]
  links := fun l => (h.links l).trans (k.links l)
  seqs := fun p => by
    rcases h.seqs p with ⟨e1, o1⟩ | ⟨x, h1, h0, h2, h3⟩
    · rcases k.seqs p with ⟨e2, o2⟩ | ⟨y, k1, k0, k2, k3⟩
      · exact .inl ⟨e2.trans e1, o2.trans o1⟩
      · refine .inr ⟨y, by rw [← e1]; exact k1, ?_, by rw [k2, h.now], by rw [k3, h.now, o1]⟩
        rwa [h.cfg, h.now] at k0
    · rcases k.seqs p with ⟨e2, o2⟩ | ⟨y, k1, _, _, _⟩
      · exact .inr ⟨x, h1, h0, e2.trans h2, o2.trans h3⟩
      · rw [h2] at k1; cases k1

theorem inSpan {s t : State} (h : AllocFrame s t) (p : Pos) : t.inSpan p = s.inSpan p := by
  unfold State.inSpan
  rcases h.seqs p with ⟨e, _⟩ | ⟨x, h1, _, h2, _⟩
  · rw [e]
  · rw [h1, h2]; rfl

theorem isParked {s t : State} (h : AllocFrame s t) (p : Pos) : t.isParked p = s.isParked p := by
  unfold State.isParked
  rcases h.seqs p with ⟨e, _⟩ | ⟨x, h1, _, h2, _⟩
  · rw [e]
  · rw [h1, h2]; rfl

theorem blk {s t : State} (h : AllocFrame s t) (p : Pos) : t.outs[p].blk = s.outs[p].blk := by
  rcases h.seqs p with ⟨_, e⟩ | ⟨x, _, _, _, e⟩ <;> rw [e]
  rfl

theorem held {s t : State} (h : AllocFrame s t) : t.held = s.held := by
  unfold State.held; rw [h.sam]

end AllocFrame

/-! ## The primitives -/

theorem LinksGrow.frame {s t : State} (h : LinksGrow s t) : AllocFrame s t := by
  have g := h.grow
  rw [h.eq]
  constructor <;> first | rfl | exact g | exact fun _ => .inl ⟨rfl, rfl⟩

theorem State.notify_frame (s : State) (p : Pos) (n : Notice) : AllocFrame s (s.notify p n) :=
  (s.notify_grow p n).frame

theorem State.setAlloc_frame (s : State) (a : Ant) (x : AllocRecord) : AllocFrame s (s.setAlloc a x) := by
  constructor <;> first | rfl | exact fun _ => .inl ⟨rfl, rfl⟩ | exact fun _ => .refl _

theorem State.setHold_frame (s : State) (p : Pos) (x : HoldRecord) : AllocFrame s (s.setHold p x) := by
  constructor <;> first | rfl | exact fun _ => .inl ⟨rfl, rfl⟩ | exact fun _ => .refl _

theorem State.setList_frame (s : State) (xs : List PendEntry) : AllocFrame s (s.setList xs) := by
  constructor <;> first | rfl | exact fun _ => .inl ⟨rfl, rfl⟩ | exact fun _ => .refl _

theorem State.each_frame {α : Type} (s : State) (xs : List α) (f : α → State → State)
    (h : ∀ x t, AllocFrame t (f x t)) : AllocFrame s (s.each xs f) :=
  State.each_rel AllocFrame .refl (fun a b => a.trans b) xs f h s

/-! ## Keying -/

/-- SETTLING is left for KEYED, or nothing changes (R121). -/
theorem State.trySettle_cases (s : State) (p : Pos) :
    s.trySettle p = s ∨
      ∃ since, s.seqs[p] = .settling since ∧ since + s.cfg.pos[p].ampSettle ≤ s.now ∧ s.settleCond p = true ∧
        s.trySettle p = s.enter p (.keyed s.now) := by
  unfold State.trySettle
  split
  · next h =>
    obtain ⟨h1, h2⟩ := Bool.and_eq_true_iff.mp h
    unfold State.settleReached at h1
    split at h1
    · next since e => exact .inr ⟨since, e, of_decide_eq_true h1, h2, rfl⟩
    · cases h1
  · exact .inl rfl

theorem State.trySettle_frame (s : State) (p : Pos) : AllocFrame s (s.trySettle p) := by
  rcases s.trySettle_cases p with h | ⟨since, h1, h0, _, h2⟩
  · rw [h]; exact .refl s
  · rw [h2]
    constructor <;> first | rfl | exact fun _ => .refl _ | skip
    intro q
    by_cases e : p = q
    · subst e
      refine .inr ⟨since, h1, h0, ?_, ?_⟩ <;> simp [State.enter, upd_getElem]
    · refine .inl ⟨?_, ?_⟩ <;> simp [State.enter, upd_getElem, e]

/-! ## Books -/

theorem State.redetermine_frame (s : State) (a : Ant) : AllocFrame s (s.redetermine a) := s.setAlloc_frame a _

theorem State.bookMain_frame (s : State) (p : Pos) (a : Ant) (o : Origin) : AllocFrame s (s.bookMain p a o) :=
  ((s.setHold_frame p _).trans (State.setAlloc_frame _ a _)).trans (State.redetermine_frame _ a)

theorem State.unbookHolder_frame (s : State) (a : Ant) : AllocFrame s (s.unbookHolder a) :=
  (s.setAlloc_frame a _).trans (State.redetermine_frame _ a)

theorem State.unbookMain_frame (s : State) (p : Pos) (a : Ant) : AllocFrame s (s.unbookMain p a) :=
  (s.setHold_frame p _).trans (State.unbookHolder_frame _ a)

theorem State.bookListen_frame (s : State) (p : Pos) (a : Ant) (o : Origin) : AllocFrame s (s.bookListen p a o) :=
  (s.setHold_frame p _).trans (State.setAlloc_frame _ a _)

theorem State.leaveList_frame (s : State) (p : Pos) (a : Ant) : AllocFrame s (s.leaveList p a) := s.setAlloc_frame a _

theorem State.unbookListen_frame (s : State) (p : Pos) (a : Ant) : AllocFrame s (s.unbookListen p a) :=
  (s.setHold_frame p _).trans (State.leaveList_frame _ p a)

theorem State.mark_frame (s : State) (p : Pos) (k : Slot) (m : Option Mark) : AllocFrame s (s.mark p k m) :=
  s.setHold_frame p _

theorem State.appendEntry_frame (s : State) (a : Ant) (p : Pos) (k : Slot) (o : Origin) :
    AllocFrame s (s.appendEntry a p k o) :=
  ((s.setHold_frame p _).trans (State.setAlloc_frame _ a _)).trans (State.redetermine_frame _ a)

theorem State.removeEntry_frame (s : State) (a : Ant) (p : Pos) (k : Slot) : AllocFrame s (s.removeEntry a p k) :=
  ((s.setHold_frame p _).trans (State.setAlloc_frame _ a _)).trans (State.redetermine_frame _ a)

theorem State.removePending_frame (s : State) (p : Pos) (k : Slot) : AllocFrame s (s.removePending p k) := by
  unfold State.removePending
  split
  · exact .refl s
  · exact s.removeEntry_frame _ p k

theorem State.claimEntry_frame (s : State) (a : Ant) (p : Pos) (k : Slot) : AllocFrame s (s.claimEntry a p k) :=
  s.setAlloc_frame a _

theorem State.expire_frame (s : State) (a : Ant) (p : Pos) (k : Slot) (c : Cause) : AllocFrame s (s.expire a p k c) :=
  (s.removeEntry_frame a p k).trans (State.notify_frame _ p _)

/-! ## The pending list -/

theorem State.listPut_frame (s : State) (p : Pos) (t : Target) : AllocFrame s (s.listPut p t) := by
  unfold State.listPut
  split <;> exact s.setList_frame _

theorem State.listRemove_frame (s : State) (p : Pos) (a : Ant) : AllocFrame s (s.listRemove p a) := s.setList_frame _

theorem State.moveHolding_frame (s : State) (p : Pos) (k : Slot) (a : Ant) (x y : SwitchState) :
    AllocFrame s (s.moveHolding p k a x y) := by
  unfold State.moveHolding
  split
  · split
    · exact s.setHold_frame p _
    · exact .refl s
  · exact .refl s

theorem State.moveServed_frame (s : State) (p : Pos) (t : Target) (x y : SwitchState) :
    AllocFrame s (s.moveServed p t x y) := by
  unfold State.moveServed
  split
  · exact s.moveHolding_frame p _ _ _ _
  · exact .refl s

theorem State.completeHolding_frame (s : State) (p : Pos) (k : Slot) (a : Ant) (x : SwitchState) :
    AllocFrame s (s.completeHolding p k a x) := by
  unfold State.completeHolding
  split
  · split
    · have := (s.moveHolding_frame p k a x .set).trans (State.notify_frame _ p (.granted k a (by assumption : Holding).origin))
      cases k
      · exact this.trans (State.trySettle_frame _ p)
      · exact this
    · exact .refl s
  · exact .refl s

theorem State.reportAlready_frame (s : State) (p : Pos) (t : Target) : AllocFrame s (s.reportAlready p t) := by
  unfold State.reportAlready
  split
  · exact .refl s
  · split
    · exact s.moveHolding_frame p _ _ _ _
    · exact s.completeHolding_frame p _ _ _

theorem State.addTargets_frame (s : State) (p : Pos) (ts : List Target) : AllocFrame s (s.addTargets p ts) :=
  ((s.each_frame _ _ fun x t => t.listPut_frame p x).trans
    (State.each_frame _ _ _ fun (x : Target) t => t.listRemove_frame p x.ant)).trans
    (State.each_frame _ _ _ fun x t => t.reportAlready_frame p x)

/-- A change set handed over changes the pending list, and at most completes holdings that have nothing to switch
(R103). -/
theorem State.handChangeSet_frame (s : State) (p : Pos) (ts : List Target) : AllocFrame s (s.handChangeSet p ts) := by
  unfold State.handChangeSet
  split
  · exact .refl s
  · exact s.addTargets_frame p ts

/-! ## Releases, grants, hand-overs -/

theorem State.notifyOpt_frame (s : State) (p : Pos) (n : Option Notice) : AllocFrame s (s.notifyOpt p n) := by
  unfold State.notifyOpt
  split
  · exact s.notify_frame p _
  · exact .refl s

theorem State.releaseMain_frame (s : State) (p : Pos) (a : Ant) (n : Option Notice) :
    AllocFrame s (s.releaseMain p a n) :=
  ((s.unbookMain_frame p a).trans (State.handChangeSet_frame _ p _)).trans (State.notifyOpt_frame _ p n)

theorem State.releaseListen_frame (s : State) (p : Pos) (a : Ant) (n : Option Notice) :
    AllocFrame s (s.releaseListen p a n) :=
  ((s.unbookListen_frame p a).trans (State.handChangeSet_frame _ p _)).trans (State.notifyOpt_frame _ p n)

theorem State.unbookOld_frame (s : State) (p : Pos) (k : Slot) (old : Option Ant) : AllocFrame s (s.unbookOld p k old) := by
  unfold State.unbookOld
  split
  · exact .refl s
  · split
    · exact s.unbookHolder_frame _
    · exact s.leaveList_frame p _

theorem State.handOld_frame (s : State) (hand : Ant → State → State) (hh : ∀ a t, AllocFrame t (hand a t))
    (old : Option Ant) : AllocFrame s (s.handOld hand old) := by
  unfold State.handOld
  split
  · exact hh _ s
  · exact .refl s

theorem State.grantListenWith_frame (hand : Ant → State → State) (hh : ∀ a t, AllocFrame t (hand a t)) (p : Pos)
    (a : Ant) (o : Origin) (s : State) : AllocFrame s (State.grantListenWith hand p a o s) :=
  ((((s.bookListen_frame p a o).trans (State.unbookOld_frame _ p .listen _)).trans
    (State.removePending_frame _ p .listen)).trans (State.handChangeSet_frame _ p _)).trans
    (State.handOld_frame _ hand hh _)

theorem State.handListenFuel_frame (n : Nat) (a : Ant) (s : State) : AllocFrame s (State.handListenFuel n a s) := by
  induction n generalizing a s with
  | zero => exact .refl s
  | succ n ih =>
    unfold State.handListenFuel
    split
    · split
      · exact .refl s
      · split
        · exact ((s.removeEntry_frame _ _ _).trans
            (State.grantListenWith_frame _ (fun a t => ih a t) _ _ _ _)).trans (ih _ _)
        · exact (s.expire_frame _ _ _ _).trans (ih _ _)
    · exact .refl s

theorem State.handListen_frame (a : Ant) (s : State) : AllocFrame s (State.handListen a s) :=
  State.handListenFuel_frame _ a s

theorem State.takeUpListen_frame (s : State) (p : Pos) (a : Ant) (b : Bool) : AllocFrame s (s.takeUpListen p a b) := by
  unfold State.takeUpListen
  split
  · exact s.unbookListen_frame p a
  · exact .refl s

theorem State.grantMainWith_frame (hand : Ant → State → State) (hh : ∀ a t, AllocFrame t (hand a t)) (p : Pos)
    (a : Ant) (o : Origin) (s : State) : AllocFrame s (State.grantMainWith hand p a o s) := by
  unfold State.grantMainWith
  dsimp only
  have h4 := (((s.bookMain_frame p a o).trans (State.takeUpListen_frame _ p a (s.alloc[a].listeners.contains p))).trans
    (State.unbookOld_frame _ p .main (s.heldAnt p .main))).trans (State.removePending_frame _ p .main)
  have h5 : ∀ t, AllocFrame s t →
      AllocFrame s (if t.hold[p].pendListen == some a then t.expire a p .listen .ineligible else t) := by
    intro t ht
    split
    · exact ht.trans (t.expire_frame _ _ _ _)
    · exact ht
  have h7 := ((h5 _ h4).trans (State.handChangeSet_frame _ p (grantTargets a .main (s.heldAnt p .main)))).trans
    (State.handOld_frame _ hand hh (s.heldAnt p .main))
  split
  · exact h7.trans (State.handListen_frame a _)
  · exact h7

theorem State.handMainFuel_frame (n : Nat) (a : Ant) (s : State) : AllocFrame s (State.handMainFuel n a s) := by
  induction n generalizing a s with
  | zero => exact .refl s
  | succ n ih =>
    unfold State.handMainFuel
    split
    · exact .refl s
    · split
      · exact .refl s
      · split
        · exact (s.removeEntry_frame _ _ _).trans (State.grantMainWith_frame _ (fun a t => ih a t) _ _ _ _)
        · exact (s.expire_frame _ _ _ _).trans (ih _ _)

theorem State.handMain_frame (a : Ant) (s : State) : AllocFrame s (State.handMain a s) := State.handMainFuel_frame _ a s

theorem State.handSlot_frame (s : State) (k : Slot) (a : Ant) : AllocFrame s (s.handSlot k a) := by
  cases k
  · exact State.handMain_frame a s
  · exact State.handListen_frame a s

theorem State.grantMain_frame (s : State) (p : Pos) (a : Ant) (o : Origin) : AllocFrame s (s.grantMain p a o) :=
  State.grantMainWith_frame _ (fun a t => State.handMain_frame a t) p a o s

theorem State.grantListen_frame (s : State) (p : Pos) (a : Ant) (o : Origin) : AllocFrame s (s.grantListen p a o) :=
  State.grantListenWith_frame _ (fun a t => State.handListen_frame a t) p a o s

theorem State.lose_frame (s : State) (p : Pos) (k : Slot) (n : Ant → Option Notice) : AllocFrame s (s.lose p k n) := by
  unfold State.lose
  split
  · exact .refl s
  · split
    · exact (s.releaseMain_frame _ _ _).trans (State.handSlot_frame _ _ _)
    · exact (s.releaseListen_frame _ _ _).trans (State.handSlot_frame _ _ _)

theorem State.loseFor_frame (s : State) (p : Pos) (k : Slot) (c : Cause) : AllocFrame s (s.loseFor p k c) :=
  s.lose_frame p k _

theorem State.preempt_frame (s : State) (a : Ant) (h w : Pos) : AllocFrame s (s.preempt a h w) :=
  ((s.releaseMain_frame h a _).trans (State.removeEntry_frame _ a w .main)).trans (State.grantMain_frame _ w a _)

theorem State.yieldExpire_frame (s : State) (a : Ant) : AllocFrame s (s.yieldExpire a) := by
  unfold State.yieldExpire
  split
  · split
    · exact s.preempt_frame a _ _
    · exact s.expire_frame _ _ _ _
  · exact .refl s

theorem State.yieldIfDue_frame (s : State) (a : Ant) : AllocFrame s (s.yieldIfDue a) := by
  unfold State.yieldIfDue
  split
  · exact s.yieldExpire_frame a
  · exact .refl s

theorem State.dropMainEffect_frame (s : State) (p : Pos) : AllocFrame s (s.dropMainEffect p) := by
  unfold State.dropMainEffect
  split
  · exact s.removePending_frame p .main
  · exact ((s.releaseMain_frame _ _ _).trans (State.removePending_frame _ p .main)).trans (State.handSlot_frame _ _ _)

theorem State.cancelEffect_frame (s : State) (p : Pos) (x : CancelSlot) : AllocFrame s (s.cancelEffect p x) := by
  cases x
  · exact s.removePending_frame p .main
  · exact s.removePending_frame p .listen
  · exact (s.removePending_frame p .main).trans (State.removePending_frame _ p .listen)

/-! ## Follow and the events of other blocks -/

theorem State.queuePass_frame (s : State) (p : Pos) (k : Slot) (b : Band) : AllocFrame s (s.queuePass p k b) := by
  unfold State.queuePass
  split
  · exact s.notify_frame p _
  · dsimp only
    split
    · exact s.appendEntry_frame _ _ _ _
    · exact ((s.removeEntry_frame _ _ _).trans (State.notify_frame _ p _)).trans (State.appendEntry_frame _ _ _ _ _)

theorem State.followGrant_frame (s : State) (p : Pos) (k : Slot) (a : Ant) : AllocFrame s (s.followGrant p k a) := by
  cases k
  · exact s.grantMain_frame p a .follow
  · exact s.grantListen_frame p a .follow

theorem State.walk_frame (s : State) (p : Pos) (k : Slot) : AllocFrame s (s.walk p k) := by
  unfold State.walk
  split
  · exact .refl s
  · split
    · exact s.followGrant_frame p k _
    · split
      · split
        · exact .refl s
        · exact s.queuePass_frame p k _
      · exact s.queuePass_frame p k _

theorem State.followSlot_frame (s : State) (p : Pos) (k : Slot) : AllocFrame s (s.followSlot p k) := by
  unfold State.followSlot
  split
  · exact s.walk_frame p k
  · exact .refl s

theorem State.followMain_frame (s : State) (p : Pos) : AllocFrame s (s.followMain p) := by
  unfold State.followMain
  dsimp only
  split
  · exact (s.followSlot_frame p .main).trans (State.followSlot_frame _ p .listen)
  · exact s.followSlot_frame p .main

theorem State.followOne_frame (s : State) (p : Pos) (k : Slot) : AllocFrame s (s.followOne p k) := by
  cases k
  · exact s.followMain_frame p
  · exact s.followSlot_frame p .listen

theorem State.recheck_frame (s : State) (p : Pos) (k : Slot) (c : Cause) : AllocFrame s (s.recheck p k c) := by
  unfold State.recheck
  split
  · exact s.loseFor_frame p k c
  · exact .refl s

theorem State.segmentWork_frame (s : State) (p : Pos) (k : Slot) : AllocFrame s (s.segmentWork p k) :=
  (s.recheck_frame p k .segment).trans (State.followOne_frame _ p k)

theorem State.bandRelease_frame (s : State) (p : Pos) (k : Slot) : AllocFrame s (s.bandRelease p k) := by
  unfold State.bandRelease
  split
  · exact s.recheck_frame p k .band
  · exact s.loseFor_frame p k .band

theorem State.editWork_frame (s : State) (p : Pos) (k : Slot) : AllocFrame s (s.editWork p k) := by
  unfold State.editWork
  split
  · exact (s.loseFor_frame p k .edit).trans (State.followOne_frame _ p k)
  · exact .refl s

theorem State.faultWork_frame (s : State) (p : Pos) (k : Slot) (a : Ant) : AllocFrame s (s.faultWork p k a) := by
  unfold State.faultWork
  dsimp only
  split
  · exact (s.loseFor_frame p k .fault).trans (State.followOne_frame _ p k)
  · exact s.followOne_frame p k

theorem State.withdraw_frame (s : State) (p : Pos) (k : Slot) : AllocFrame s (s.withdraw p k) := by
  unfold State.withdraw
  split
  · exact .refl s
  · exact (s.removeEntry_frame _ p k).trans (State.notify_frame _ p _)

theorem State.bandWork_frame (s : State) (p : Pos) : AllocFrame s (s.bandWork p) :=
  (((s.bandRelease_frame p .main).trans (State.bandRelease_frame _ p .listen)).trans
    (State.followSlot_frame _ p .main)).trans (State.followSlot_frame _ p .listen)

theorem State.allocBandChange_frame (s : State) (p : Pos) : AllocFrame s (s.allocBandChange p) := by
  unfold State.allocBandChange
  dsimp only
  have h := (s.withdraw_frame p .main).trans (State.withdraw_frame _ p .listen)
  split
  · exact (h.trans (State.mark_frame _ p .main _)).trans (State.mark_frame _ p .listen _)
  · exact h.trans (State.bandWork_frame _ p)

theorem State.allocSegmentChange_frame (s : State) (p : Pos) (x : Side) : AllocFrame s (s.allocSegmentChange p x) := by
  unfold State.allocSegmentChange
  split
  · exact s.mark_frame p _ _
  · exact s.segmentWork_frame p _

theorem State.keepFaulted_frame (s : State) (p : Pos) (k : Slot) : AllocFrame s (s.keepFaulted p k) :=
  s.setHold_frame p _

theorem State.faultLoss_frame (s : State) (p : Pos) (k : Slot) (a : Ant) : AllocFrame s (s.faultLoss p k a) := by
  unfold State.faultLoss
  split
  · split
    · exact (s.mark_frame p k _).trans (State.keepFaulted_frame _ p k)
    · exact s.faultWork_frame p k a
  · exact .refl s

theorem State.allocFault_frame (s : State) (a : Ant) : AllocFrame s (s.allocFault a) := by
  unfold State.allocFault
  dsimp only
  have h1 := s.each_frame s.alloc[a].queue (fun e x => x.expire a e.pos e.kind .fault)
    fun e t => t.expire_frame a e.pos e.kind .fault
  split
  · exact (h1.trans (State.faultLoss_frame _ _ _ _)).trans
      (State.each_frame _ _ _ fun q t => t.faultLoss_frame q .listen a)
  · exact h1.trans (State.each_frame _ _ _ fun q t => t.faultLoss_frame q .listen a)

theorem State.markWork_frame (s : State) (p : Pos) (k : Slot) (m : Mark) : AllocFrame s (s.markWork p k m) := by
  unfold State.markWork
  split
  · exact (s.bandRelease_frame p k).trans (State.followOne_frame _ p k)
  · exact s.segmentWork_frame p k
  · exact s.faultWork_frame p k _
  · exact s.editWork_frame p k

theorem State.tailSlotWork_frame (s : State) (p : Pos) (k : Slot) : AllocFrame s (s.tailSlotWork p k) := by
  unfold State.tailSlotWork
  split
  · exact .refl s
  · exact (s.markWork_frame p k _).trans (State.mark_frame _ p k _)

theorem State.tailHandOver_frame (s : State) (p : Pos) : AllocFrame s (s.tailHandOver p) := by
  unfold State.tailHandOver
  split
  · split
    · exact State.handMain_frame _ s
    · exact .refl s
  · exact .refl s

theorem State.allocEntry_frame (s : State) (p : Pos) : AllocFrame s (s.allocEntry p) := by
  refine s.each_frame _ _ fun a t => ?_
  split
  · exact t.redetermine_frame a
  · exact .refl t

theorem State.allocLeaving_frame (s : State) (p : Pos) : AllocFrame s (s.allocLeaving p) := by
  unfold State.allocLeaving
  dsimp only
  refine (((s.tailSlotWork_frame p .main).trans (State.tailSlotWork_frame _ p .listen)).trans
    (State.tailHandOver_frame _ p)).trans (State.each_frame _ _ _ fun a t => ?_)
  split
  · exact (t.redetermine_frame a).trans (State.yieldIfDue_frame _ a)
  · exact .refl t

theorem State.dropIneligible_frame (s : State) (a : Ant) : AllocFrame s (s.dropIneligible a) := by
  refine s.each_frame _ _ fun e t => ?_
  split
  · exact .refl t
  · exact t.expire_frame a _ _ _

theorem State.revalidateSlot_frame (s : State) (p : Pos) (k : Slot) : AllocFrame s (s.revalidateSlot p k) := by
  unfold State.revalidateSlot
  split
  · split
    · exact s.mark_frame p k _
    · exact s.editWork_frame p k
  · exact .refl s

theorem State.revalidateHand_frame (s : State) (a : Ant) : AllocFrame s (s.revalidateHand a) := by
  unfold State.revalidateHand
  dsimp only
  have h : ∀ t, AllocFrame s t →
      AllocFrame s (if t.hasListenRoom a && !(t.arbitration a .listen).isEmpty then State.handListen a t else t) := by
    intro t ht
    split
    · exact ht.trans (State.handListen_frame a t)
    · exact ht
  split
  · exact h _ (State.handMain_frame a s)
  · exact h _ (.refl s)

/-- A revalidation stays within allocation's own records (R179). -/
theorem State.revalidate_frame (s : State) : AllocFrame s s.revalidate :=
  ((s.each_frame allAnts (fun a x => x.dropIneligible a) fun a t => t.dropIneligible_frame a).trans
    (State.each_frame _ allPos (fun p x => (x.revalidateSlot p .main).revalidateSlot p .listen) fun p t =>
      (t.revalidateSlot_frame p .main).trans (State.revalidateSlot_frame _ p .listen))).trans
    (State.each_frame _ allAnts (fun a x => x.revalidateHand a) fun a t => t.revalidateHand_frame a)

theorem State.allocPark_frame (s : State) (p : Pos) : AllocFrame s (s.allocPark p) := by
  unfold State.allocPark
  dsimp only
  have hm : ∀ (m : Option Ant) (t : State), AllocFrame s t →
      AllocFrame s (m.elim t fun a => t.releaseMain p a (some (.released .main a .edit))) := by
    intro m t h; cases m with
    | none => exact h
    | some a => exact h.trans (t.releaseMain_frame p a _)
  have hl : ∀ (m : Option Ant) (t : State), AllocFrame s t →
      AllocFrame s (m.elim t fun a => t.releaseListen p a (some (.released .listen a .edit))) := by
    intro m t h; cases m with
    | none => exact h
    | some a => exact h.trans (t.releaseListen_frame p a _)
  have hs : ∀ (k : Slot) (m : Option Ant) (t : State), AllocFrame s t →
      AllocFrame s (m.elim t fun a => t.handSlot k a) := by
    intro k m t h; cases m with
    | none => exact h
    | some a => exact h.trans (t.handSlot_frame k a)
  exact hs _ _ _ (hs _ _ _ (((hl _ _ (hm _ _ (.refl s))).trans (State.removePending_frame _ p .main)).trans
    (State.removePending_frame _ p .listen)))

theorem State.redetermineAll_frame (s : State) : AllocFrame s s.redetermineAll :=
  s.each_frame allAnts _ fun a t => t.redetermine_frame a

theorem State.allocYieldTime_frame (s : State) : AllocFrame s s.allocYieldTime :=
  s.redetermineAll_frame.trans (State.each_frame _ allAnts _ fun a t => t.yieldIfDue_frame a)

theorem State.allocWaitLimit_frame (s : State) : AllocFrame s s.allocWaitLimit :=
  s.each_frame allAnts _ fun a t => t.each_frame _ _ fun e x => x.expire_frame a e.pos e.kind .wait

theorem State.allocCapacity_frame (s : State) (a : Ant) (x y : Nat) : AllocFrame s (s.allocCapacity a x y) := by
  unfold State.allocCapacity
  split
  · exact State.handListen_frame a s
  · split
    · exact s.each_frame _ _ fun e t => t.expire_frame a e.pos .listen .ineligible
    · exact .refl s

end Sys2Proof.Machine
end

