-- ==== Sys2Proof/Laws/Quiet.lean ====
section
/-! SUPPORT. What the crosspoint driver, the key sequencer and receiver protection leave alone: one relation, and that
every operation of Protection, Keying, Crosspoint and Sequencer stays within it. -/

namespace Sys2Proof.Machine

/-- What the driver, the sequencers and receiver protection leave alone: the time base, the waiting commands, the
configuration and the store, the lines, the band units, the monitor switch, the protect flags, and the receive sides of the
links. -/
structure QuietFrame (s t : State) : Prop where
  powered : t.powered = s.powered
  now : t.now = s.now
  freeIx : s.freeIx ≤ t.freeIx
  pending : t.pending = s.pending
  cfg : t.cfg = s.cfg
  store : t.store = s.store
  sam : t.sam = s.sam
  bands : t.bands = s.bands
  monitor : t.monitor = s.monitor
  flags : ∀ p : Pos, t.prot[p].flag = s.prot[p].flag
  links : ∀ l : Link, LinkGrow s.links[l] t.links[l]

namespace QuietFrame

theorem refl (s : State) : QuietFrame s s := by
  constructor <;> first | rfl | exact Nat.le_refl _ | exact fun _ => rfl | exact fun _ => .refl _

theorem trans {s t u : State} (h : QuietFrame s t) (k : QuietFrame t u) : QuietFrame s u where
  powered := k.powered.trans h.powered
  now := k.now.trans h.now
  freeIx := h.freeIx.trans k.freeIx
  pending := k.pending.trans h.pending
  cfg := k.cfg.trans h.cfg
  store := k.store.trans h.store
  sam := k.sam.trans h.sam
  bands := k.bands.trans h.bands
  monitor := k.monitor.trans h.monitor
  flags := fun p => (k.flags p).trans (h.flags p)
  links := fun l => (h.links l).trans (k.links l)

end QuietFrame

/-- Allocation stays within it. -/
theorem AllocFrame.quiet {s t : State} (h : AllocFrame s t) : QuietFrame s t where
  powered := h.powered
  now := h.now
  freeIx := h.freeIx.ge
  pending := h.pending
  cfg := h.cfg
  store := h.store
  sam := h.sam
  bands := h.bands
  monitor := h.monitor
  flags := fun p => by rw [h.prot]
  links := h.links

theorem State.each_quiet {α : Type} (s : State) (xs : List α) (f : α → State → State)
    (h : ∀ x t, QuietFrame t (f x t)) : QuietFrame s (s.each xs f) :=
  State.each_rel QuietFrame .refl (fun a b => a.trans b) xs f h s

/-! ## Primitives -/

theorem LinksGrow.quiet {s t : State} (h : LinksGrow s t) : QuietFrame s t := h.frame.quiet

theorem State.notify_quiet (s : State) (p : Pos) (n : Notice) : QuietFrame s (s.notify p n) := (s.notify_grow p n).quiet

theorem State.offer_quiet (s : State) (l : Link) (f : Frame) : QuietFrame s (s.offer l f) := (s.offer_grow l f).quiet

theorem State.answer_quiet (s : State) (l : Link) (k : BitVec 7) (r : Result) : QuietFrame s (s.answer l k r) :=
  (s.answer_grow l k r).quiet

theorem State.setOut_quiet (s : State) (p : Pos) (x : Outputs) : QuietFrame s (s.setOut p x) := by
  constructor <;> first | rfl | exact Nat.le_refl _ | exact fun _ => rfl | exact fun _ => .refl _

theorem State.setSeq_quiet (s : State) (p : Pos) (x : SeqState) : QuietFrame s (s.setSeq p x) := by
  constructor <;> first | rfl | exact Nat.le_refl _ | exact fun _ => rfl | exact fun _ => .refl _

theorem State.setSpan_quiet (s : State) (p : Pos) (x : Option KeySpan) : QuietFrame s (s.setSpan p x) := by
  constructor <;> first | rfl | exact Nat.le_refl _ | exact fun _ => rfl | exact fun _ => .refl _

theorem State.setDrv_quiet (s : State) (d : Driver) : QuietFrame s (s.setDrv d) := by
  constructor <;> first | rfl | exact Nat.le_refl _ | exact fun _ => rfl | exact fun _ => .refl _

theorem State.enter_quiet (s : State) (p : Pos) (q : SeqState) : QuietFrame s (s.enter p q) :=
  (s.setSeq_quiet p q).trans (State.setOut_quiet _ p _)

/-- A cause set replaced by one with the same protect flag. -/
theorem State.setCauses_quiet (s : State) (v : Pos) (x : Protection) (h : x.flag = s.prot[v].flag) :
    QuietFrame s (s.setCauses v x) := by
  refine QuietFrame.trans ?_ (State.setOut_quiet _ v _)
  constructor <;> first | rfl | exact fun _ => .refl _ | skip
  intro p
  rw [State.setProt_prot, upd_get]
  split
  · next e => rw [h, e]
  · rfl

theorem State.recomputeBlank_quiet (s : State) : QuietFrame s s.recomputeBlank :=
  State.each_keeps (QuietFrame s) allPos _
    (fun v t _ h => h.trans (t.setCauses_quiet v (s.dueOn v) (h.flags v).symm)) s (.refl s)

/-! ## The crosspoint driver -/

theorem State.setXp_quiet (s : State) (p : Pos) (a : Ant) (x : Crosspoint) : QuietFrame s (s.setXp p a x) :=
  s.setDrv_quiet _

theorem State.setFilter_quiet (s : State) (p : Pos) (x : FilterState) : QuietFrame s (s.setFilter p x) := s.setDrv_quiet _

theorem State.beginClosing_quiet (s : State) (c : ChangeSet) : QuietFrame s (s.beginClosing c) :=
  (s.setDrv_quiet _).trans (State.each_quiet _ _ _ fun x t => t.setXp_quiet c.pos x.ant _)

theorem State.afterOpening_quiet (s : State) (c : ChangeSet) : QuietFrame s (s.afterOpening c) := by
  unfold State.afterOpening
  split
  · exact s.setDrv_quiet _
  · split
    · exact s.beginClosing_quiet c
    · exact s.setDrv_quiet _

theorem State.startSet_quiet (s : State) (p : Pos) (ts : List Target) : QuietFrame s (s.startSet p ts) := by
  unfold State.startSet
  dsimp only
  have h1 : ∀ xs : List OpenedXp, ∀ u, QuietFrame s u →
      QuietFrame s (u.each xs fun o x => x.command p ⟨o.ant, .opened⟩) := fun xs u h =>
    h.trans (u.each_quiet xs _ fun o t => t.setXp_quiet p o.ant _)
  have h2 : ∀ u, QuietFrame s u → QuietFrame s (u.each ts fun g x => x.moveServed p g .awaiting .switching) :=
    fun u h => h.trans (u.each_quiet ts _ fun g t => (t.moveServed_frame p g _ _).quiet)
  split
  · exact (h2 _ (h1 _ _ (s.setDrv_quiet _))).trans (State.afterOpening_quiet _ _)
  · exact h2 _ (h1 _ _ (s.setDrv_quiet _))

theorem State.startFirst_quiet (s : State) : QuietFrame s s.startFirst := by
  unfold State.startFirst
  split
  · exact .refl s
  · exact (s.setDrv_quiet _).trans (State.startSet_quiet _ _ _)

theorem State.dropClosings_quiet (s : State) (a : Ant) : QuietFrame s (s.dropClosings a) :=
  (s.setDrv_quiet _).trans (State.setDrv_quiet _ _)

theorem State.faultOpening_quiet (s : State) (a : Ant) : QuietFrame s (s.faultOpening a) :=
  s.each_quiet allPos _ fun q t => by
    split
    · exact (t.addTargets_frame q _).quiet
    · exact .refl t

theorem State.setFault_quiet (s : State) (a : Ant) (b : Bool) : QuietFrame s (s.setFault a b) := s.setDrv_quiet _

/-- A fault event is taken alone, or together with a yield expiry that is due, in one of the two orders (R84). -/
theorem State.takeFault_cases (s : State) (a : Ant) :
    (s.yieldDue a = false ∧ s.takeFault a = s.allocFault a) ∨
      (s.yieldDue a = true ∧ (s.takeFault a = { s with freeIx := s.freeIx + 1 }.allocFault a ∨
        s.takeFault a = ({ s with freeIx := s.freeIx + 1 }.yieldExpire a).allocFault a)) := by
  unfold State.takeFault
  cases s.yieldDue a <;> cases Config.expiryFirst s.freeIx <;> simp

/-- A fault event taken moves the counter of free values on at most, beside what allocation does. -/
theorem State.takeFault_quiet (s : State) (a : Ant) : QuietFrame s (s.takeFault a) := by
  have moved : QuietFrame s { s with freeIx := s.freeIx + 1 } := by
    constructor <;> first | rfl | exact Nat.le_succ _ | exact fun _ => rfl | exact fun _ => .refl _
  obtain ⟨-, h⟩ | ⟨-, h | h⟩ := s.takeFault_cases a <;> rw [h]
  · exact (s.allocFault_frame a).quiet
  · exact moved.trans (State.allocFault_frame _ a).quiet
  · exact moved.trans ((State.yieldExpire_frame _ a).trans (State.allocFault_frame _ a)).quiet

theorem State.relayFault_quiet (s : State) (p : Pos) (a : Ant) (f : Finding) : QuietFrame s (s.relayFault p a f) := by
  unfold State.relayFault
  dsimp only
  split
  · exact ((s.offer_quiet _ _).trans (State.dropClosings_quiet _ a)).trans (State.faultOpening_quiet _ a)
  · exact (((((s.offer_quiet _ _).trans (State.setFault_quiet _ a true)).trans
      (State.each_quiet _ _ _ fun q t => t.offer_quiet _ _)).trans (State.dropClosings_quiet _ a)).trans
      (State.faultOpening_quiet _ a)).trans (State.takeFault_quiet _ a)

theorem State.relayFaults_quiet (s : State) (p : Pos) (xs : List Ant) (f : Finding) :
    QuietFrame s (s.relayFaults p xs f) := s.each_quiet xs _ fun a t => t.relayFault_quiet p a f

theorem State.returnClosings_quiet (s : State) (p : Pos) (ts : List Target) : QuietFrame s (s.returnClosings p ts) :=
  (s.each_quiet ts _ fun x t => (t.moveServed_frame p x _ _).quiet).trans (State.addTargets_frame _ p _).quiet

theorem State.endOpening_quiet (s : State) (c : ChangeSet) : QuietFrame s (s.endOpening c) := by
  unfold State.endOpening
  dsimp only
  split
  · exact s.afterOpening_quiet c
  · exact ((s.setDrv_quiet _).trans (State.returnClosings_quiet _ c.pos _)).trans (State.relayFaults_quiet _ _ _ _)

theorem State.endClosing_quiet (s : State) (c : ChangeSet) : QuietFrame s (s.endClosing c) := by
  unfold State.endClosing
  dsimp only
  refine ((s.setDrv_quiet _).trans (State.each_quiet _ _ _ fun x t => ?_)).trans (State.relayFaults_quiet _ _ _ _)
  split
  · exact (t.completeHolding_frame _ _ _ _).quiet
  · exact .refl t

theorem State.startFilter_quiet (s : State) (p : Pos) : QuietFrame s (s.startFilter p) := by
  unfold State.startFilter
  dsimp only
  split
  · exact .refl s
  all_goals
    split
    · exact s.setFilter_quiet p _
    · split
      · exact s.setFilter_quiet p _
      · exact s.setFilter_quiet p _

theorem State.reselect_quiet (s : State) (p : Pos) : QuietFrame s (s.reselect p) :=
  (s.setFilter_quiet p _).trans (State.startFilter_quiet _ p)

theorem State.beginPending_quiet (s : State) (p : Pos) : QuietFrame s (s.beginPending p) := by
  unfold State.beginPending
  split
  · exact s.setFilter_quiet p _
  · exact .refl s

theorem State.endFilter_quiet (s : State) (p : Pos) : QuietFrame s (s.endFilter p) := by
  unfold State.endFilter
  split
  · split
    · exact ((s.setFilter_quiet p _).trans (State.startFilter_quiet _ p)).trans (State.trySettle_frame _ p).quiet
    · exact .refl s
  all_goals exact .refl s

theorem State.endRelease_quiet (s : State) : QuietFrame s s.endRelease :=
  ((s.each_quiet allPos (fun p x => x.relayFaults p (allAnts.filter fun a => (s.xp p a).closed) .opening)
    fun p t => t.relayFaults_quiet p _ .opening).trans (State.setDrv_quiet _ _)).trans
    (State.each_quiet _ allPos (fun p x => x.reselect p) fun p t => t.reselect_quiet p)

/-! ## The key sequencer -/

theorem State.leaving_quiet (s : State) (p : Pos) : QuietFrame s (s.leaving p) :=
  (((s.setSpan_quiet p none).trans (State.allocLeaving_frame _ p).quiet).trans (State.beginPending_quiet _ p)).trans
    (State.recomputeBlank_quiet _)

theorem State.entering_quiet (s : State) (p : Pos) : QuietFrame s (s.entering p) :=
  (s.allocEntry_frame p).quiet.trans (State.recomputeBlank_quiet _)

theorem State.lockOut_quiet (s : State) (p : Pos) (c : LockCause) : QuietFrame s (s.lockOut p c) :=
  (s.enter_quiet p _).trans (State.notify_quiet _ p _)

theorem State.lockNotice_quiet (s : State) (p : Pos) (q : SeqState) : QuietFrame s (s.lockNotice p q) := by
  cases q <;> first | exact s.notify_quiet p _ | exact .refl s

theorem State.endSpan_quiet (s : State) (p : Pos) (c : EndCause) (k : Nat) (q : SeqState) :
    QuietFrame s (s.endSpan p c k q) :=
  (((s.enter_quiet p q).trans (State.leaving_quiet _ p)).trans (State.notify_quiet _ p _)).trans
    (State.lockNotice_quiet _ p q)

theorem State.endTail_quiet (s : State) (p : Pos) (c : TailCause) (pend : Option LockCause) (k : Nat) :
    QuietFrame s (s.endTail p c pend k) := s.endSpan_quiet p _ k _

theorem State.enterTail_quiet (s : State) (p : Pos) (c : TailCause) (pend : Option LockCause) :
    QuietFrame s (s.enterTail p c pend) := by
  unfold State.enterTail
  dsimp only
  split
  · exact (s.enter_quiet p _).trans (State.endTail_quiet _ p c pend _)
  · exact s.enter_quiet p _

theorem State.enterSettling_quiet (s : State) (p : Pos) (k : KeySpan) : QuietFrame s (s.enterSettling p k) :=
  (((s.setSpan_quiet p _).trans (State.enter_quiet _ p _)).trans (State.entering_quiet _ p)).trans
    (State.trySettle_frame _ p).quiet

theorem State.seqPtt_quiet (s : State) (p : Pos) (b : Bool) : QuietFrame s (s.seqPtt p b) := by
  have tail : QuietFrame s (if b then s else s.enterTail p .release none) := by
    split
    · exact .refl s
    · exact s.enterTail_quiet p _ _
  unfold State.seqPtt
  split
  · split
    · split
      · exact s.enterSettling_quiet p _
      · exact (s.enter_quiet p _).trans (State.notify_quiet _ p _)
    · exact .refl s
  · exact tail
  · exact tail
  · split
    · exact .refl s
    · exact s.enter_quiet p _
  all_goals exact .refl s

theorem State.seqRfs_quiet (s : State) (p : Pos) (b : Bool) : QuietFrame s (s.seqRfs p b) := by
  unfold State.seqRfs
  split
  · split
    · exact s.lockOut_quiet p _
    · exact s.lockOut_quiet p _
    · exact s.enterTail_quiet p _ _
    all_goals exact .refl s
  · exact .refl s

theorem State.seqBandChange_quiet (s : State) (p : Pos) : QuietFrame s (s.seqBandChange p) := by
  unfold State.seqBandChange
  split
  all_goals first | exact s.enterTail_quiet p _ _ | exact .refl s

theorem State.seqKeyLine_quiet (s : State) (p : Pos) : QuietFrame s (s.seqKeyLine p) := by
  unfold State.seqKeyLine
  split
  · exact s.lockOut_quiet p _
  · exact s.lockOut_quiet p _
  · exact s.endSpan_quiet p _ _ _
  · exact s.endSpan_quiet p _ _ _
  · exact s.endSpan_quiet p _ _ _
  · split
    · exact .refl s
    · exact s.lockOut_quiet p _
  · exact .refl s

theorem State.keyLimit_quiet (s : State) (p : Pos) : QuietFrame s (s.keyLimit p) := by
  unfold State.keyLimit
  split
  · split
    · exact s.enterTail_quiet p _ _
    · exact .refl s
  all_goals exact .refl s

theorem State.tailLimit_quiet (s : State) (p : Pos) : QuietFrame s (s.tailLimit p) := by
  unfold State.tailLimit
  split
  · split
    · exact s.endTail_quiet p _ _ _
    · exact .refl s
  all_goals exact .refl s

theorem State.seqSettings_quiet (s : State) (p : Pos) : QuietFrame s (s.seqSettings p) := by
  unfold State.seqSettings
  split
  · exact (s.trySettle_frame p).quiet
  · exact s.keyLimit_quiet p
  · exact s.tailLimit_quiet p
  all_goals exact .refl s

end Sys2Proof.Machine
end

