-- ==== Sys2Proof/WellFormed.lean ====
section
/-! DEFINITION. Which commands can occur: the checks that the operand types do not already make. -/

namespace Sys2Proof

/-- A command that can occur. A received character has a confirmed start and a good stop bit (R165), the check
character of a frame is unmarked as well (R167), and a request body has at most 24 characters (R167). -/
def Instr.wellFormed (i : Instr) : Bool :=
  match i with
  | .characterReceived _ c => c.started && c.stopped
  | .frameReceived _ c => c.started && c.stopped && !c.marked
  | .configRead body => body.length ≤ Config.bodyLength
  | .powerOn | .resetEvent | .resetRelease | .pttChange _ | .rfsChange _ | .editChange | .bandCodeEvent _
  | .keyLineFault _ | .freq _ _ _ | .freshnessExpiry _ | .dwellExpiry _ _ | .selectMain _ _ _
  | .selectListen _ _ _ | .dropMain _ | .dropListen _ | .cancel _ _ | .waitExpiry _ _ | .yieldExpiry _
  | .changeSetStart | .openingPhaseEnd _ | .closingPhaseStart _ | .closingPhaseEnd _
  | .crosspointWatchFault _ _ | .contactSenseChange _ _ _ | .faultClear _ | .filterSwitchBegin _
  | .filterSwitchEnd _ | .releaseDelayExpiry | .releaseOpeningEnd | .amplifierSettleExpiry _
  | .keyTimeLimitExpiry _ | .tailEnd _ | .clear _ | .protect _ _ | .framingError _ | .frameGapTimeout _
  | .frameTaken _ | .frameSent _ | .divisorApplied _ | .monitor _ | .queryPosition _ _ _
  | .queryAntenna _ _ _ | .queryLink _ _ | .status _ | .writeAntennaRecord _ _ | .writeSegmentMapEntry _ _ _
  | .writePreferenceList _ _ _ _ | .writePositionSettings _ _ | .writeBandSettings _ _
  | .writeStationSettings _ _ | .writeInterlockRule _ _ | .writeLinkDivisor _ _ | .save | .saveEnd | .restart
  | .samplingInstant _ | .lossOfPower => true

end Sys2Proof
end

