-- ==== Sys2Proof/Tests/Slice0.lean ====
section
/-! SUPPORT. Tests of the model on the spec's own worked examples, the well-formedness checks, and, for every obligation
with hypotheses, a state and operands that meet them. -/

namespace Sys2Proof.Tests

open Sys2Proof.Machine

/-! ## The six-antenna station of Chapter 3 -/

/-- The antenna records of the example station. -/
def ants : Vector AntennaRecord 20 :=
  upd (upd (upd (upd (upd (upd Cfg.factory.ants 0 ⟨true, 0b001000, .txrx, 2, 20, 1⟩) 1 ⟨true, 0b001000, .txrx, 2, 20, 1⟩)
    2 ⟨true, 0b111000, .txrx, 1, 25, 2⟩) 3 ⟨true, 0b010000, .txrx, 2, 20, 2⟩) 4 ⟨true, 0b000010, .txrx, 1, 30, 0⟩)
    5 ⟨true, 0b000011, .rxonly, 4, 10, 0⟩

/-- The segment map entries that the example gives; the others name no antenna. -/
def segMap : Vector (Vector MapEntry 16) 6 :=
  let b4 := upd (upd (upd (upd Cfg.factory.segMap[3] 0 ⟨.transmit, 0b111, 0b111⟩) 1 ⟨.transmit, 0b111, 0b111⟩)
    8 ⟨.transmit, 0b100, 0b111⟩) 15 ⟨.listen, 0b100, 0b100⟩
  let b2 := upd (upd Cfg.factory.segMap[1] 0 ⟨.solo, 0b10000, 0b110000⟩) 9 ⟨.transmit, 0b10000, 0b110000⟩
  upd (upd Cfg.factory.segMap 3 b4) 1 b2

/-- The example station, every position ACTIVE, P1 and P5 of class RUN, the station limit 3, the default segment of B4
S1. -/
def cfg : Cfg :=
  { Cfg.factory with
    ants := ants
    segMap := segMap
    pos := Vector.ofFn fun p : Pos => { Cfg.factory.pos[p] with parked := false, cls := if p = 0 ∨ p = 4 then .run else .mult }
    bands := upd Cfg.factory.bands 3 ⟨1, 1, .blank, 3000⟩
    station := ⟨3, 2, 300, 60⟩ }

/-- A band unit on VALID of a band, both sides at one segment. -/
def onBand (b : Band) (tx rx : Seg) : BandUnit := ⟨.band b, .valid b, none, some tx, some rx, some tx, some rx, none, none⟩

/-- Every position in IDLE on VALID(B4) at S1, at 1,000 ms, with the EDIT gate open. -/
def unit : State :=
  { State.reset with
    now := 1000
    cfg := cfg
    seqs := Vector.replicate 6 .idle
    bands := Vector.replicate 6 (onBand 3 1 1)
    sam := { State.reset.sam with edit := ⟨.active, [true, true, true]⟩ } }

/-- A grant of an antenna, SET. -/
def setOn (a : Ant) : Option Holding := some ⟨a, .set, .operator, false⟩

/-- The contention example of Chapter 4 after its event 4: P1 holds A1, P2 A2 and P3 A3 as mains, P3 listens on A1 and P5 on
A2, and P3 and P5 wait for A1. -/
def contention : State :=
  { unit with
    alloc := upd (upd (upd unit.alloc 0 ⟨some 0, [2], [⟨2, .main, .operator, 900⟩, ⟨4, .main, .operator, 950⟩], .stopped⟩)
      1 ⟨some 1, [4], [], .stopped⟩) 2 ⟨some 2, [], [], .stopped⟩
    hold := upd (upd (upd (upd unit.hold 0 ⟨setOn 0, none, none, none, none, none⟩) 1 ⟨setOn 1, none, none, none, none, none⟩)
      2 ⟨setOn 2, setOn 0, some 0, none, none, none⟩) 4 ⟨none, setOn 1, some 0, none, none, none⟩
    drv := { unit.drv with
      xps := upd (upd (upd (upd unit.drv.xps 0 (upd unit.drv.xps[0] 0 ⟨.main, true, none⟩))
        1 (upd unit.drv.xps[1] 1 ⟨.main, true, none⟩))
        2 (upd (upd unit.drv.xps[2] 2 ⟨.main, true, none⟩) 0 ⟨.listen, true, none⟩))
        4 (upd unit.drv.xps[4] 1 ⟨.listen, true, none⟩) } }

/-- A position keyed since 900 ms on a band, its outputs and key-span record with it. -/
def keyed (s : State) (p : Pos) (b : Band) : State :=
  ((s.setSeq p (.keyed 900)).setSpan p (some ⟨b, false⟩)).setOut p ⟨true, true, false, false⟩

/-- The state after a command, for commands that answer a next state. -/
def ran (c : Instr) (s : State) : State :=
  match exec c s with
  | .next t => t
  | .fault _ | .refused _ => s

/-! ## Well-formedness refuses -/

/-- A character whose every sample is the vote of its bit. -/
def chars (x : Byte) (marked : Bool) : CharSamples :=
  ⟨0, Vector.ofFn fun i : Fin 8 => if x.getLsbD i.val then 7 else 0, if marked then 7 else 0, 7⟩

theorem test_wellFormed_false_start : (Instr.characterReceived 0 { chars 5 false with start := 7 }).wellFormed = false := by
  decide

theorem test_wellFormed_bad_stop : (Instr.characterReceived 0 { chars 5 false with stop := 1 }).wellFormed = false := by decide

theorem test_wellFormed_marked_check : (Instr.frameReceived 0 (chars 5 true)).wellFormed = false := by decide

theorem test_wellFormed_long_body : (Instr.configRead (List.replicate 25 1)).wellFormed = false := by decide

theorem test_wellFormed_accepts :
    (Instr.characterReceived 0 (chars 5 true)).wellFormed = true ∧ (Instr.frameReceived 0 (chars 5 false)).wellFormed = true ∧
      (Instr.configRead (List.replicate 24 1)).wellFormed = true := by decide

theorem test_no_word_is_a_command : decodeTableWord 8 7 = none := by decide

theorem test_withFetchWord_leaves_queue : (unit.withFetchWord 8 7) = unit := by rfl

theorem test_step_idles : step unit = .next unit := by rfl

/-! ## Worked examples of the spec -/

/-- Chapter 1: the noisy push-to-talk is accepted at the third sample of the three shown. -/
theorem test_noisy_ptt :
    let x : Line := ⟨.inactive, [false, false, false]⟩
    (x.sample true).change = none ∧ ((x.sample true).sample false).change = none ∧
      (((x.sample true).sample false).sample true).change = some true := by decide

/-- Chapter 1: the turning band switch restarts the settle at 1004 and is accepted at 1054. -/
theorem test_band_switch :
    nextCandidate (some 4) (some ⟨7, 1003, false⟩) 5 1004 50 = some ⟨5, 1004, false⟩ ∧
      nextCandidate (some 4) (some ⟨5, 1004, false⟩) 5 1053 50 = some ⟨5, 1004, false⟩ ∧
      nextCandidate (some 4) (some ⟨5, 1004, false⟩) 5 1054 50 = some ⟨5, 1004, true⟩ ∧
      nextCandidate (some 4) (some ⟨5, 1004, false⟩) 4 1020 50 = none := by decide

/-- Chapter 2: the segment table. -/
theorem test_segments :
    segOfFreq 1 3531249 = 0 ∧ segOfFreq 1 3531250 = 1 ∧ segOfFreq 1 3795000 = 9 ∧ segOfFreq 1 4000000 = 15 ∧
      segOfFreq 3 14021874 = 0 ∧ segOfFreq 3 14025000 = 1 ∧ segOfFreq 3 14200000 = 9 ∧ segOfFreq 5 28400000 = 3 ∧
      bandOfFreq 14360000 = none ∧ bandOfFreq 14350000 = some 3 := by decide

/-- Chapter 3: P2 transmitting in S8 and listening in S0. -/
theorem test_eligibility_split :
    let s := unit.setBandUnit 1 (onBand 3 8 0)
    (allAnts.filter fun a => s.mainElig a 1) = [2] ∧ (allAnts.filter fun a => s.listenElig a 1) = [0, 1, 2] := by decide

/-- The answer to a write. -/
def writeResult (s : State) (w : WriteItem) : Result := (s.writeRequest (some w)).1

/-- Chapter 3: the five writes. -/
theorem test_five_writes :
    writeResult unit (.antenna 3 ⟨1, 0b111000, 1, 1, 25, 2⟩) = .invalid ∧
      writeResult unit (.antenna 2 ⟨1, 0, 0, 2, 20, 1⟩) = .invalid ∧
      writeResult unit (.mapEntry 2 9 ⟨0, 0b110000, 0b110000⟩) = .invalid ∧
      writeResult unit (.antenna 6 ⟨1, 0b000011, 1, 0, 10, 0⟩) = .invalid ∧
      writeResult (unit.setAlloc 0 ⟨none, [2, 4], [], .stopped⟩) (.antenna 1 ⟨1, 0b001000, 0, 1, 20, 1⟩) = .inUse := by
  decide +kernel

/-- Chapter 4: event 5 of the contention example grants P5, and P3 still waits. -/
theorem test_drop_hands_over :
    let t := ran (.dropMain 0) contention
    t.alloc[(0 : Ant)].holder = some 4 ∧ t.hold[(4 : Pos)].main = some ⟨0, .awaiting, .operator, false⟩ ∧
      t.hold[(0 : Pos)].main = none ∧ (t.alloc[(0 : Ant)].queue.map (·.pos)) = [2] ∧
      t.links[(0 : Link)].queue = [answerFrame 3 .done] := by decide +kernel

/-- Chapter 4: event 7, with P3 in S8: its entry ends with the cause INELIGIBLE and A1 is free. -/
theorem test_hand_over_ineligible :
    let s := contention.setBandUnit 2 (onBand 3 8 1)
    let s := { s with alloc := upd s.alloc 0 ⟨some 0, [2], [⟨2, .main, .operator, 900⟩], .stopped⟩ }
    let t := ran (.dropMain 0) (s.setHold 4 ⟨none, setOn 1, none, none, none, none⟩)
    t.alloc[(0 : Ant)].holder = none ∧ t.alloc[(0 : Ant)].queue = [] ∧
      t.links[(2 : Link)].queue = [noticeFrame 2 (.expired .main 0 .ineligible)] := by decide +kernel

/-- Chapter 5: RUN waiters come first in arbitration order. -/
theorem test_arbitration : (contention.arbitration 0 .main).map (·.pos) = [4, 2] := by decide

/-- Chapter 8: the tail ends in IDLE with the key time that the transmission had, and in DENIED after a timeout. -/
theorem test_tail_ends :
    let s := { (keyed unit 0 3).setSeq 0 (.tail .release none 4000 4025) with now := 4045 }
    let t := ran (.tailEnd 0) s
    t.seqs[(0 : Pos)] = .idle ∧
      t.links[(0 : Link)].queue = [noticeFrame 0 (.keyEnded (.tail .release) 4000 .idle)] := by decide +kernel

/-- The three rules of the chain example of Chapter 9. -/
def chain : State :=
  unit.setCfg { cfg with
    rules := upd (upd (upd cfg.rules 0 ⟨true, 63, 0b000001, 63, 0b000010, false, true, .deny⟩)
      2 ⟨true, 0b010001, 63, 63, 63, true, false, .link⟩) 3 ⟨true, 0b101110, 63, 0b101110, 63, false, true, .deny⟩ }

/-- Chapter 9: the five cases of the chain of rules. -/
theorem test_chain_of_rules :
    (keyed chain 2 4).denyingRule 1 3 = some 3 ∧ (keyed (keyed chain 2 4) 0 5).denyingRule 1 3 = none ∧
      (keyed chain 2 4).denyingRule 4 3 = none ∧ (keyed (keyed chain 5 0) 0 3).denyingRule 3 1 = some 0 ∧
      (keyed chain 5 0).denyingRule 0 1 = none := by decide +kernel

/-- The denial of a key decision, none if it accepts. -/
def denial (s : State) (p : Pos) : Option Denial :=
  match s.keyDecision p with
  | .ok _ => none
  | .error d => some d

/-- Chapter 9: P5 on B4 is denied BAND-BUSY while P1 is keyed there, and P4 on the SOLO entry of B2 is denied SOLO. -/
theorem test_presses :
    let s := (keyed contention 0 3).setHold 3 ⟨setOn 4, none, none, none, none, none⟩
    denial (s.setHold 4 ⟨setOn 2, none, none, none, none, none⟩) 4 = some .bandBusy ∧
      denial (s.setBandUnit 3 (onBand 1 0 0)) 3 = some .solo := by decide +kernel

/-- Chapter 10: the harmonic cases. -/
theorem test_harmonics :
    harmonicTest 7025000 14052000 3000 = true ∧ harmonicTest 3512000 14052000 3000 = true ∧
      harmonicTest 7010000 21039000 3000 = true ∧ harmonicTest 14025000 28060000 4000 = false ∧
      harmonicTest 21030000 28050000 4000 = false ∧ harmonicTest 3505000 21030000 3000 = false ∧
      harmonicTest 1830000 3660000 2000 = true ∧ harmonicTest 1830000 3660000 0 = false := by decide

/-- A fresh report of an RX frequency alone, held on a band. -/
def heard (b : Band) (f : Nat) : BandUnit := { onBand b 1 1 with report := some ⟨f, none, some b, some ⟨0, 60000⟩⟩ }

/-- Chapter 10: P1 keyed on A1 couples into P2 on A2 and shares A1 with P3; P4 on 40 m is a harmonic danger to P1. -/
theorem test_causes :
    let s := ((keyed (keyed contention 0 3) 3 2).setBandUnit 0 (heard 3 14052000)).setBandUnit 3 (heard 2 7025000)
    (s.dueOn 0).harmonic = 0b001000 ∧ (s.dueOn 1).coupled = 0b000001 ∧ (s.dueOn 2).shared = 0b000001 ∧
      (s.dueOn 2).coupled = 0 ∧ (s.dueOn 3).harmonic = 0 := by decide +kernel

/-- R10: at the safe levels every driver is released; keyed and blanked, every driver conducts. -/
theorem test_drivers :
    ([.key, .amp, .inh, .blk].map Outputs.safe.driver) = List.replicate 4 DriverState.released ∧
      ([.key, .amp, .inh, .blk].map (Outputs.mk true true false true).driver) = List.replicate 4 .conducting := by decide

/-- Chapter 11: SELECT-MAIN of A3 with no-wait, its check character 249. -/
theorem test_frame_characters : (Request.frame (.selectMain 3 true)).chars false =
    [⟨true, 1⟩, ⟨false, 2⟩, ⟨false, 3⟩, ⟨false, 1⟩, ⟨false, 249⟩] := by decide

/-- R164: start bit, data bits from the least significant, mark bit, stop bit. -/
theorem test_character_bits : (LinkChar.mk true 0x81).bits =
    [false, true, false, false, false, false, false, false, true, true, true] := by decide

/-- R176: a segment dwell above 5,000 ms is clamped. -/
theorem test_dwell_clamps :
    (((PosFields.value ⟨0, 1, 1, 0, 0, 50, 10, 6000, 25, 20, 180⟩).map fun x => (x.1.dwell, x.2)) = some (5000, true)) := by
  decide

/-- R180, R181: the copy of the example configuration is loaded again. -/
theorem test_saved_copy_loads : loadStore cfg.image (goodCheck cfg.image) = some cfg := by decide +kernel

/-! ## Witnesses: states and operands that meet the hypotheses of the obligations -/

/-- A save in flight. -/
def saving : State := unit.setStore { unit.store with copy := some cfg.image }

/-- P6 PARKED, in its mode and in its sequencer. -/
def parked6 : State := (unit.setSeq 5 .parked).setCfg { cfg with pos := upd cfg.pos 5 { cfg.pos[5] with parked := true } }

/-- A store that reads bad, and one that holds the example configuration. -/
theorem witness_PowerOnLoadsStore :
    let s := { unit with powered := false }
    let t := s.setStore { s.store with image := cfg.image, check := goodCheck cfg.image }
    s.powered = false ∧ s.store.copy = none ∧ loadStore s.store.image s.store.check = none ∧ t.powered = false ∧
      t.store.copy = none ∧ loadStore t.store.image t.store.check = some cfg := by decide +kernel

theorem witness_PowerLossSpoilsSave :
    unit.powered = true ∧ unit.store.copy = none ∧ saving.powered = true ∧ saving.store.copy.isSome = true := by
  decide +kernel

/-- Two of three samples of RESET active. -/
def resetting (s : State) : State := s.setResetLine ⟨.inactive, [false, true, true]⟩

theorem witness_ResetEventResets :
    unit.powered = true ∧ (resetting unit).sam.reset.change = some true ∧ (resetting unit).store.copy = none ∧
      (resetting saving).sam.reset.change = some true ∧ (resetting saving).store.copy.isSome = true := by decide +kernel

theorem serving_unit (l : Link) : unit.Serving l := by revert l; unfold State.Serving; decide

theorem serving_saving (l : Link) : saving.Serving l := by revert l; unfold State.Serving; decide

theorem serving_contention (l : Link) : contention.Serving l := by revert l; unfold State.Serving; decide

/-- A fact about a slot that holds of both slots. -/
theorem both_slots {P : Slot → Prop} (h : P .main ∧ P .listen) (k : Slot) : P k := by
  cases k
  · exact h.1
  · exact h.2

/-- The two books agree, said slot by slot, as a value that can be computed of a given state. -/
def booksHold (s : State) : Bool :=
  decide (∀ (p : Pos) (a : Ant), s.alloc[a].holder = some p ↔ s.heldAnt p .main = some a) &&
    decide (∀ (p : Pos) (a : Ant), p ∈ s.alloc[a].listeners ↔ s.heldAnt p .listen = some a) &&
    decide (∀ a : Ant, s.alloc[a].listeners.Nodup ∧ (s.alloc[a].queue.map fun e => (e.pos, e.kind)).Nodup) &&
    decide (∀ (p : Pos) (a : Ant), (s.waitsOn p .main a = true ↔ s.hold[p].pend .main = some a) ∧
      (s.waitsOn p .listen a = true ↔ s.hold[p].pend .listen = some a)) &&
    decide (∀ (p : Pos) (a : Ant), (s.hold[p].pend .main = some a → s.heldAnt p .main ≠ some a) ∧
      (s.hold[p].pend .listen = some a → s.heldAnt p .listen ≠ some a)) &&
    decide (∀ (p : Pos) (a : Ant), s.heldAnt p .main = some a → s.heldAnt p .listen ≠ some a) &&
    decide (∀ (p : Pos) (a : Ant), s.hold[p].pendMain = some a → s.hold[p].pendListen ≠ some a) &&
    decide (∀ (p : Pos) (a : Ant), s.heldAnt p .main = some a → s.hold[p].pendListen ≠ some a) &&
    decide (∀ (p : Pos) (a : Ant), s.alloc[a].holder = some p → p ∉ s.alloc[a].listeners) &&
    decide (∀ a : Ant, s.alloc[a].listeners.length ≤ s.cfg.ants[a].capacity)

theorem books_of {s : State} (h : booksHold s = true) : s.BooksAgree := by
  simp only [booksHold, Bool.and_eq_true, decide_eq_true_eq] at h
  obtain ⟨⟨⟨⟨⟨⟨⟨⟨⟨mains, listens⟩, once⟩, waits⟩, apart⟩, held⟩, pending⟩, own⟩, sides⟩, shares⟩ := h
  exact ⟨mains, ⟨listens, fun a => (once a).1⟩,
    ⟨fun p a => both_slots (waits p a), fun a => (once a).2, fun p a => both_slots (apart p a)⟩,
    ⟨held, pending, own, sides⟩, shares⟩

theorem books_unit : unit.BooksAgree := books_of (by decide +kernel)

theorem list_unit : unit.ListOrder := by unfold State.ListOrder; decide +kernel

theorem books_contention : contention.BooksAgree := books_of (by decide +kernel)

theorem list_contention : contention.ListOrder := by unfold State.ListOrder; decide +kernel

theorem witness_RestartResetsAndAnswersFirst :
    saving.Serving stationLink ∧ saving.store.copy.isSome = true ∧ unit.Serving stationLink ∧ unit.store.copy = none :=
  ⟨serving_saving _, by decide +kernel, serving_unit _, by decide⟩

/-- Levels of a sample: every PTT active, the code of B5, KEY sensed active. -/
def levels : Sample := ⟨true, false, Vector.replicate 6 ⟨true, false, 5, true⟩⟩

/-- The same with every PTT inactive. -/
def released (x : Sample) : Sample := { x with pos := x.pos.map fun y => { y with ptt := false } }

/-- A candidate that ripens with the sample, a PTT whose third sample is the first accepted one or not, and a watched
crosspoint. -/
theorem witness_SampleTakesEveryLine :
    let s := unit.setLines 0 { unit.sam.pos[0] with candidate := some ⟨5, 951, false⟩, ptt := ⟨.unknown, [true, false]⟩ }
    let t := contention.setXp 0 0 ⟨.main, false, none⟩
    s.powered = true ∧ s.held = false ∧ (unit.setResetLine ⟨.active, [true, true, true]⟩).held = true ∧
      (ran (.samplingInstant levels) s).sam.pos[(0 : Pos)].candidate = some ⟨5, 951, true⟩ ∧ 951 < s.now + 1 ∧
      (ran (.samplingInstant (released levels)) s).sam.pos[(0 : Pos)].ptt = ⟨.inactive, [true, false, false]⟩ ∧
      (ran (.samplingInstant levels) s).sam.pos[(0 : Pos)].ptt = ⟨.unknown, [true, false, true]⟩ ∧
      s.outs[(0 : Pos)].key = false ∧ t.drv.release = .none ∧ (t.xp 0 0).disagrees = true ∧ t.underCommand 0 0 = false ∧
      (t.setDrv { t.drv with release := .delay 900 }).drv.release ≠ .none := by
  decide +kernel

theorem witness_StationLinesAreAccepted :
    (unit.setEdit ⟨.unknown, [true, true, true]⟩).sam.edit.change = some true ∧
      (unit.setEdit ⟨.active, [false, true, false]⟩).sam.edit.change = some false ∧
      (unit.setResetLine ⟨.active, [true, false, false]⟩).sam.reset.change = some false := by decide

/-- The contention example with A4 as P4's main and A3 as its listen, and with A7, where S0 of B5 serves A3, A4 and A7 and
P6 prefers A3 and then A7 there. -/
def twoBands : State :=
  { contention with
    cfg := { cfg with
      ants := upd cfg.ants 6 ⟨true, 0b010000, .txrx, 1, 20, 0⟩
      segMap := upd cfg.segMap 4 (upd cfg.segMap[4] 0 ⟨.transmit, 0b1001100, 0b1001100⟩)
      prefs := upd cfg.prefs 5 (upd cfg.prefs[5] 4 ⟨[2, 6], []⟩) }
    alloc := upd (upd contention.alloc 2 ⟨some 2, [3], [], .stopped⟩) 3 ⟨some 3, [], [], .stopped⟩
    hold := upd contention.hold 3 ⟨setOn 3, setOn 2, none, none, none, none⟩ }

/-- The same with every follow switch OFF. -/
def noFollow : State :=
  twoBands.setCfg { twoBands.cfg with pos := twoBands.cfg.pos.map fun x => { x with follow := false } }

theorem books_twoBands : twoBands.BooksAgree := books_of (by decide +kernel)

theorem list_twoBands : twoBands.ListOrder := by unfold State.ListOrder; decide +kernel

/-- A position's band code settled at another value. -/
def retuned (s : State) (p : Pos) (k : BitVec 4) : State :=
  s.setLines p { s.sam.pos[p] with code := some 4, candidate := some ⟨k, 950, true⟩ }

/-- The amplifier settle and the tail of every position at 0. -/
def noDelays (s : State) : State :=
  s.setCfg { s.cfg with pos := s.cfg.pos.map fun x => { x with ampSettle := 0, tail := 0 } }

/-- On B5 P1 loses its main, P3 its listen alone, P4 keeps both slots, and P6, which holds nothing, finds A7. P1 may be in
SETTLING or KEYED, with and without a tail, and its filter at rest. -/
theorem witness_BandCodeChangesBand :
    twoBands.BooksAgree ∧ (retuned twoBands 0 5).BooksAgree ∧
      FirstOf twoBands.cfg.prefs[(5 : Pos)][(4 : Band)].main
        (fun x => (ran (.bandCodeEvent 5) (retuned twoBands 5 5)).mainElig x 5 && twoBands.alloc[x].holder.isNone) 6 ∧
      (∀ p : Pos, ∀ k ∈ ([0, 5] : List (BitVec 4)), ∀ s ∈ [retuned twoBands p k, retuned noFollow p k],
        s.powered = true ∧ s.isParked p = false ∧ s.sam.pos[p].candidate = some ⟨k, 950, true⟩ ∧
          linesOfCode k ≠ s.bands[p].lines ∧ s.inSpan p = false) ∧ linesOfCode 5 = .band 4 ∧ linesOfCode 0 = .none ∧
      (keyed (retuned twoBands 0 5) 0 3).inSpan 0 = true ∧ twoBands.cfg.pos[(0 : Pos)].tail ≠ 0 ∧
      twoBands.hold[(2 : Pos)].main = setOn 2 ∧ (ran (.bandCodeEvent 2) (retuned twoBands 2 5)).mainElig 2 2 = true ∧
      twoBands.hold[(2 : Pos)].listen = setOn 0 ∧ (ran (.bandCodeEvent 2) (retuned twoBands 2 5)).listenElig 0 2 = false ∧
      twoBands.hold[(3 : Pos)].main = setOn 3 ∧ (ran (.bandCodeEvent 3) (retuned twoBands 3 5)).mainElig 3 3 = true ∧
      twoBands.hold[(3 : Pos)].listen = setOn 2 ∧ (ran (.bandCodeEvent 3) (retuned twoBands 3 5)).listenElig 2 3 = true ∧
      twoBands.heldAnt 0 .main = some 0 ∧ (ran (.bandCodeEvent 0) (retuned twoBands 0 5)).mainElig 0 0 = false ∧
      twoBands.hold[(5 : Pos)].main = none ∧ twoBands.hold[(5 : Pos)].listen = none ∧
      twoBands.cfg.pos[(5 : Pos)].follow = true ∧ noFollow.cfg.pos[(5 : Pos)].follow = false ∧
      (keyed (retuned twoBands 0 5) 0 3).seqs[(0 : Pos)] = .keyed 900 ∧
      ((retuned twoBands 0 5).setSeq 0 (.settling 990)).seqs[(0 : Pos)] = .settling 990 ∧
      (noDelays twoBands).cfg.pos[(0 : Pos)].tail = 0 ∧
      (ran (.bandCodeEvent 0) (keyed (retuned twoBands 0 5) 0 3)).inSpan 0 = true ∧ twoBands.rfsActive 0 = false ∧
      twoBands.drv.release = .none ∧ twoBands.drv.filters[(0 : Pos)].sw = .idle :=
  ⟨books_twoBands, books_twoBands, ⟨[2], [], by decide +kernel⟩, by decide +kernel⟩

/-- The clauses of FREQ at the edges of their ranges: below and above the range, a split, the two ends of the range. -/
theorem witness_FreqIsCheckedThenHeld :
    parked6.Serving (linkOf 5) ∧ parked6.isParked 5 = true ∧ unit.Serving (linkOf 0) ∧ unit.isParked 0 = false ∧
      (99999#32).toNat < 100000 ∧ 60000000 < (60000001#32).toNat ∧ (100000#32).toNat = 100000 ∧
      (60000000#32).toNat = 60000000 ∧ bandOfFreq (100000#32).toNat = bandOfFreq (60000000#32).toNat ∧
      bandOfFreq (14350000#32).toNat ≠ bandOfFreq (21000000#32).toNat :=
  ⟨by unfold State.Serving; decide, by decide, serving_unit _, by decide⟩

theorem witness_FreshnessExpiryMakesStale :
    let s := (unit.setBandUnit 0 (heard 3 14052000)).setBandUnit 0 { heard 3 14052000 with
      report := some ⟨14052000, none, some 3, some ⟨0, 1000⟩⟩ }
    s.powered = true ∧ s.bands[(0 : Pos)].report = some ⟨14052000, none, some 3, some ⟨0, 1000⟩⟩ ∧ 0 + 1000 ≤ s.now ∧
      s.bands[(0 : Pos)].lines = .band 3 := by decide

/-- A position that prefers A4, A2 and A3 on B4, and A3 to listen. -/
def preferring (s : State) (p : Pos) : State :=
  s.setCfg { s.cfg with prefs := upd s.cfg.prefs p (upd s.cfg.prefs[p] 3 ⟨[3, 1, 2], [2]⟩) }

/-- P1 in S8 loses A1, in key span keeps it, and in S1 keeps it too; P6, which holds nothing, may queue for A2 and may
listen on A3, or prefers nothing. -/
theorem witness_DwellExpirySettlesSide :
    let s := contention.setBandUnit 0 { onBand 3 1 1 with curTx := some 8, curRx := some 0, dwellTx := some 0, dwellRx := some 0 }
    let u := contention.setBandUnit 0 (onBand 3 8 1)
    let v := preferring contention 5
    s.powered = true ∧ 0 + s.cfg.pos[(0 : Pos)].dwell ≤ s.now ∧ s.bands[(0 : Pos)].dwellTx = some 0 ∧
      s.bands[(0 : Pos)].dwellRx = some 0 ∧ (keyed u 0 3).inSpan 0 = true ∧ u.inSpan 0 = false ∧
      u.heldAnt 0 .main = some 0 ∧ u.elig .main 0 0 = false ∧ u.held = false ∧ u.links[linkOf 0].hasRoom = true ∧
      contention.elig .main 0 0 = true ∧ contention.heldAnt 2 .listen = some 0 ∧ contention.elig .listen 0 2 = true ∧
      v.heldAnt 5 .main = none ∧ v.heldAnt 5 .listen = none ∧ v.bandOf 5 = some 3 ∧ v.cfg.pos[(5 : Pos)].follow = true ∧
      v.cfg.prefs[(5 : Pos)][(3 : Band)] = ⟨[3, 1, 2], [2]⟩ ∧ v.candidate .main 5 3 = false ∧
      (∀ a ∈ ([1, 2] : List Ant), v.candidate .main 5 a = true ∧ v.slotFree .main a = false ∧ v.mayQueue .main 5 a = true) ∧
      v.candidate .listen 5 2 = true ∧ v.slotFree .listen 2 = true ∧ v.hold[(5 : Pos)].pend .main = none ∧
      (v.setHold 5 ⟨none, none, some 1, none, none, none⟩).hold[(5 : Pos)].pend .main = some 1 ∧
      (preferring noFollow 5).cfg.pos[(5 : Pos)].follow = false ∧
      contention.cfg.prefs[(5 : Pos)][(3 : Band)].main = [] := by decide +kernel

/-- Both edges of B4. -/
theorem witness_SegmentHoldsFrequency :
    Config.bandLow 3 ≤ 14000000 ∧ 14350000 ≤ Config.bandHigh 3 ∧ segOfFreq 3 14000000 = 0 ∧ segOfFreq 3 14350000 = 15 := by
  decide

/-- The contention example with A1 free: P1 has left it. -/
def freed : State :=
  (contention.setAlloc 0 { contention.alloc[0] with holder := none }).setHold 0 HoldRecord.initial

theorem books_freed : freed.BooksAgree := books_of (by decide +kernel)

/-- P1 with nothing, and P2 in place of A2. -/
theorem witness_SelectMainGrantsFreeAntenna :
    unit.Serving (linkOf 0) ∧ freed.Serving (linkOf 1) ∧ unit.BooksAgree ∧ freed.BooksAgree ∧ unit.ListOrder ∧
      freed.ListOrder ∧ unit.isParked 0 = false ∧ unit.bands[(0 : Pos)].state = .valid 3 ∧ (1#8).toNat = (0 : Ant).val + 1 ∧
      unit.mainElig 0 0 = true ∧ unit.inSpan 0 = false ∧ unit.alloc[(0 : Ant)].holder = none ∧
      freed.isParked 1 = false ∧ freed.bands[(1 : Pos)].state = .valid 3 ∧ freed.mainElig 0 1 = true ∧
      freed.inSpan 1 = false ∧ freed.alloc[(0 : Ant)].holder = none ∧ freed.heldAnt 1 .main = some 1 :=
  ⟨serving_unit _, serving_contention _, books_unit, books_freed, list_unit, list_contention, by decide +kernel⟩

/-- One position for each case of R57: P2 waits for nothing, P3 waits for the main already, P4 waits to listen on A1. -/
theorem witness_SelectMainQueuesOnHeldAntenna :
    let s := contention.setHold 3 ⟨none, none, none, some 0, none, none⟩
    s.Serving (linkOf 1) ∧ s.Serving (linkOf 2) ∧ s.Serving (linkOf 3) ∧ (1#8).toNat = (0 : Ant).val + 1 ∧
      s.alloc[(0 : Ant)].holder = some 0 ∧
      (∀ p ∈ ([1, 2, 3] : List Pos), s.isParked p = false ∧ s.bands[p].state = .valid 3 ∧ s.mainElig 0 p = true ∧
        s.inSpan p = false ∧ s.heldAnt p .main ≠ some 0) ∧
      s.hold[(1 : Pos)].pendMain ≠ some 0 ∧ s.hold[(1 : Pos)].pendListen ≠ some 0 ∧ s.hold[(2 : Pos)].pendMain = some 0 ∧
      s.hold[(3 : Pos)].pendMain ≠ some 0 ∧ s.hold[(3 : Pos)].pendListen = some 0 := by
  unfold State.Serving
  decide +kernel

/-- A3, of share capacity 1, with P6 as its listener, P4 waiting for its main and P5 waiting to listen. -/
def full : State :=
  { contention with
    alloc := upd contention.alloc 2 ⟨some 2, [5], [⟨3, .main, .operator, 970⟩, ⟨4, .listen, .operator, 980⟩], .stopped⟩
    hold := upd (upd (upd contention.hold 5 ⟨none, setOn 2, none, none, none, none⟩) 3 ⟨none, none, some 2, none, none, none⟩)
      4 ⟨none, setOn 1, some 0, some 2, none, none⟩ }

theorem books_full : full.BooksAgree := books_of (by decide +kernel)

theorem list_full : full.ListOrder := by unfold State.ListOrder; decide +kernel

/-- The unit with a share capacity of 0 at A3. -/
def noShare : State := unit.setCfg { cfg with ants := upd cfg.ants 2 { cfg.ants[2] with capacity := 0 } }

theorem books_noShare : noShare.BooksAgree := books_of (by decide +kernel)

/-- P1 asks to listen on A3 with room, P5 in place of A2; P1, P4 and P5 while its list is full, and one that listens where
the capacity is 0. Before them, one state for each refusal: PARKED, BAND, UNKNOWN (0, 21 and the absent A20), INELIGIBLE
(A5 on B4, and P1's own main), KEYED, and the listen that P3 has. -/
theorem witness_SelectListenGrantsRoom :
    (∀ l : Link, contention.Serving l ∧ full.Serving l ∧ unit.Serving l ∧ parked6.Serving l) ∧ contention.BooksAgree ∧
      full.BooksAgree ∧ noShare.BooksAgree ∧ contention.ListOrder ∧ parked6.isParked 5 = true ∧
      (∀ b, (unit.setBandUnit 0 BandUnit.initial).bands[(0 : Pos)].state ≠ .valid b) ∧
      (∀ a : Ant, (0#8).toNat ≠ a.val + 1) ∧ (∀ a : Ant, (21#8).toNat ≠ a.val + 1) ∧ cfg.ants[(19 : Ant)].present = false ∧
      cfg.ants[(4 : Ant)].present = true ∧ contention.listenElig 4 0 = false ∧ contention.heldAnt 0 .main = some 0 ∧
      (keyed unit 0 3).listenElig 0 0 = true ∧ (keyed unit 0 3).inSpan 0 = true ∧ contention.listenElig 0 2 = true ∧
      contention.heldAnt 2 .listen = some 0 ∧ contention.heldAnt 2 .main ≠ some 0 ∧
      (3#8).toNat = (2 : Ant).val + 1 ∧ contention.hasListenRoom 2 = true ∧ full.hasListenRoom 2 = false ∧
      full.cfg.ants[(2 : Ant)].capacity ≠ 0 ∧ contention.heldAnt 4 .listen = some 1 ∧
      (∀ s ∈ [contention, full], ∀ p ∈ ([0, 3, 4] : List Pos), s.isParked p = false ∧ s.bands[p].state = .valid 3 ∧
        s.listenElig 2 p = true ∧ s.heldAnt p .main ≠ some 2 ∧ s.inSpan p = false ∧ s.heldAnt p .listen ≠ some 2) ∧
      full.hold[(0 : Pos)].pendListen ≠ some 2 ∧ full.hold[(0 : Pos)].pendMain ≠ some 2 ∧
      full.hold[(3 : Pos)].pendListen ≠ some 2 ∧ full.hold[(3 : Pos)].pendMain = some 2 ∧
      full.hold[(4 : Pos)].pendListen = some 2 ∧ noShare.hasListenRoom 2 = false ∧ noShare.listenElig 2 0 = true ∧
      noShare.cfg.ants[(2 : Ant)].capacity = 0 :=
  ⟨fun l => ⟨serving_contention l, by revert l; unfold State.Serving; decide, serving_unit l,
      by revert l; unfold State.Serving; decide⟩,
    books_contention, books_full, books_noShare, list_contention, by decide, by decide, by decide, by decide, by decide +kernel⟩

/-- One state for each check: PARKED, BAND, UNKNOWN (0, 21 and the absent A20), INELIGIBLE (A4 on B4), KEYED, and the main
that P1 has. -/
theorem witness_SelectMainRefusesInOrder :
    parked6.Serving (linkOf 5) ∧ parked6.isParked 5 = true ∧
      (∀ b, (unit.setBandUnit 0 BandUnit.initial).bands[(0 : Pos)].state ≠ .valid b) ∧
      (∀ a : Ant, (0#8).toNat ≠ a.val + 1) ∧ (∀ a : Ant, (21#8).toNat ≠ a.val + 1) ∧ cfg.ants[(19 : Ant)].present = false ∧
      cfg.ants[(3 : Ant)].present = true ∧ unit.mainElig 3 0 = false ∧ (keyed unit 0 3).mainElig 0 0 = true ∧
      (keyed unit 0 3).inSpan 0 = true ∧ contention.mainElig 0 0 = true ∧ contention.inSpan 0 = false ∧
      contention.heldAnt 0 .main = some 0 :=
  ⟨by unfold State.Serving; decide, by decide, by decide, by decide +kernel⟩

/-- P1's main A1 goes to P5, of class RUN, before P3, and to none while both are in key span; P6's listen A3 goes to P5,
and P3's listen A1 to none. -/
theorem witness_DropsReleaseSlots :
    (∀ e ∈ contention.alloc[(0 : Ant)].queue, ¬contention.MayGrant 0 .listen e) ∧
      (∀ e ∈ (keyed (keyed contention 2 3) 4 3).alloc[(0 : Ant)].queue,
        ¬(keyed (keyed contention 2 3) 4 3).MayGrant 0 .main e) ∧
      contention.FirstInLine 0 .main ⟨4, .main, .operator, 950⟩ ∧ full.FirstInLine 2 .listen ⟨4, .listen, .operator, 980⟩ ∧
      contention.BooksAgree ∧ unit.BooksAgree ∧ full.BooksAgree ∧ (keyed (keyed contention 2 3) 4 3).BooksAgree ∧
      contention.ListOrder ∧ full.ListOrder ∧ parked6.Serving (linkOf 5) ∧ (keyed contention 2 3).Serving (linkOf 2) ∧
      contention.Serving (linkOf 2) ∧ full.Serving (linkOf 5) ∧
      parked6.isParked 5 = true ∧ (keyed contention 2 3).inSpan 2 = true ∧ contention.isParked 2 = false ∧
      contention.inSpan 2 = false ∧ contention.heldAnt 2 .listen = some 0 ∧ unit.heldAnt 2 .main = none ∧
      unit.hold[(2 : Pos)].pendMain = none ∧ unit.heldAnt 2 .listen = none ∧ contention.heldAnt 0 .main = some 0 ∧
      contention.isParked 4 = false ∧ full.heldAnt 5 .listen = some 2 ∧
      full.isParked 4 = false := by
  refine ⟨?_, ?_, ⟨⟨rfl, by decide +kernel⟩, [⟨2, .main, .operator, 900⟩], [], by decide +kernel, ?_, by simp⟩,
    ⟨⟨rfl, by decide +kernel⟩, [⟨3, .main, .operator, 970⟩], [], by decide +kernel, ?_, by simp⟩, books_contention,
    books_unit, books_full, books_contention, list_contention, list_full, by unfold State.Serving; decide,
    by unfold State.Serving; decide, serving_contention _, by unfold State.Serving; decide, by decide +kernel⟩ <;>
    simp only [State.MayGrant] <;> decide +kernel

/-- P5 waits for A1 and to listen on A3. -/
theorem witness_CancelRemovesPending :
    full.Serving (linkOf 4) ∧ full.hold[(4 : Pos)].pendMain = some 0 ∧ full.hold[(4 : Pos)].pendListen = some 2 ∧
      (ran (.cancel 4 .main) full).waitsOn 4 .main 0 = false ∧ full.waitsOn 4 .main 0 = true ∧
      (ran (.cancel 4 .main) full).waitsOn 4 .listen 2 = true ∧ (ran (.cancel 4 .listen) full).waitsOn 4 .listen 2 = false ∧
      (ran (.cancel 4 .both) full).hold[(4 : Pos)].pendListen = none :=
  ⟨by unfold State.Serving; decide, by decide +kernel⟩

theorem witness_WaitExpiryRemovesEntry :
    let s := { contention with now := 300900 }
    s.powered = true ∧ (s.alloc[(0 : Ant)].queue.find? fun y => y.pos == 2) = some ⟨2, .main, .operator, 900⟩ ∧
      s.cfg.station.waitLimit ≠ 0 ∧ 900 + s.cfg.station.waitLimit * 1000 ≤ s.now := by decide +kernel

/-- P5's claim on A1 counted to 60 s at 83 s. -/
def yielding : State :=
  { contention.setAlloc 0 { contention.alloc[0] with yieldT := .running 0 4 25000 48000 } with now := 83000 }

theorem books_yielding : yielding.BooksAgree := books_of (by decide +kernel)

theorem list_yielding : yielding.ListOrder := by unfold State.ListOrder; decide +kernel

theorem witness_YieldExpiryPreempts :
    yielding.BooksAgree ∧ yielding.ListOrder ∧ yielding.powered = true ∧ yielding.held = false ∧
      yielding.alloc[(0 : Ant)].holder = some 0 ∧ yielding.headWaiter 0 = some 4 ∧
      yielding.alloc[(0 : Ant)].yieldT = .running 0 4 25000 48000 ∧
      yielding.cfg.station.yieldTime * 1000 ≤ 25000 + (yielding.now - 48000) ∧ yielding.mainElig 0 4 = true ∧
      (yielding.setBandUnit 4 (onBand 3 8 1)).mainElig 0 4 = false ∧ yielding.isParked 4 = false ∧
      yielding.isParked 0 = false :=
  ⟨books_yielding, list_yielding, by decide +kernel⟩

/-- R84, row 6: with the flag of A1 set and the expiry taken first, P5 is told EXPIRED with cause INELIGIBLE; then P1 is
told RELEASED with cause FAULT. With the fault event taken first, P5 is told EXPIRED with cause FAULT. -/
theorem test_expiry_before_fault :
    let s := yielding.setFault 0 true
    let t := (s.yieldExpire 0).allocFault 0
    s.yieldDue 0 = true ∧ t.links[(4 : Link)].queue = [noticeFrame 4 (.expired .main 0 .ineligible)] ∧
      t.links[(0 : Link)].queue.head? = some (noticeFrame 0 (.released .main 0 .fault)) ∧
      (s.allocFault 0).links[(4 : Link)].queue = [noticeFrame 4 (.expired .main 0 .fault)] := by decide +kernel

/-- An entry that starts whole with an opening phase, with another behind it; one behind an entry that condition 4 holds
back, which closes at once for an AWAITING main; one whose target OPEN starts alone; one that goes from LISTEN to MAIN. -/
theorem witness_ChangeSetStartsInOrder :
    let e : PendEntry := ⟨0, [⟨0, .opened⟩, ⟨7, .main⟩]⟩
    let f : PendEntry := ⟨5, [⟨6, .main⟩]⟩
    let g : PendEntry := ⟨3, [⟨1, .main⟩]⟩
    let s := contention.setList [e, f]
    let t := (contention.setList [g, f]).setHold 5 ⟨some ⟨6, .awaiting, .follow, false⟩, none, none, none, none, none⟩
    let h : PendEntry := ⟨3, [⟨1, .main⟩, ⟨8, .opened⟩]⟩
    let u := contention.setList [h]
    let k : PendEntry := ⟨2, [⟨0, .main⟩]⟩
    let v := (contention.setXp 0 0 ⟨.opened, false, none⟩).setList [k]
    (∀ x ∈ [g], t.PassedOver x) ∧ s.powered = true ∧ s.drv.list = [] ++ e :: [f] ∧ (∀ x ∈ [f], x.pos ≠ e.pos ∧ x.targets ≠ []) ∧
      (e.targets.map (·.ant)).Nodup ∧ s.drv.inProg.length < 2 ∧ s.progress 0 = none ∧ s.drv.release = .none ∧
      (∀ x ∈ e.targets, s.cold x.ant = true ∧ s.mainClear 0 x = true) ∧ e.targets ≠ [] ∧ t.drv.list = [g] ++ f :: [] ∧
      g.pos ≠ f.pos ∧ g.targets ≠ [] ∧ (f.targets.map (·.ant)).Nodup ∧ t.progress 5 = none ∧
      (∀ x ∈ f.targets, t.cold x.ant = true ∧ t.mainClear 5 x = true ∧ (t.xp 5 x.ant).cmd = .opened) ∧ slotOf .main = some .main ∧
      t.hold[(5 : Pos)].holding .main = some ⟨6, .awaiting, .follow, false⟩ ∧ u.drv.list = [] ++ h :: [] ∧
      (∀ x ∈ h.targets, u.cold x.ant = true) ∧ (∃ x ∈ h.targets, u.mainClear 3 x = false) ∧
      (h.targets.filter fun x => x.goal == .opened) = [⟨8, .opened⟩] ∧ v.drv.list = [] ++ k :: [] ∧
      (∀ x ∈ k.targets, v.cold x.ant = true ∧ v.mainClear 2 x = true) ∧ (v.xp 2 0).cmd = .listen := by
  refine ⟨?_, by decide +kernel⟩
  simp only [State.PassedOver]
  decide +kernel

/-- A change set that completes with its opening phase, one whose closing is cold and one whose closing is not; and one of
P6, with its main on A8 and its listen on A9, whose opening on A7 has stuck. -/
theorem witness_PhasesFollowEachOther :
    let s (g : List Target) (h : Phase) := contention.setProgress [⟨5, g, h, [⟨6, true⟩]⟩]
    let u := (((contention.setProgress [⟨5, [⟨7, .main⟩, ⟨8, .listen⟩], .opening 1000, [⟨6, true⟩]⟩]).setXp 5 6
      ⟨.opened, true, none⟩).setAlloc 7 ⟨some 5, [], [], .stopped⟩).setAlloc 8 ⟨none, [5], [], .stopped⟩
    let u := u.setHold 5 ⟨some ⟨7, .switching, .follow, false⟩, some ⟨8, .switching, .operator, false⟩, none, none, none, none⟩
    u.BooksAgree ∧ u.ListOrder ∧
      (s [⟨6, .opened⟩] (.opening 1000)).progress 5 = some ⟨5, [⟨6, .opened⟩], .opening 1000, [⟨6, true⟩]⟩ ∧
      (s [⟨6, .opened⟩] (.opening 1000)).powered = true ∧ 1000 ≤ contention.now ∧ (contention.xp 5 6).closed = false ∧
      ChangeSet.closings ⟨5, [⟨6, .opened⟩], .opening 1000, [⟨6, true⟩]⟩ = [] ∧
      ChangeSet.closings ⟨5, [⟨7, .main⟩], .waiting, [⟨6, true⟩]⟩ = [⟨7, .main⟩] ∧
      (s [⟨7, .main⟩] .waiting).cold 7 = true ∧ (keyed (s [⟨0, .main⟩] (.opening 1000)) 2 3).cold 0 = false ∧
      u.progress 5 = some ⟨5, [⟨7, .main⟩, ⟨8, .listen⟩], .opening 1000, [⟨6, true⟩]⟩ ∧ (u.xp 5 6).closed = true ∧
      u.drv.release = .none ∧ slotOf .main = some .main ∧ slotOf .listen = some .listen ∧
      u.hold[(5 : Pos)].holding .main = some ⟨7, .switching, .follow, false⟩ ∧
      u.hold[(5 : Pos)].holding .listen = some ⟨8, .switching, .operator, false⟩ ∧ (u.xp 5 7).cmd = .opened ∧
      (u.xp 5 8).cmd = .opened ∧ u.listed 5 7 = none ∧ u.listed 5 8 = none ∧ u.hold[(5 : Pos)].pendListen = none ∧
      u.heldAnt 5 .main ≠ some 6 :=
  ⟨books_of (by decide +kernel),
    by unfold State.ListOrder; decide +kernel, by decide +kernel⟩

/-- A main whose antenna has not faulted, one whose fault has been cleared, and one whose flag is set; the same with the
contact sensed OPEN, outside key span and in it. -/
theorem witness_ClosingEndGrantsMain :
    let s (f : Bool) := (contention.setProgress [⟨0, [⟨0, .main⟩], .closing 1000, []⟩]).setHold 0
      { contention.hold[0] with main := some ⟨0, .switching, .follow, f⟩ }
    let u := (s false).setXp 0 0 ⟨.main, false, none⟩
    u.BooksAgree ∧ (keyed u 0 3).BooksAgree ∧
      (∀ f : Bool, (s f).powered = true ∧ (s f).held = false ∧
        (s f).progress 0 = some ⟨0, [⟨0, .main⟩], .closing 1000, []⟩ ∧ 1000 ≤ (s f).now ∧ ((s f).xp 0 0).closed = true ∧
        (s f).drv.faults[(0 : Ant)] = false ∧ (s f).hold[(0 : Pos)].main = some ⟨0, .switching, .follow, f⟩ ∧
        (s f).links[linkOf 0].hasRoom = true) ∧ ((s false).setFault 0 true).drv.faults[(0 : Ant)] = true ∧
      ChangeSet.closings ⟨0, [⟨0, .main⟩], .closing 1000, []⟩ = [⟨0, .main⟩] ∧ (u.xp 0 0).closed = false ∧
      u.progress 0 = some ⟨0, [⟨0, .main⟩], .closing 1000, []⟩ ∧
      u.hold[(0 : Pos)].main = some ⟨0, .switching, .follow, false⟩ ∧ u.drv.faults[(0 : Ant)] = false ∧
      (u.setFault 0 true).drv.faults[(0 : Ant)] = true ∧ u.links[stationLink].hasRoom = true ∧ u.inSpan 0 = false ∧
      (keyed u 0 3).inSpan 0 = true := by
  intro s u
  have h : u.BooksAgree :=
    books_of (by decide +kernel)
  exact ⟨h, h, by decide +kernel⟩

/-- R108: the antenna of a main in SWITCHING faults in its closing phase and the flag is cleared before the phase ends; the
main does not go to SET. -/
theorem test_fault_cleared_in_closing_phase :
    let s := ((keyed contention 0 3).setSeq 0 (.settling 980)).setHold 0
      { contention.hold[0] with main := some ⟨0, .switching, .follow, false⟩ }
    let s := (s.setProgress [⟨0, [⟨0, .main⟩], .closing 1000, []⟩]).setXp 2 0 ⟨.listen, false, some 990⟩
    let t := ran (.closingPhaseEnd 0) (ran (.faultClear 1) (ran (.crosspointWatchFault 2 0) s))
    t.drv.faults[(0 : Ant)] = false ∧ t.progress 0 = none ∧
      t.hold[(0 : Pos)].main = some ⟨0, .switching, .follow, true⟩ ∧ t.inSpan 0 = true := by decide +kernel

/-- R109: closings that return to the pending list together keep the place of the position's entry. -/
theorem test_returned_closings_keep_place :
    let s := contention.setList [⟨5, [⟨6, .opened⟩]⟩, ⟨3, [⟨1, .main⟩]⟩]
    (s.returnClosings 5 [⟨6, .main⟩, ⟨7, .listen⟩]).drv.list.map (·.pos) = [5, 3] := by decide +kernel

/-- A1 fails: P1, which has it as its main, loses it and finds A2 where that is free, or keeps it in key span; P3 loses
its listen, or keeps it in key span. -/
theorem witness_WatchFindsRelayFault :
    let s := preferring (contention.setXp 0 0 ⟨.main, false, some 995⟩) 0
    let u := { s with alloc := upd s.alloc 1 ⟨none, [4], [], .stopped⟩, hold := upd s.hold 1 HoldRecord.initial }
    s.BooksAgree ∧ u.BooksAgree ∧ s.ListOrder ∧ FirstOf u.cfg.prefs[(0 : Pos)][(3 : Band)].main
        (fun x => x != 0 && u.mainElig x 0 && u.alloc[x].holder.isNone) 1 ∧
      s.powered = true ∧ s.held = false ∧ (s.xp 0 0).watch = some 995 ∧ 995 + 5 ≤ s.now ∧ s.links[stationLink].hasRoom = true ∧
      s.drv.faults[(0 : Ant)] = false ∧ (s.setFault 0 true).drv.faults[(0 : Ant)] = true ∧
      s.heldAnt 0 .main = some 0 ∧ s.inSpan 0 = false ∧ s.heldAnt 2 .listen = some 0 ∧ (keyed s 0 3).inSpan 0 = true ∧
      (keyed s 2 3).inSpan 2 = true ∧ s.hold[(2 : Pos)].pendListen = none ∧ s.drv.release = .none ∧
      (s.xp 0 0).cmd ≠ .opened ∧ s.progress 0 = none ∧ u.alloc[(0 : Ant)].holder = some 0 ∧
      u.cfg.pos[(0 : Pos)].follow = true ∧ u.bandOf 0 = some 3 :=
  ⟨books_contention, books_of (by decide +kernel),
    list_contention, ⟨[3], [2], by decide +kernel⟩, by decide +kernel⟩

theorem witness_ContactChangeRecomputesBlanking : contention.powered = true := by decide

theorem witness_FaultClearClearsFlag :
    (unit.setEdit Line.fresh).editOpen = false ∧ unit.Serving stationLink ∧ unit.editOpen = true ∧
      (∀ a : Ant, (0#8).toNat ≠ a.val + 1) ∧ (∀ a : Ant, (21#8).toNat ≠ a.val + 1) ∧ (20#8).toNat = (19 : Ant).val + 1 :=
  ⟨by decide, serving_unit _, by decide⟩

theorem witness_FilterSwitchBeginsAndEnds :
    let s := unit.setFilter 0 ⟨some 3, none, .pending⟩
    let t := unit.setFilter 0 ⟨some 3, some 3, .switching 990⟩
    s.powered = true ∧ s.drv.filters[(0 : Pos)].sw = .pending ∧ s.inSpan 0 = false ∧ s.rfsActive 0 = false ∧
      s.drv.release = .none ∧ t.drv.filters[(0 : Pos)].sw = .switching 990 ∧ 990 + 10 ≤ t.now ∧
      t.drv.filters[(0 : Pos)].selected = t.drv.filters[(0 : Pos)].commanded := by decide

theorem witness_ReleaseOpensEverything :
    let s := contention.setDrv { contention.drv with release := .delay 900 }
    let t := unit.setDrv { unit.drv with release := .opening 1000 }
    s.powered = true ∧ s.drv.release = .delay 900 ∧ 900 + 100 ≤ s.now ∧ t.powered = true ∧ 1000 ≤ t.now ∧
      t.drv.release = .opening 1000 ∧ ∀ (p : Pos) (a : Ant), (t.xp p a).closed = false := by decide +kernel

/-- A position's PTT, and its RFS, about to be accepted at a level. -/
def pttTo (s : State) (p : Pos) (v : Bool) : State :=
  s.setLines p { s.sam.pos[p] with ptt := ⟨if v then .inactive else .active, [!v, v, v]⟩ }

def rfsTo (s : State) (p : Pos) (v : Bool) : State :=
  s.setLines p { s.sam.pos[p] with rfs := ⟨if v then .inactive else .active, [!v, v, v]⟩ }

/-- A press that is accepted, with and without an amplifier settle, one that is denied, and a state for each other
clause. -/
theorem witness_PttChangeIsTaken :
    (pttTo contention 0 true).powered = true ∧ (pttTo contention 0 true).seqs[(0 : Pos)] = .idle ∧
      (pttTo contention 0 true).sam.pos[(0 : Pos)].ptt.change = some true ∧
      (pttTo contention 0 true).keyDecision 0 = .ok ⟨3, false⟩ ∧ (pttTo contention 0 true).settleCond 0 = true ∧
      contention.cfg.pos[(0 : Pos)].ampSettle ≠ 0 ∧ (pttTo (noDelays contention) 0 true).keyDecision 0 = .ok ⟨3, false⟩ ∧
      (noDelays contention).settleCond 0 = true ∧ (noDelays contention).cfg.pos[(0 : Pos)].ampSettle = 0 ∧
      (noDelays contention).cfg.pos[(0 : Pos)].tail = 0 ∧ (pttTo unit 0 true).seqs[(0 : Pos)] = .idle ∧
      (pttTo unit 0 true).sam.pos[(0 : Pos)].ptt.change = some true ∧
      (pttTo unit 0 true).keyDecision 0 = .error .noAntenna ∧
      (pttTo unit 0 false).sam.pos[(0 : Pos)].ptt.change = some false ∧ unit.cfg.pos[(0 : Pos)].tail ≠ 0 ∧
      ((pttTo unit 0 false).setSeq 0 (.settling 990)).seqs[(0 : Pos)] = .settling 990 ∧
      ((pttTo unit 0 false).setSeq 0 (.keyed 990)).seqs[(0 : Pos)] = .keyed 990 ∧
      ((pttTo unit 0 false).setSeq 0 .denied).seqs[(0 : Pos)] = .denied ∧
      ((pttTo unit 0 true).setSeq 0 (.lockout .rfHang)).seqs[(0 : Pos)] = .lockout .rfHang := by
  exact ⟨by decide, by decide, by decide, by rfl, by decide +kernel, by decide, by rfl, by decide +kernel, by decide +kernel,
    by decide +kernel, by decide, by decide, by rfl, by decide⟩

theorem witness_RfsChangeIsTaken :
    (rfsTo unit 0 true).powered = true ∧ (rfsTo unit 0 true).seqs[(0 : Pos)] = .idle ∧
      ((rfsTo unit 0 true).setSeq 0 .denied).seqs[(0 : Pos)] = .denied ∧
      (rfsTo unit 0 true).sam.pos[(0 : Pos)].rfs.change = some true ∧
      (rfsTo unit 0 false).sam.pos[(0 : Pos)].rfs.change = some false ∧ unit.cfg.pos[(0 : Pos)].tail ≠ 0 ∧
      ((rfsTo unit 0 true).setSeq 0 (.settling 990)).seqs[(0 : Pos)] = .settling 990 ∧
      ((rfsTo unit 0 true).setSeq 0 (.keyed 990)).seqs[(0 : Pos)] = .keyed 990 := by decide

theorem witness_KeyLineFaultLocksOut :
    let s := unit.setLines 0 { unit.sam.pos[0] with keyWatch := some 995 }
    s.powered = true ∧ s.sam.pos[(0 : Pos)].keyWatch = some 995 ∧ 995 + 5 ≤ s.now ∧ s.seqs[(0 : Pos)] = .idle ∧
      ((keyed s 0 3).setSeq 0 (.settling 999)).inSpan 0 = true ∧
      (s.setSeq 0 (.lockout .rfHang)).seqs[(0 : Pos)] = .lockout .rfHang ∧
      (s.setSeq 0 (.lockout .keyLine)).seqs[(0 : Pos)] = .lockout .keyLine ∧ (s.setSeq 0 .parked).isParked 0 = true := by
  decide

theorem witness_SettleAndLimitTimers :
    let s := contention.setSeq 0 (.settling 975)
    let t := { contention.setSeq 0 (.keyed 975) with now := 180975 }
    s.powered = true ∧ s.seqs[(0 : Pos)] = .settling 975 ∧ 975 + s.cfg.pos[(0 : Pos)].ampSettle ≤ s.now ∧
      s.settleCond 0 = true ∧ (unit.setSeq 0 (.settling 975)).settleCond 0 = false ∧
      t.seqs[(0 : Pos)] = .keyed 975 ∧ 975 + t.cfg.pos[(0 : Pos)].keyLimit * 1000 ≤ t.now ∧
      t.cfg.pos[(0 : Pos)].tail ≠ 0 := by decide +kernel

/-- A main that a BAND mark names, no longer eligible in S8 and still eligible in S1; one without a mark and without yield;
and P5, which waits for A1 when that is free, before P3 in arbitration order. -/
theorem witness_TailEndChoosesState :
    let s := contention.setSeq 0 (.tail .unsequenced (some .unsequenced) 70 980)
    let u := (s.setHold 0 { s.hold[0] with markMain := some .band }).setBandUnit 0 (onBand 3 8 1)
    let v := s.setHold 0 { s.hold[0] with markMain := some .band }
    let w := { s with cfg := { s.cfg with station := ⟨3, 2, 300, 0⟩ } }
    let y := freed.setSeq 4 (.tail .release none 70 980)
    (∀ a, v.hold[(0 : Pos)].markMain ≠ some (.fault a)) ∧ s.BooksAgree ∧ u.BooksAgree ∧ y.BooksAgree ∧
      (y.setSeq 4 .idle).FirstInLine 0 .main ⟨4, .main, .operator, 950⟩ ∧ s.powered = true ∧
      s.seqs[(0 : Pos)] = .tail .unsequenced (some .unsequenced) 70 980 ∧ 980 + s.cfg.pos[(0 : Pos)].tail ≤ s.now ∧
      u.hold[(0 : Pos)].mark .main = some .band ∧ u.heldAnt 0 .main = some 0 ∧ u.elig .main 0 0 = false ∧
      w.cfg.station.yieldTime = 0 ∧ w.hold[(0 : Pos)].pendMain = none ∧ w.hold[(0 : Pos)].main = setOn 0 ∧
      w.hold[(0 : Pos)].markMain = none ∧ w.hold[(0 : Pos)].markListen = none ∧ v.mainElig 0 0 = true ∧
      y.seqs[(4 : Pos)] = .tail .release none 70 980 ∧ y.hold[(4 : Pos)].markMain = none ∧
      y.hold[(4 : Pos)].markListen = none ∧ y.hold[(4 : Pos)].pendMain = some 0 ∧ y.alloc[(0 : Ant)].holder = none := by
  refine ⟨by decide +kernel, books_contention,
    books_of (by decide +kernel), books_freed,
    ⟨⟨rfl, by decide +kernel⟩, [⟨2, .main, .operator, 900⟩], [], by decide +kernel, ?_, by simp⟩, by decide +kernel⟩
  simp only [State.MayGrant]
  decide +kernel

theorem witness_ClearLeavesLockout :
    let s := unit.setSeq 0 (.lockout .rfHang)
    parked6.isParked 5 = true ∧ unit.Serving (linkOf 0) ∧ (∀ c, unit.seqs[(0 : Pos)] ≠ .lockout c) ∧
      unit.isParked 0 = false ∧ s.seqs[(0 : Pos)] = .lockout .rfHang ∧ s.sam.pos[(0 : Pos)].ptt.accepted ≠ .active ∧
      s.sam.pos[(0 : Pos)].rfs.accepted ≠ .active ∧
      (s.setLines 0 { s.sam.pos[0] with ptt := ⟨.active, [true, true, true]⟩ }).sam.pos[(0 : Pos)].ptt.accepted = .active :=
  ⟨by decide, serving_unit _, fun c => by cases c <;> decide, by decide⟩

theorem witness_HarmonicCheckIsNearestHarmonic : 0 < 1 ∧ harmonicTest 7025000 14056000 3000 = true := by decide

theorem witness_ProtectAnswersByTable :
    let s := unit.setProt 0 ⟨0, 0, 0, true⟩
    let t := s.setProt 1 ⟨0, 0, 0, true⟩
    parked6.isParked 5 = true ∧ unit.Serving (linkOf 2) ∧ unit.isParked 2 = false ∧
      (unit.setBandUnit 2 BandUnit.initial).bandOf 2 = none ∧ t.bandOf 2 = some 3 ∧ s.prot[(0 : Pos)].flag = true ∧
      t.cfg.station.protectLimit ≤ t.flagCount ∧ t.prot[(2 : Pos)].flag = false ∧ s.flagCount < s.cfg.station.protectLimit :=
  ⟨by decide, serving_unit _, by decide⟩

/-- A link with a frame in assembly. -/
def assembling (a : Assembly) : State := unit.setLink 0 { unit.links[0] with hunting := false, assembly := some a }

/-- A marked character, a noisy one, one with a zero stop bit, a length of 24, a length of 25 and a body character; a
gap of exactly 20 ms. -/
theorem witness_CharactersAssembleFrames :
    (chars 1 true).started = true ∧ (chars 1 true).stopped = true ∧ (chars 1 true).noisy = false ∧
      (chars 1 true).marked = true ∧ (chars 24 false).byte.toNat ≤ 24 ∧ 24 < (chars 25 false).byte.toNat ∧
      (chars 24 false).marked = false ∧ ({ chars 1 true with start := 7 } : CharSamples).started = false ∧
      ({ chars 1 true with stop := 1 } : CharSamples).started = true ∧
      ({ chars 1 true with stop := 1 } : CharSamples).stopped = false ∧
      ({ chars 1 true with stop := 6 } : CharSamples).stopped = true ∧
      ({ chars 1 true with stop := 6 } : CharSamples).noisy = true ∧
      unit.links[(0 : Link)].noise < 65535 ∧ unit.links[(0 : Link)].hunting = true ∧
      (assembling ⟨0x81, none, [], 980⟩).links[(0 : Link)].assembly = some ⟨0x81, none, [], 980⟩ ∧
      980 + 20 ≤ (assembling ⟨0x81, none, [], 980⟩).now ∧ ([3] : List Byte).length < 2 := by decide

/-- The check of the SELECT-MAIN of the example, right and wrong: taken, in a unit held in reset, with a full buffer and
with a full queue; the same kind is not served on the station link, and does not fit a body of one byte. -/
theorem witness_CheckCharacterCompletesFrame :
    let a : Assembly := ⟨1, some 2, [3, 1], 990⟩
    let s := assembling a
    let u := s.setLink 0 { s.links[0] with buffer := some ⟨1, []⟩ }
    let v := s.setLink 0 { s.links[0] with queue := List.replicate 8 ⟨33, []⟩ }
    s.powered = true ∧ s.links[(0 : Link)].hunting = false ∧ s.links[(0 : Link)].assembly = some a ∧
      (∀ x ∈ [chars 249 false, chars 248 false], x.started = true ∧ x.stopped = true ∧ x.marked = false) ∧
      a.len = some a.body.length ∧ a.header + BitVec.ofNat 8 a.body.length + a.body.foldl (· + ·) 0 + (chars 249 false).byte = 0 ∧
      a.header + BitVec.ofNat 8 a.body.length + a.body.foldl (· + ·) 0 + (chars 248 false).byte ≠ 0 ∧
      s.held = false ∧ s.links[(0 : Link)].buffer = none ∧ s.links[(0 : Link)].queue.length < 8 ∧
      (s.setResetLine ⟨.active, [true, true, true]⟩).held = true ∧ u.held = false ∧ u.links[(0 : Link)].buffer ≠ none ∧
      u.links[(0 : Link)].assembly = some a ∧ v.held = false ∧ v.links[(0 : Link)].buffer = none ∧
      8 ≤ v.links[(0 : Link)].queue.length ∧ v.links[(0 : Link)].assembly = some a ∧
      servedOn 0 (a.header.setWidth 7) = true ∧ readBody (a.header.setWidth 7) a.body = some (.selectMain 3 true) ∧
      servedOn 6 (a.header.setWidth 7) = false ∧ readBody (a.header.setWidth 7) [3] = none := by decide

theorem witness_BufferedFrameIsServed :
    let f := Request.frame .clear
    let s := unit.setLink 0 { unit.links[0] with buffer := some f }
    s.powered = true ∧ s.held = false ∧ s.links[(0 : Link)].buffer = some f ∧ s.links[(0 : Link)].hasRoom = true ∧
      servedOn 0 f.kind = true ∧ servedOn 6 f.kind = false := by decide

theorem witness_TransmitterSendsInOrder :
    let s := unit.setLink 0 { unit.links[0] with queue := [answerFrame 3 .done, answerFrame 4 .done], sending := some true }
    let t := unit.setLink 0 { unit.links[0] with divisor := 3 }
    s.powered = true ∧ s.links[(0 : Link)].sending = some true ∧
      s.links[(0 : Link)].queue = answerFrame 3 .done :: [answerFrame 4 .done] ∧ t.links[(0 : Link)].sending = none ∧
      t.links[(0 : Link)].queue = [] ∧ t.cfg.divisors[(0 : Link)] ≠ t.links[(0 : Link)].divisor := by decide

/-- The numbers and pages at the ends of their ranges, and just outside. -/
theorem witness_QueriesReportByTable :
    unit.Serving 6 ∧ unit.Serving 0 ∧ (1#8).toNat = (0 : Pos).val + 1 ∧ (6#8).toNat = (5 : Pos).val + 1 ∧
      (∀ p : Pos, (7#8).toNat ≠ p.val + 1) ∧ (∀ p : Pos, (0#8).toNat ≠ p.val + 1) ∧
      (20#8).toNat = (19 : Ant).val + 1 ∧ (∀ a : Ant, (0#8).toNat ≠ a.val + 1) ∧ (∀ a : Ant, (21#8).toNat ≠ a.val + 1) ∧
      (0#8).toNat = 0 ∧ (1#8).toNat = 1 ∧ (2#8).toNat = 2 ∧ (3#8).toNat = 3 ∧ 3 < (4#8).toNat ∧ 2 < (3#8).toNat :=
  ⟨serving_unit _, serving_unit _, by decide⟩

/-- Numbers at the ends of the range; a link with room whose transmitter is idle, one that sends, and a full one, with the
monitor switch off and on. -/
theorem witness_LinkQueryAndMonitor :
    let s := (unit.setLink 0 { unit.links[0] with queue := [answerFrame 3 .done], sending := some true }).setLink 1
      { unit.links[1] with queue := List.replicate 8 (answerFrame 3 .done), sending := some false }
    unit.Serving stationLink ∧ s.Serving stationLink ∧ (7#8).toNat = stationLink.val + 1 ∧
      (∀ m : Link, (0#8).toNat ≠ m.val + 1) ∧ (∀ m : Link, (8#8).toNat ≠ m.val + 1) ∧ unit.monitor = false ∧
      unit.links[linkOf 0].sending = none ∧ unit.links[linkOf 0].queue.length < 8 ∧
      s.links[linkOf 0].sending = some true ∧ s.links[linkOf 0].queue.length < 8 ∧ 8 ≤ s.links[linkOf 1].queue.length ∧
      { s with monitor := true }.monitor = true ∧ { s with monitor := true }.Serving stationLink :=
  ⟨serving_unit _, by unfold State.Serving; decide, by decide, by decide, by decide, by decide, by decide, by decide,
    by decide, by decide, by decide, rfl, by unfold State.Serving; decide⟩

/-- A name that is in range, one with an index out of range, and a body that fits no item. -/
theorem witness_ConfigReadReportsItem :
    unit.Serving stationLink ∧ readName [2, 6, 15] = some (.mapEntry 6 15) ∧
      (ItemName.mapEntry 6 15).addr = some (.mapEntry 5 15) ∧ readName [2, 6, 16] = some (.mapEntry 6 16) ∧
      (ItemName.mapEntry 6 16).addr = none ∧ readName [9] = none :=
  ⟨serving_unit _, by decide⟩

/-- A write that is clamped and one that is not, and one for each effect: a share capacity lowered to 0 and one raised to
4, a group, a map entry, an un-parking, a segment dwell, a band's settings, the wait limit, the yield time, a class, a
filter mode, and a sequencer setting for a position in SETTLING, KEYED and TAIL. -/
theorem witness_AcceptedWriteReplacesItem :
    let w := WriteItem.station 0 ⟨3, 2, 5, 60⟩
    let v := WriteItem.divisor 7 12
    unit.Serving stationLink ∧ contention.BooksAgree ∧ unit.editOpen = true ∧ unit.store.copy = none ∧
      w.value = .ok (.station ⟨3, 2, 10, 60⟩, true) ∧ unit.breaksTables (.station ⟨3, 2, 10, 60⟩) = false ∧
      unit.inUse (.station ⟨3, 2, 10, 60⟩) = false ∧ v.value = .ok (.divisor 6 12, false) ∧
      unit.breaksTables (.divisor 6 12) = false ∧ unit.inUse (.divisor 6 12) = false ∧
      (WriteItem.antenna 3 ⟨1, 0b010000, 0, 0, 20, 3⟩).value = .ok (.antenna 2 ⟨true, 0b010000, .txrx, 0, 20, 3⟩, false) ∧
      contention.breaksTables (.antenna 2 ⟨true, 0b111000, .txrx, 0, 25, 3⟩) = false ∧
      contention.inUse (.antenna 2 ⟨true, 0b111000, .txrx, 0, 25, 3⟩) = false ∧
      cfg.ants[(2 : Ant)] = ⟨true, 0b111000, .txrx, 1, 25, 2⟩ ∧
      contention.breaksTables (.antenna 0 ⟨true, 0b001000, .txrx, 4, 20, 1⟩) = false ∧
      contention.inUse (.antenna 0 ⟨true, 0b001000, .txrx, 4, 20, 1⟩) = false ∧
      contention.breaksTables (.mapEntry 3 1 ⟨.transmit, 0b110, 0b111⟩) = false ∧
      contention.inUse (.mapEntry 3 1 ⟨.transmit, 0b110, 0b111⟩) = false ∧
      parked6.cfg.pos[(5 : Pos)].parked = true ∧ parked6.inUse (.pos 5 cfg.pos[5]) = false ∧
      cfg.pos[(5 : Pos)].parked = false ∧ contention.inUse (.pos 0 { cfg.pos[0] with dwell := 0 }) = false ∧
      contention.inUse (.band 3 ⟨1, 8, .ignore, 0⟩) = false ∧ cfg.bands[(3 : Band)] = ⟨1, 1, .blank, 3000⟩ ∧
      yielding.inUse (.station ⟨3, 2, 10, 0⟩) = false ∧ cfg.station = ⟨3, 2, 300, 60⟩ ∧
      contention.inUse (.pos 0 { cfg.pos[0] with cls := .mult }) = false ∧ cfg.pos[(0 : Pos)].cls = .run ∧
      contention.inUse (.pos 0 { cfg.pos[0] with filterThru := true }) = false ∧ cfg.pos[(0 : Pos)].filterThru = false ∧
      (∀ q ∈ [SeqState.settling 990, .keyed 900, .tail .release none 70 995],
        (contention.setSeq 0 q).inUse (.pos 0 { cfg.pos[0] with ampSettle := 5, tail := 0, keyLimit := 1 }) = false) :=
  ⟨serving_unit _, books_contention, by decide, by decide, by rfl, by decide +kernel, by decide, by rfl,
    by decide +kernel, by decide, by rfl, by decide +kernel⟩

/-- A write for each refusal: UNKNOWN, INVALID for a field, INVALID for the tables, IN-USE. -/
theorem witness_WriteRefusedInOrder :
    (unit.setEdit Line.fresh).editOpen = false ∧ saving.editOpen = true ∧ saving.store.copy ≠ none ∧
      (WriteItem.divisor 8 6).name.addr = none ∧ (WriteItem.divisor 7 6).name.addr ≠ none ∧
      (WriteItem.divisor 7 5).value = .error .invalid ∧
      unit.breaksTables (.antenna 2 ⟨true, 0b111000, .rxonly, 1, 25, 2⟩) = true ∧
      contention.breaksTables (.antenna 0 ⟨true, 0b001000, .txrx, 0, 20, 1⟩) = false ∧
      contention.inUse (.antenna 0 ⟨true, 0b001000, .txrx, 0, 20, 1⟩) = true :=
  ⟨by decide, by decide +kernel, by decide +kernel, by decide, by decide, by rfl, by decide +kernel, by decide +kernel,
    by decide +kernel⟩

theorem witness_ParkingClearsPosition :
    let f : PosFields := ⟨1, 1, 1, 0, 0, 50, 10, 1000, 25, 20, 180⟩
    contention.Serving stationLink ∧ contention.editOpen = true ∧ contention.store.copy = none ∧ contention.BooksAgree ∧
      (WriteItem.pos 3 f).value = .ok (.pos 2 ⟨true, .mult, true, false, 0, 50, 10, 1000, 25, 20, 180⟩, false) ∧
      contention.cfg.pos[(2 : Pos)].parked = false ∧ contention.inSpan 2 = false :=
  ⟨serving_contention _, by decide, by decide, books_contention, by rfl, by decide, by decide⟩

theorem witness_SaveWritesCopy :
    (unit.setEdit Line.fresh).editOpen = false ∧ saving.Serving stationLink ∧ saving.editOpen = true ∧
      saving.store.copy = some cfg.image ∧ unit.Serving stationLink ∧ unit.store.copy = none :=
  ⟨by decide, serving_saving _, by decide +kernel, by decide +kernel, serving_unit _, by decide⟩

theorem witness_SavedConfigurationSurvives :
    saving.powered = true ∧ cfg.valid = true ∧ saving.store.copy = some cfg.image := by decide +kernel

theorem witness_RequestFrameRoundTrip :
    servedOn 0 (Request.kind (.selectMain 3 true)) = true ∧ servedOn 6 (Request.kind .save) = true := by decide

theorem witness_SentFrameIsAssembled :
    let x := { chars 0x81 true with stop := 6 }
    (List.replicate 24 (255 : Byte)).length ≤ 24 ∧
      vote x.start :: (x.data.toList.map vote ++ [vote x.mark, vote x.stop]) = (LinkChar.mk true 0x81).bits := by decide

/-- P1's DROP-MAIN waits. -/
def asking (s : State) : State := { s with pending := [.dropMain 0] }

/-- A unit with a position keyed, and one without its supply. -/
theorem witness_OutputsStandAsCommanded :
    let s := asking (keyed contention 0 3)
    let u := { unit with powered := false }
    s.OutputsAgree ∧ s.BooksAgree ∧ u.OutputsAgree ∧ (∃ t, step s = .next t ∧ t.powered = true) ∧ ∃ t, step u = .next t := by
  intro s u
  refine ⟨⟨fun _ => by decide +kernel, fun h => (by cases h)⟩, books_contention, ⟨fun h => (by cases h), ?_⟩, ⟨_, rfl, rfl⟩,
    _, rfl⟩
  intro _ p x
  cases x <;> revert p <;> decide +kernel

theorem witness_LimitsAreNeverPassed :
    (asking (keyed contention 0 3)).SpanOrder ∧ ∃ t, step (asking (keyed contention 0 3)) = .next t :=
  ⟨by unfold State.SpanOrder State.SpansAgree State.ModesAgree State.WithinLimits; decide +kernel, _, rfl⟩

theorem witness_LinksStayInOrder : (asking unit).LinksOk ∧ ∃ t, step (asking unit) = .next t :=
  ⟨by unfold State.LinksOk; decide +kernel, _, rfl⟩

theorem witness_BooksStayInAgreement :
    (asking contention).BooksAgree ∧ (asking contention).ListOrder ∧ ∃ t, step (asking contention) = .next t :=
  ⟨books_contention, list_contention, _, rfl⟩

theorem witness_ConfigurationStaysValid : (asking unit).CfgValid ∧ ∃ t, step (asking unit) = .next t :=
  ⟨by unfold State.CfgValid; decide +kernel, _, rfl⟩

/-- A write of the station limit changes the working configuration. -/
theorem witness_ConfigurationChangesThroughGate :
    (ran (.writeStationSettings 0 ⟨4, 2, 300, 60⟩) unit).cfg.station.stationLimit = 4 ∧
      unit.cfg.station.stationLimit = 3 := by decide +kernel

end Sys2Proof.Tests
end

section
/-! SUPPORT. Laws of the shared operations that the proofs below use: tables updated entry by entry, what an event leaves
alone, notices, receiver protection and the leaving of key span. -/

namespace Sys2Proof.Machine

/-! ## Tables updated entry by entry -/

theorem upd_upd {α : Type} {n : Nat} (v : Vector α n) (i : Fin n) (x y : α) : upd (upd v i x) i y = upd v i y := by
  apply table_ext
  intro j
  simp only [upd_get]
  split <;> rfl

/-- A run over different entries that replaces each one by a function of it. -/
theorem foldl_upd_get {α : Type} {n : Nat} (f : Fin n → α → α) (xs : List (Fin n)) (hx : xs.Nodup) (v : Vector α n)
    (i : Fin n) :
    (xs.foldl (fun w j => upd w j (f j w[j])) v)[i] = if i ∈ xs then f i v[i] else v[i] := by
  induction xs generalizing v with
  | nil => simp
  | cons j xs ih =>
    obtain ⟨hj, hxs⟩ := List.nodup_cons.mp hx
    rw [List.foldl_cons, ih hxs, upd_get]
    by_cases h : j = i
    · subst h; simp [hj]
    · simp [h, Ne.symm h]

/-- A run over all entries of a table. -/
theorem foldl_upd_eq_ofFn {α : Type} {n : Nat} (f : Fin n → α → α) (xs : List (Fin n)) (hx : xs.Nodup)
    (hall : ∀ i, i ∈ xs) (v : Vector α n) :
    xs.foldl (fun w j => upd w j (f j w[j])) v = Vector.ofFn fun i => f i v[i] := by
  apply table_ext
  intro i
  rw [foldl_upd_get f xs hx, if_pos (hall i)]
  simp

/-- A run over all positions that replaces the lines of each by a function of them. The update may read what a change of
lines leaves as it stands in `s`. -/
theorem State.each_setLines (s : State) (g : Pos → State → PosLines) (f : Pos → PosLines → PosLines)
    (hg : ∀ p m, g p { s with sam := m } = f p m.pos[p]) :
    s.each allPos (fun p t => t.setLines p (g p t)) =
      { s with sam := { s.sam with pos := Vector.ofFn fun p => f p s.sam.pos[p] } } := by
  have run (xs : List Pos) (m : Sampler) :
      State.each { s with sam := m } xs (fun p t => t.setLines p (g p t)) =
        { s with sam := { m with pos := xs.foldl (fun v p => upd v p (f p v[p])) m.pos } } := by
    induction xs generalizing m with
    | nil => rfl
    | cons p xs ih =>
      rw [State.each_cons, hg]
      exact ih { m with pos := upd m.pos p (f p m.pos[p]) }
  rw [← foldl_upd_eq_ofFn f allPos allPos_nodup mem_allPos]
  exact run allPos s.sam


/-! ## What an event leaves alone -/

theorem RestKept.refl (s : State) : RestKept s s :=
  ⟨rfl, rfl, rfl, rfl, rfl, rfl, rfl, fun _ => ⟨List.prefix_refl _, rfl⟩⟩

theorem RestKept.trans {s t u : State} (h : RestKept s t) (k : RestKept t u) : RestKept s u := by
  obtain ⟨hpow, hnow, hcfg, hstore, hedit, hreset, hmon, hlinks⟩ := h
  obtain ⟨kpow, know, kcfg, kstore, kedit, kreset, kmon, klinks⟩ := k
  refine ⟨kpow.trans hpow, know.trans hnow, kcfg.trans hcfg, kstore.trans hstore, kedit.trans hedit,
    kreset.trans hreset, kmon.trans hmon, fun l => ?_⟩
  have grow : LinkGrow s.links[l] u.links[l] :=
    LinkGrow.trans ⟨(hlinks l).1, (hlinks l).2⟩ ⟨(klinks l).1, (klinks l).2⟩
  exact ⟨grow.queue, grow.rest⟩

theorem QuietFrame.restKept {s t : State} (h : QuietFrame s t) : RestKept s t :=
  ⟨h.powered, h.now, h.cfg, h.store, by rw [h.sam], by rw [h.sam], h.monitor,
    fun l => ⟨(h.links l).queue, (h.links l).rest⟩⟩

theorem State.setLines_restKept (s : State) (p : Pos) (x : PosLines) : RestKept s (s.setLines p x) := RestKept.refl s

theorem State.setBandUnit_restKept (s : State) (p : Pos) (x : BandUnit) : RestKept s (s.setBandUnit p x) :=
  RestKept.refl s

theorem State.setFlag_restKept (s : State) (p : Pos) (on : Bool) : RestKept s (s.setFlag p on) := RestKept.refl s

/-- Allocation leaves a sequencer that is not in SETTLING, and its outputs. -/
theorem AllocFrame.seq_kept {s t : State} (h : AllocFrame s t) {p : Pos} (hp : ∀ n, s.seqs[p] ≠ .settling n) :
    t.seqs[p] = s.seqs[p] ∧ t.outs[p] = s.outs[p] := by
  rcases h.seqs p with same | ⟨n, e, -⟩
  · exact same
  · exact absurd e (hp n)

/-! ## Notices -/

theorem State.offer_links_congr {s t : State} (hl : t.links = s.links) (hh : t.held = s.held) (l : Link) (f : Frame) :
    (t.offer l f).links = (s.offer l f).links := by
  unfold State.offer
  rw [hh]
  split
  · exact hl
  · simp [hl]

/-- The transmit queues after a notice depend on the links, the hold in reset and the monitor switch alone. -/
theorem State.notify_links_congr {s t : State} (hl : t.links = s.links) (hh : t.held = s.held)
    (hm : t.monitor = s.monitor) (p : Pos) (n : Notice) : (t.notify p n).links = (s.notify p n).links := by
  have hoffer := State.offer_links_congr hl hh (linkOf p) (noticeFrame p n)
  have held (s : State) (l : Link) (f : Frame) : (s.offer l f).held = s.held := (s.offer_grow l f).frame.held
  unfold State.notify
  dsimp only
  rw [hm]
  split
  · exact State.offer_links_congr hoffer (by rw [held, held, hh]) _ _
  · exact hoffer

/-- A notice changes the links alone, and those as it would in a state with the same links. -/
theorem State.notify_eq_of_links {s t : State} (hl : t.links = s.links) (hh : t.held = s.held)
    (hm : t.monitor = s.monitor) (p : Pos) (n : Notice) :
    t.notify p n = { t with links := (s.notify p n).links } := by
  rw [← State.notify_links_congr hl hh hm]
  exact (t.notify_grow p n).eq

theorem State.lockNotice_grow (s : State) (p : Pos) (q : SeqState) : LinksGrow s (s.lockNotice p q) := by
  cases q with
  | lockout c => exact s.notify_grow p _
  | _ => exact .refl s

/-! ## Receiver protection (R153, R154, R159) -/

/-- The members of a set made from a condition are those that meet it. -/
theorem posSet_getLsbD (f : Pos → Bool) (p : Pos) : (posSet f).getLsbD p.val = f p := by
  have bit (x : PosSet) (q r : Pos) : (if f q then x ||| BitVec.twoPow 6 q.val else x).getLsbD r.val =
      (x.getLsbD r.val || (f q && decide (q = r))) := by
    cases f q <;> simp [Fin.ext_iff, eq_comm]
  have run (xs : List Pos) (x : PosSet) :
      (xs.foldl (fun x p => if f p then x ||| BitVec.twoPow 6 p.val else x) x).getLsbD p.val =
        (x.getLsbD p.val || (f p && decide (p ∈ xs))) := by
    induction xs generalizing x with
    | nil => simp
    | cons q xs ih =>
      rw [List.foldl_cons, ih, bit]
      by_cases h : q = p
      · subst h; cases f q <;> simp
      · simp [h, Ne.symm h]
  rw [posSet, run]
  simp

/-- A recomputation gives every position the pairs due and the BLK level that goes with them, and changes nothing else. -/
theorem State.recomputeBlank_eq (s : State) :
    s.recomputeBlank = { s with
      prot := Vector.ofFn s.dueOn
      outs := Vector.ofFn fun v => { s.outs[v] with blk := (s.dueOn v).nonempty } } := by
  have run (xs : List Pos) (x : Vector Protection 6) (o : Vector Outputs 6) :
      State.each { s with prot := x, outs := o } xs (fun v t => t.setCauses v (s.dueOn v)) = { s with
        prot := xs.foldl (fun x v => upd x v (s.dueOn v)) x
        outs := xs.foldl (fun o v => upd o v { o[v] with blk := (s.dueOn v).nonempty }) o } := by
    induction xs generalizing x o with
    | nil => rfl
    | cons v xs ih => exact ih _ _
  refine (run allPos s.prot s.outs).trans ?_
  rw [foldl_upd_eq_ofFn (fun v _ => s.dueOn v) _ allPos_nodup mem_allPos,
    foldl_upd_eq_ofFn (fun v (o : Outputs) => { o with blk := (s.dueOn v).nonempty }) _ allPos_nodup mem_allPos]

/-- After a recomputation every blanking cause set holds the pairs due, and BLK stands with it. -/
theorem State.recomputeBlank_blanked (s : State) : s.recomputeBlank.Blanked := by
  rw [State.recomputeBlank_eq]
  constructor
  · intro v u
    simp only [Fin.getElem_fin, Vector.getElem_ofFn, State.dueOn, posSet_getLsbD]
    exact ⟨Iff.rfl, Iff.rfl, Iff.rfl⟩
  · intro v
    simp

/-- Notices leave the blanking as it is. -/
theorem LinksGrow.blanked {s t : State} (h : LinksGrow s t) (b : s.Blanked) : t.Blanked := by
  rw [h.eq]
  exact b

/-- A recomputation leaves the other three outputs. -/
theorem State.recomputeBlank_outs (s : State) (p : Pos) : ∃ b, s.recomputeBlank.outs[p] = { s.outs[p] with blk := b } := by
  rw [State.recomputeBlank_eq]
  exact ⟨(s.dueOn p).nonempty, by simp⟩

/-! ## Leaving key span (R119, R125, R127) -/

theorem State.beginPending_drv (s : State) (p : Pos) : ∃ d, s.beginPending p = s.setDrv d := by
  unfold State.beginPending
  split
  · exact ⟨_, rfl⟩
  · exact ⟨s.drv, rfl⟩

/-- What the leaving of TAIL makes of the sequencers and the key-span records (R119, R135, R156): the record of the
position goes, every blanking cause set is as due, and its own sequencer, which has left SETTLING, stays with the levels
that it commands. -/
structure LeftSpan (s t : State) (p : Pos) : Prop where
  seq : t.seqs[p] = s.seqs[p]
  outs : ∃ b, t.outs[p] = { s.outs[p] with blk := b }
  spans : t.spans = upd s.spans p none
  inSpan : ∀ q : Pos, t.inSpan q = s.inSpan q
  blanked : t.Blanked

theorem LeftSpan.grow {s t u : State} {p : Pos} (h : LeftSpan s t p) (g : LinksGrow t u) : LeftSpan s u p where
  seq := by rw [g.eq]; exact h.seq
  outs := by rw [g.eq]; exact h.outs
  spans := by rw [g.eq]; exact h.spans
  inSpan := by rw [g.eq]; exact h.inSpan
  blanked := g.blanked h.blanked

theorem State.leaving_leftSpan (s : State) (p : Pos) (hs : ∀ n, s.seqs[p] ≠ .settling n) :
    LeftSpan s (s.leaving p) p := by
  have frame := (s.setSpan p none).allocLeaving_frame p
  unfold State.leaving
  generalize (s.setSpan p none).allocLeaving p = a at frame ⊢
  obtain ⟨d, hd⟩ := a.beginPending_drv p
  obtain ⟨b, hb⟩ := (a.setDrv d).recomputeBlank_outs p
  obtain ⟨hseq, houts⟩ := frame.seq_kept (p := p) hs
  rw [hd]
  refine ⟨?_, ⟨b, hb.trans ?_⟩, ?_, fun q => ?_, State.recomputeBlank_blanked _⟩
  · rw [State.recomputeBlank_eq]; exact hseq
  · rw [State.setDrv_outs, houts]; rfl
  · rw [State.recomputeBlank_eq]; exact frame.spans
  · rw [State.recomputeBlank_eq]; exact frame.inSpan q

/-- The notices at the end of a key span change the links alone. -/
theorem State.endSpan_grow (s : State) (p : Pos) (c : EndCause) (kt : Nat) (q : SeqState) :
    LinksGrow ((s.enter p q).leaving p) (s.endSpan p c kt q) :=
  (State.notify_grow _ p _).trans (State.lockNotice_grow _ p q)

@[simp] theorem State.enter_seq (s : State) (p : Pos) (q : SeqState) : (s.enter p q).seqs[p] = q := upd_get_same _ _ _

@[simp] theorem State.enter_out (s : State) (p : Pos) (q : SeqState) :
    (s.enter p q).outs[p] = q.outputs s.outs[p] := upd_get_same _ _ _

@[simp] theorem State.enter_spans (s : State) (p : Pos) (q : SeqState) : (s.enter p q).spans = s.spans := rfl

theorem State.enter_seq_ne (s : State) {p r : Pos} (q : SeqState) (h : r ≠ p) : (s.enter p q).seqs[r] = s.seqs[r] :=
  upd_get_ne _ _ (Ne.symm h)

theorem State.enter_inSpan_ne (s : State) {p r : Pos} (q : SeqState) (h : r ≠ p) :
    (s.enter p q).inSpan r = s.inSpan r := by
  rw [State.inSpan, State.enter_seq_ne s q h, State.inSpan]

/-- An end of key span in a state that is not SETTLING (R125, R127). -/
theorem State.endSpan_leftSpan (s : State) (p : Pos) (c : EndCause) (kt : Nat) {q : SeqState}
    (hq : ∀ n, q ≠ .settling n) : LeftSpan (s.enter p q) (s.endSpan p c kt q) p := by
  refine (State.leaving_leftSpan _ p ?_).grow (s.endSpan_grow p c kt q)
  rwa [State.enter_seq]

end Sys2Proof.Machine
end

section
/-! SUPPORT. Power, the RESET event and the state after power-on (Chapter 12, R9, R180 to R182). -/

namespace Sys2Proof.Machine

/-! ## A save cut off (R180) -/

/-- The sum of the contents and of a bad check byte is the free value plus 1, which no byte makes 0. -/
theorem byteSum_add_badCheckOf (image : List Byte) (n : Nat) : byteSum image + badCheckOf image n ≠ 0 := by
  have hsum : byteSum image + badCheckOf image n = byteOf ((Config.badCheck n).val + 1) := by
    simp only [badCheckOf, goodCheck]
    rw [← BitVec.add_assoc, BitVec.add_right_neg, BitVec.zero_add]
  have hlt := (Config.badCheck n).isLt
  rw [hsum]
  intro h
  have : ((Config.badCheck n).val + 1) % 256 = 0 := by simpa [byteOf] using congrArg BitVec.toNat h
  omega

/-- A store with a bad check gives no configuration (R181). -/
theorem loadStore_badCheckOf (image : List Byte) (n : Nat) : loadStore image (badCheckOf image n) = none := by
  simp only [loadStore, beq_iff_eq, byteSum_add_badCheckOf, if_false]

theorem State.cutSave_of_none {s : State} (h : s.store.copy = none) : s.cutSave = s := by
  simp [State.cutSave, h]

theorem State.cutSave_store_of_none {s : State} (h : s.store.copy = none) : s.cutSave.store = s.store := by
  rw [State.cutSave_of_none h]

/-- A save cut off changes the store and the counter of free values alone. -/
theorem State.cutSave_eq (s : State) :
    s.cutSave = { s with store := s.cutSave.store, freeIx := s.cutSave.freeIx } := by
  unfold State.cutSave
  split <;> rfl

theorem State.cutSave_unsaved (s : State) : s.cutSave.store.unsaved = s.store.unsaved := by
  unfold State.cutSave
  split <;> rfl

/-- No save is in flight after a cut. -/
theorem State.cutSave_copy (s : State) : s.cutSave.store.copy = none := by
  cases h : s.store.copy with
  | none => rw [State.cutSave_of_none h, h]
  | some c => simp [State.cutSave, h]

/-- A save in flight that is cut off leaves a store that reads bad and is not loaded (R180). -/
theorem State.cutSave_spoils {s : State} (h : s.store.copy.isSome = true) :
    s.cutSave.store.good = false ∧ loadStore s.cutSave.store.image s.cutSave.store.check = none := by
  obtain ⟨c, hc⟩ := Option.isSome_iff_exists.mp h
  simp [State.cutSave, hc, loadStore_badCheckOf]

/-! ## Power (R10, R180, R181) -/

/-- Settles O5: the save in flight is cut off (`cutSave_spoils`), and every output stands at its safe level. -/
theorem powerLossSpoilsSave : Obligations.PowerLossSpoilsSave := by
  intro s hp
  refine ⟨s.powerDown, whenPowered_on hp _, rfl, s.cutSave_copy, State.cutSave_store_of_none,
    State.cutSave_spoils, ?_⟩
  intro p x
  simp [State.driverState, State.powerDown]

/-- The store read at power-on: its contents stay, and it gives a configuration or the factory defaults (R181). -/
theorem StoreUnit.load_eq (x : StoreUnit) :
    x.load = ((loadStore x.image x.check).getD Cfg.factory,
      ⟨x.image, x.check, (loadStore x.image x.check).isSome, none, false⟩) := by
  unfold StoreUnit.load
  cases loadStore x.image x.check <;> rfl

theorem Cfg.firstSeqs_get (c : Cfg) (p : Pos) : c.firstSeqs[p] = if c.pos[p].parked then .parked else .idle := by
  simp [Cfg.firstSeqs]

/-- Settles O4: with no save to cut off the store is read as it stands, and every other block is that of `State.reset`. -/
theorem powerOnLoadsStore : Obligations.PowerOnLoadsStore := by
  intro s hp hc
  have hload : s.cutSave.store.load = ((loadStore s.store.image s.store.check).getD Cfg.factory,
      ⟨s.store.image, s.store.check, (loadStore s.store.image s.store.check).isSome, none, false⟩) := by
    rw [State.cutSave_of_none hc, StoreUnit.load_eq]
  refine ⟨s.powerUp, by simp [exec, execPowerOn, hp], rfl, congrArg Prod.fst hload, congrArg Prod.snd hload, ?_⟩
  refine ⟨?outs, fun p => Cfg.firstSeqs_get _ p, ?units, ?lines, ?books, ?contacts, rfl, rfl, rfl, ?filters, ?links,
    rfl, rfl, rfl⟩
  case links => intro l; simp [State.powerUp]
  all_goals
    simp [State.powerUp, State.reset, State.xp, Driver.initial, Outputs.safe, BandUnit.initial, HoldRecord.initial,
      Protection.initial, PosLines.initial, AllocRecord.initial, Crosspoint.initial]

/-! ## Reset (R9, R182) -/

/-- The live state after a reset is that of R182. -/
theorem State.resetLive_resetFrom (s : State) : ResetFrom s s.resetLive := by
  unfold State.resetLive
  rw [State.cutSave_eq]
  refine ⟨rfl, rfl, rfl, rfl, s.cutSave_unsaved, rfl, ?lines, ?outs, ?units, ?books, ?contacts, rfl, rfl, rfl, ?filters,
    rfl⟩
  case units =>
    intro p
    exact ⟨by simp, by simp, by simp, by simp, Cfg.firstSeqs_get _ p⟩
  all_goals
    simp [State.xp, Sampler.afterReset, PosLines.afterReset, PosLines.initial, Outputs.safe, Driver.afterReset]

/-- A reset empties each link, at the divisor applied before (R174, log entry 54). -/
theorem State.resetLive_links (s : State) (l : Link) :
    s.resetLive.links[l] = LinkState.initial s.links[l].divisor := by
  unfold State.resetLive
  rw [State.cutSave_eq]
  simp [LinkState.afterReset]

/-- A reset keeps the accepted value of RESET, and with it the hold in reset (R9, log entry 42). -/
theorem State.resetLive_held (s : State) : s.resetLive.held = s.held := by
  unfold State.resetLive State.held
  rw [State.cutSave_eq]
  rfl

/-- Settles O6: the reset of every block is `resetLive`, made on the state in which ACTIVE is accepted on RESET. -/
theorem resetEventResets : Obligations.ResetEventResets := by
  intro s hp hc
  let u := s.setResetLine { s.sam.reset with accepted := .active }
  have hexec : exec .resetEvent s = .next u.resetLive := by
    simp [exec, execResetEvent, whenPowered_on hp, hc, u]
  refine ⟨u.resetLive, hexec, u.resetLive_resetFrom, u.resetLive_held, u.resetLive_links, u.cutSave_copy,
    State.cutSave_store_of_none (s := u), State.cutSave_spoils (s := u)⟩

/-! ## The state after power-on (R181) -/

/-- Every output of the reset state stands as the sequencer in PARKED commands (R11, R118). -/
theorem State.reset_outputsAgree : State.reset.OutputsAgree :=
  ⟨fun _ p => by
    simp [State.reset, State.commanded, Outputs.safe, SeqState.outputs, Protection.initial, Protection.nonempty], nofun⟩

/-- The reset state has no key-span record and no protect flag, and every position of it is PARKED. -/
theorem State.reset_spanOrder : State.reset.SpanOrder := by
  refine ⟨fun p => ?_, fun p => ?_, fun b => ?_, ?_, ?_⟩
  · simp [State.reset, State.inSpan, SeqState.inSpan]
  · simp [State.reset, State.isParked, Cfg.factory]
  · simp [State.bandCount, State.reset]
  · simp [State.stationCount, State.reset]
  · simp [State.flagCount, State.reset, Protection.initial]

theorem State.reset_linksOk : State.reset.LinksOk := by
  intro l
  simp only [State.reset, Fin.getElem_fin, Vector.getElem_replicate]
  decide

/-- Both books of the reset state are empty (R72). -/
theorem State.reset_booksAgree : State.reset.BooksAgree := by
  have alloc (a : Ant) : State.reset.alloc[a] = AllocRecord.initial := by simp [State.reset]
  have hold (p : Pos) : State.reset.hold[p] = HoldRecord.initial := by simp [State.reset]
  have holding (k : Slot) : HoldRecord.initial.holding k = none := by cases k <;> rfl
  have pend (k : Slot) : HoldRecord.initial.pend k = none := by cases k <;> rfl
  have pendMain : HoldRecord.initial.pendMain = none := rfl
  refine ⟨?mains, ?listens, ?waits, ?apart, ?shares⟩
  case mains => intro p a; simp [alloc, State.heldAnt, hold, holding, AllocRecord.initial]
  case listens => constructor <;> intros <;> simp [alloc, State.heldAnt, hold, holding, AllocRecord.initial]
  case waits =>
    refine ⟨fun p a k => ?_, fun a => ?_, fun p a k => ?_⟩
    all_goals simp [State.waitsOn, alloc, hold, pend, AllocRecord.initial]
  case apart =>
    refine ⟨fun p a => ?_, fun p a => ?_, fun p a => ?_, fun p a => ?_⟩
    all_goals simp [State.heldAnt, alloc, hold, holding, pendMain, AllocRecord.initial]
  case shares => intro a; simp [alloc, AllocRecord.initial]

theorem State.reset_listOrder : State.reset.ListOrder := by
  simp [State.ListOrder, State.reset, Driver.initial]

/-- Factory defaults are in range, and with no antenna in any set the two tables are consistent (R31, R39). -/
theorem Cfg.factory_valid : Cfg.factory.valid = true := by decide +kernel

/-- Settles O3: the blocks are read off `State.reset`, and each invariant is a lemma above. -/
theorem resetIsFactoryPowerOn : Obligations.ResetIsFactoryPowerOn := by
  refine ⟨?absent, ?parked, ?outs, ?contacts, ?lines, rfl, rfl, ?alloc, ?links, rfl, State.reset_outputsAgree,
    State.reset_spanOrder, State.reset_linksOk, State.reset_booksAgree, State.reset_listOrder, Cfg.factory_valid⟩
  all_goals
    simp [State.reset, Cfg.factory, State.isParked, Outputs.safe, State.xp, Driver.initial, Crosspoint.initial,
      PosLines.initial, Line.fresh, BandUnit.initial, AllocRecord.initial, LinkState.initial]

/-! ## Two-level lines (R1, R2) -/

/-- The accepted value is active exactly at an active level. -/
@[simp] theorem Accepted.of_isActive (v : Bool) : (Accepted.of v).isActive = v := by cases v <;> rfl

/-- Settles O9, by the two levels and the oldest sample of the history. -/
theorem secondSampleIsAccepted : Obligations.SecondSampleIsAccepted := by
  intro v a
  cases v <;> cases a <;> decide

/-- Settles O10: each change accepts the level that it delivers. -/
theorem stationLinesAreAccepted : Obligations.StationLinesAreAccepted := by
  intro s hp
  constructor
  · intro v hv
    refine ⟨s.setEdit { s.sam.edit with accepted := .of v }, ?_, Accepted.of_isActive v, rfl⟩
    simp [exec, execEditChange, whenPowered_on hp, hv]
  · intro hv
    refine ⟨s.setResetLine { s.sam.reset with accepted := .inactive }, ?_, rfl, rfl⟩
    simp [exec, execResetRelease, whenPowered_on hp, hv]

end Sys2Proof.Machine
end

section
/-! SUPPORT. One sampling instant (Chapter 1). -/

namespace Sys2Proof.Machine

/-! ## One sample of a two-level line (R1, R2) -/

/-- The majority of a full history is INACTIVE with at most one active sample (R2). -/
theorem Line.debounced_false (x : Line) :
    x.debounced = some false ↔ x.history.length = 3 ∧ x.history.count true ≤ 1 := by
  unfold Line.debounced
  split
  · next a b c h => rw [h]; cases a <;> cases b <;> cases c <;> decide
  · next h =>
    constructor
    · intro e; cases e
    · intro ⟨hlen, _⟩
      obtain ⟨a, b, c, e⟩ := List.length_eq_three.mp hlen
      exact absurd e (h a b c)

theorem Line.sample_history (x : Line) (v : Bool) : (x.sample v).history = pushSample x.history v := by
  unfold Line.sample
  dsimp only
  split <;> rfl

/-- A sample is taken as R1 and R2 say. -/
theorem Line.sample_taken (x : Line) (v : Bool) : LineTaken x (x.sample v) v := by
  refine ⟨by simp [Line.sample_history, pushSample, Config.historyLength], ?_⟩
  rw [Line.sample_history]
  by_cases hu : x.accepted = .unknown <;> simp [Line.sample, hu, Line.debounced_false, apply_ite Line.accepted]

/-- A sample alone makes no line active. -/
theorem Line.sample_isActive (x : Line) (v : Bool) : (x.sample v).accepted.isActive = x.accepted.isActive := by
  rw [(x.sample_taken v).2]
  split
  · next h => rw [h.1]; rfl
  · rfl

/-! ## One sample of a position (R5, R6, R12) -/

/-- The code and the start of the settle candidate after a sample (R5). -/
theorem nextCandidate_code (accepted : Option (BitVec 4)) (c : Option Candidate) (code : BitVec 4) (now settle : Nat) :
    (nextCandidate accepted c code now settle).map (fun x => (x.code, x.start)) =
      if accepted = some code then none
      else match c with
        | some x => if x.code = code then some (x.code, x.start) else some (code, now)
        | none => some (code, now) := by
  unfold nextCandidate
  by_cases h : accepted = some code
  · simp [h]
  · cases c with
    | none => simp [h]
    | some x => by_cases e : x.code = code <;> simp [h, e]

/-- A settle candidate that does not begin with this sample is ripe when its settle time has run out (R6). -/
theorem nextCandidate_ripe {accepted : Option (BitVec 4)} {c : Option Candidate} {code : BitVec 4} {now settle : Nat}
    {x : Candidate} (h : nextCandidate accepted c code now settle = some x) (hx : x.start < now) :
    x.ripe = true ↔ x.start + settle ≤ now := by
  unfold nextCandidate at h
  split at h
  · cases h
  · split at h
    · split at h
      · cases h; simp
      · cases h; exact absurd hx (Nat.lt_irrefl _)
    · cases h; exact absurd hx (Nat.lt_irrefl _)

/-! ## One sample of the unit (R1, R9, R109) -/

/-- A position's lines after a sample: while the unit is held in reset only the level sensed on KEY is read (R9). -/
def State.linesAfter (s : State) (x : Sample) (p : Pos) : PosLines :=
  if s.held then { s.sam.pos[p] with keySensed := x.pos[p].key }
  else s.sam.pos[p].sample x.pos[p] s.outs[p].key s.now s.cfg.pos[p].bandSettle

/-- A crosspoint after a sample, with its watch (R109, R115). -/
def State.contactAfter (s : State) (p : Pos) (a : Ant) : Crosspoint :=
  { s.xp p a with watch :=
    if s.held = true ∨ s.drv.release ≠ .none then (s.xp p a).watch
    else if (s.xp p a).disagrees = true ∧ s.underCommand p a = false then some ((s.xp p a).watch.getD s.now)
    else none }

theorem State.sampleLines_eq (s : State) (x : Sample) :
    s.sampleLines x = { s with sam := {
      edit := if s.held then s.sam.edit else s.sam.edit.sample x.edit
      reset := s.sam.reset
      pos := Vector.ofFn (s.linesAfter x) } } := by
  unfold State.sampleLines State.linesAfter
  cases s.held with
  | true => exact s.each_setLines _ (fun p y => { y with keySensed := x.pos[p].key }) fun _ _ => rfl
  | false =>
    exact State.each_setLines _ _ (fun p y => y.sample x.pos[p] s.outs[p].key s.now s.cfg.pos[p].bandSettle)
      fun _ _ => rfl

theorem State.watchRow_eq (s : State) (p : Pos) (h : ¬(s.held = true ∨ s.drv.release ≠ .none)) :
    s.watchRow p = Vector.ofFn (s.contactAfter p) := by
  refine (foldl_upd_eq_ofFn (fun a (x : Crosspoint) => { x with
    watch := nextWatch x.watch (x.disagrees && !s.underCommand p a) s.now }) allAnts allAnts_nodup mem_allAnts _).trans ?_
  congr 1
  funext a
  simp only [State.contactAfter, if_neg h, nextWatch, Bool.and_eq_true, Bool.not_eq_true', State.xp]
  rfl

theorem State.watchAll_eq (s : State) :
    s.watchAll = { s with drv := { s.drv with xps := Vector.ofFn fun p => Vector.ofFn (s.contactAfter p) } } := by
  by_cases h : s.held = true ∨ s.drv.release ≠ .none
  · have same : (Vector.ofFn fun p => Vector.ofFn (s.contactAfter p)) = s.drv.xps :=
      table_ext fun p => table_ext fun a => by simp [State.contactAfter, h, State.xp]
    rw [same, State.watchAll, if_pos (by simpa using h)]
  · rw [State.watchAll, if_neg (by simpa using h),
      foldl_upd_eq_ofFn (fun p _ => s.watchRow p) _ allPos_nodup mem_allPos]
    simp only [s.watchRow_eq _ h]
    rfl

/-- Settles O8: RESET and the time base are sampled first, then the lines (`sampleLines_eq`), then the watches
(`watchAll_eq`). -/
theorem sampleTakesEveryLine : Obligations.SampleTakesEveryLine := by
  intro s x hp
  let r : State := { s with now := s.now + 1, sam := { s.sam with reset := s.sam.reset.sample x.reset } }
  have hr : r.held = s.held := Line.sample_isActive _ _
  have hsample : s.sample x = (r.sampleLines x).watchAll := rfl
  rw [State.sampleLines_eq, State.watchAll_eq] at hsample
  have lines (p : Pos) : (s.sample x).sam.pos[p] = r.linesAfter x p := by rw [hsample]; simp
  refine ⟨s.sample x, whenPowered_on hp fun u => u.sample x, ?held, by rw [hsample], ?reset, ?inReset, ?edit, ?pos, ?watches⟩
  case held => rw [hsample]; exact hr
  case reset => rw [hsample]; exact Line.sample_taken _ _
  case inReset =>
    intro h
    refine ⟨by rw [hsample]; exact if_pos (hr.trans h), fun p => ?_⟩
    rw [lines, State.linesAfter, if_pos (hr.trans h)]
  case edit =>
    intro h
    have : (s.sample x).sam.edit = s.sam.edit.sample x.edit := by
      rw [hsample]
      exact if_neg (by rw [hr, h]; decide)
    rw [this]
    exact Line.sample_taken _ _
  case pos =>
    intro h p
    rw [lines, State.linesAfter, if_neg (by rw [hr, h]; decide)]
    refine ⟨rfl, rfl, Line.sample_taken _ _, Line.sample_taken _ _, nextCandidate_code _ _ _ _ _,
      fun c hc hlt => nextCandidate_ripe hc hlt, ?_⟩
    simp [PosLines.sample, nextWatch, r]
  case watches =>
    intro p a
    rw [← hr, hsample]
    simp only [State.xp, Fin.getElem_fin, Vector.getElem_ofFn]
    rfl

end Sys2Proof.Machine
end

section
/-! SUPPORT. The KEY-LINE fault (R12, R127). -/

namespace Sys2Proof.Machine

/-- A LOCKOUT entered changes the sequencer, its outputs and the links alone. -/
theorem State.lockOut_eq (s : State) (p : Pos) (c : LockCause) :
    s.lockOut p c = { s with
      seqs := upd s.seqs p (.lockout c)
      outs := upd s.outs p ⟨false, false, true, s.outs[p].blk⟩
      links := (s.notify p (.lockout c)).links }  :=
  State.notify_eq_of_links (s := s) (t := s.enter p (.lockout c)) rfl rfl rfl p _

/-- A fault in IDLE, DENIED or key span leads to LOCKOUT with cause KEY-LINE (R127). -/
theorem State.seqKeyLine_locks (s : State) (p : Pos) (h : s.seqs[p] = .idle ∨ s.seqs[p] = .denied ∨ s.inSpan p = true) :
    (s.seqKeyLine p).seqs[p] = .lockout .keyLine ∧ (∃ b, (s.seqKeyLine p).outs[p] = ⟨false, false, true, b⟩) ∧
      (s.inSpan p = true → (s.seqKeyLine p).spans = upd s.spans p none ∧ (s.seqKeyLine p).Blanked) ∧
      (s.inSpan p = false → (s.seqKeyLine p).spans = s.spans) ∧
      ∀ q : Pos, q ≠ p → (s.seqKeyLine p).inSpan q = s.inSpan q := by
  cases hs : s.inSpan p with
  | false =>
    have e : s.seqKeyLine p = s.lockOut p .keyLine := by
      rcases h with h | h | h
      · simp only [State.seqKeyLine, h]
      · simp only [State.seqKeyLine, h]
      · rw [hs] at h; cases h
    rw [e, State.lockOut_eq]
    exact ⟨s.enter_seq p _, ⟨_, s.enter_out p (.lockout .keyLine)⟩, nofun, fun _ => rfl,
      fun q hq => s.enter_inSpan_ne (.lockout .keyLine) hq⟩
  | true =>
    have e : s.seqKeyLine p = s.endSpan p .keyLine (s.keyTime p) (.lockout .keyLine) := by
      cases hq : s.seqs[p] with
      | settling _ | keyed _ | tail _ _ _ _ => simp only [State.seqKeyLine, hq]
      | _ => rw [State.inSpan, hq] at hs; cases hs
    have left := s.endSpan_leftSpan p .keyLine (s.keyTime p) (q := .lockout .keyLine) nofun
    obtain ⟨b, hb⟩ := left.outs
    rw [e]
    refine ⟨left.seq.trans (s.enter_seq p _), ⟨b, ?_⟩, fun _ => ⟨left.spans, left.blanked⟩, nofun,
      fun q hq => (left.inSpan q).trans (s.enter_inSpan_ne _ hq)⟩
    rw [hb, State.enter_out]
    rfl

theorem State.isParked_iff (s : State) (p : Pos) : s.isParked p = true ↔ s.seqs[p] = .parked := by
  simp [State.isParked]

/-- A watch of 5 ms delivers the fault, with a new watch from now (R12). -/
theorem exec_keyLineFault {s : State} {p : Pos} {n : Nat} (hp : s.powered = true) (hw : s.sam.pos[p].keyWatch = some n)
    (hn : n + 5 ≤ s.now) :
    exec (.keyLineFault p) s =
      .next ((s.setLines p { s.sam.pos[p] with keyWatch := some s.now }).seqKeyLine p) := by
  simp only [exec, execKeyLineFault, whenPowered_on hp, hw]
  exact congrArg Host.Outcome.next (if_pos hn)

/-- Settles O35: `seqKeyLine_locks` for IDLE, DENIED and key span, and the sequencer's own cases for LOCKOUT and PARKED. -/
theorem keyLineFaultLocksOut : Obligations.KeyLineFaultLocksOut := by
  intro s p n hp hw hn
  rw [exec_keyLineFault hp hw hn]
  refine ⟨fun h => ?_, fun u hu => ⟨fun c hc hne => ?_, fun h => ?_⟩⟩
  · let u := s.setLines p { s.sam.pos[p] with keyWatch := some s.now }
    obtain ⟨hseq, ⟨b, hb⟩, hin, hout, hothers⟩ := u.seqKeyLine_locks p h
    have quiet := u.seqKeyLine_quiet p
    refine ⟨u.seqKeyLine p, rfl, hseq, by rw [hb], by rw [hb], by rw [hb], ?_,
      (s.setLines_restKept p _).trans quiet.restKept, quiet.bands, hin, hout, hothers, quiet.flags⟩
    rw [quiet.sam]
    simp [u, upd_getElem]
  · have hq : u.seqs[p] = .lockout c := by rw [hu]; exact hc
    rw [← hu, State.seqKeyLine, hq]
    simp only [beq_iff_eq, if_neg hne, State.lockOut_eq]
    rw [State.notify_links_congr (s := s) (by rw [hu]; rfl) (by rw [hu]; rfl) (by rw [hu]; rfl), hu]
    rfl
  · rw [← hu, State.seqKeyLine]
    have hq : u.seqs = s.seqs := by rw [hu]; rfl
    rcases h with h | h
    · rw [hq, h]; rfl
    · rw [hq, (s.isParked_iff p).mp h]

end Sys2Proof.Machine
end

section
/-! SUPPORT. What allocation does with the holding record of one position (Chapters 4 and 6). -/

namespace Sys2Proof.Machine

/-! ## What allocation does with one position's holding record

A position without a wait entry is no party to a hand-over: nothing that allocation does for other positions touches its
holding record. `KeepsHold` says this of one operation, for a part `v` of the record. -/

/-- A position has no wait entry on any antenna. -/
def State.Waitless (s : State) (p : Pos) : Prop := ∀ (a : Ant), ∀ e ∈ s.alloc[a].queue, e.pos ≠ p

/-- From `s` to `t` the part `v` of a position's holding record stays, and no first wait entry of it is made. -/
structure KeepsHold {β : Type} (v : HoldRecord → β) (p : Pos) (s t : State) : Prop where
  waits : s.Waitless p → t.Waitless p
  hold : v t.hold[p] = v s.hold[p]

/-- A part of a holding record does not show the switch state of a slot. -/
def SwitchBlind {β : Type} (v : HoldRecord → β) (k : Slot) : Prop :=
  ∀ (h : HoldRecord) (x : Holding) (w : SwitchState), h.holding k = some x →
    v (h.setHolding k (some { x with sw := w })) = v h

namespace KeepsHold

variable {β : Type} {v : HoldRecord → β} {p : Pos} {s t u : State}

theorem refl (v : HoldRecord → β) (p : Pos) (s : State) : KeepsHold v p s s := ⟨id, rfl⟩

theorem trans (h : KeepsHold v p s t) (k : KeepsHold v p t u) : KeepsHold v p s u :=
  ⟨fun w => k.waits (h.waits w), k.hold.trans h.hold⟩

/-- What keeps the whole record keeps each part of it. -/
theorem part (v : HoldRecord → β) (h : KeepsHold id p s t) : KeepsHold v p s t := ⟨h.waits, congrArg v h.hold⟩

/-- Books that stay keep everything. -/
theorem of_books (v : HoldRecord → β) (p : Pos) (ha : t.alloc = s.alloc) (hh : t.hold = s.hold) : KeepsHold v p s t :=
  ⟨fun w a e he => w a e (by rwa [ha] at he), by rw [hh]⟩

end KeepsHold

section Primitives

variable {β : Type} {v : HoldRecord → β} {p : Pos}

theorem State.setHold_keeps (s : State) (q : Pos) (x : HoldRecord) (h : q = p → v x = v s.hold[p]) :
    KeepsHold v p s (s.setHold q x) := by
  refine ⟨id, ?_⟩
  rw [State.setHold_hold, upd_get]
  split
  · next e => exact h e
  · rfl

/-- An allocation record whose queue gains no entry. -/
theorem State.setAlloc_keeps (s : State) (a : Ant) (x : AllocRecord) (h : ∀ e ∈ x.queue, e ∈ s.alloc[a].queue) :
    KeepsHold v p s (s.setAlloc a x) := by
  refine ⟨fun w b e he => ?_, rfl⟩
  rw [State.setAlloc_alloc, upd_get] at he
  split at he
  · next hab => exact w a e (h e he)
  · exact w b e he

theorem State.redetermine_keeps (s : State) (a : Ant) : KeepsHold v p s (s.redetermine a) :=
  s.setAlloc_keeps a _ fun _ h => h

theorem State.notify_keeps (s : State) (q : Pos) (n : Notice) : KeepsHold v p s (s.notify q n) :=
  .of_books v p (by rw [(s.notify_grow q n).eq]) (by rw [(s.notify_grow q n).eq])

theorem State.trySettle_keeps (s : State) (q : Pos) : KeepsHold v p s (s.trySettle q) := by
  unfold State.trySettle
  split
  · exact .of_books v p rfl rfl
  · exact .refl v p s

theorem State.unbookHolder_keeps (s : State) (a : Ant) : KeepsHold v p s (s.unbookHolder a) :=
  (s.setAlloc_keeps a _ fun _ h => by exact h).trans (State.redetermine_keeps _ a)

theorem State.leaveList_keeps (s : State) (q : Pos) (a : Ant) : KeepsHold v p s (s.leaveList q a) :=
  s.setAlloc_keeps a _ fun _ h => h

theorem State.bookMain_keeps (s : State) (q : Pos) (a : Ant) (o : Origin)
    (h : q = p → v { s.hold[q] with main := some ⟨a, .awaiting, o, false⟩ } = v s.hold[p]) :
    KeepsHold v p s (s.bookMain q a o) :=
  ((s.setHold_keeps q _ h).trans (State.setAlloc_keeps _ a _ fun _ h => by exact h)).trans (State.redetermine_keeps _ a)

theorem State.bookListen_keeps (s : State) (q : Pos) (a : Ant) (o : Origin)
    (h : q = p → v { s.hold[q] with listen := some ⟨a, .awaiting, o, false⟩ } = v s.hold[p]) :
    KeepsHold v p s (s.bookListen q a o) :=
  (s.setHold_keeps q _ h).trans (State.setAlloc_keeps _ a _ fun _ h => by exact h)

theorem State.unbookListen_keeps (s : State) (q : Pos) (a : Ant)
    (h : q = p → v { s.hold[q] with listen := none } = v s.hold[p]) : KeepsHold v p s (s.unbookListen q a) :=
  (s.setHold_keeps q _ h).trans (State.leaveList_keeps _ q a)

theorem State.removeEntry_keeps (s : State) (a : Ant) (q : Pos) (k : Slot)
    (h : q = p → v (s.hold[q].setPend k none) = v s.hold[p]) : KeepsHold v p s (s.removeEntry a q k) :=
  ((s.setHold_keeps q _ h).trans (State.setAlloc_keeps _ a _ fun _ he => List.mem_of_mem_filter he)).trans
    (State.redetermine_keeps _ a)

theorem State.removePending_keeps (s : State) (q : Pos) (k : Slot)
    (h : q = p → v (s.hold[q].setPend k none) = v s.hold[p]) : KeepsHold v p s (s.removePending q k) := by
  unfold State.removePending
  split
  · exact .refl v p s
  · exact s.removeEntry_keeps _ q k h

theorem State.expire_keeps (s : State) (a : Ant) (q : Pos) (k : Slot) (c : Cause)
    (h : q = p → v (s.hold[q].setPend k none) = v s.hold[p]) : KeepsHold v p s (s.expire a q k c) :=
  (s.removeEntry_keeps a q k h).trans (State.notify_keeps _ q _)

theorem State.notifyOpt_keeps (s : State) (q : Pos) (n : Option Notice) : KeepsHold v p s (s.notifyOpt q n) := by
  unfold State.notifyOpt
  split
  · exact s.notify_keeps q _
  · exact .refl v p s

/-! ## Change sets handed over -/

theorem State.listPut_keeps (s : State) (q : Pos) (x : Target) : KeepsHold v p s (s.listPut q x) := by
  unfold State.listPut
  split <;> exact .of_books v p rfl rfl

theorem State.listRemove_keeps (s : State) (q : Pos) (a : Ant) : KeepsHold v p s (s.listRemove q a) :=
  .of_books v p rfl rfl

theorem State.moveHolding_keeps (s : State) (q : Pos) (k : Slot) (a : Ant) (x y : SwitchState)
    (h : q = p → SwitchBlind v k) : KeepsHold v p s (s.moveHolding q k a x y) := by
  unfold State.moveHolding
  split
  · next c hc =>
    split
    · exact s.setHold_keeps q _ fun e => by subst e; exact h rfl _ c y hc
    · exact .refl v p s
  · exact .refl v p s

theorem State.completeHolding_keeps (s : State) (q : Pos) (k : Slot) (a : Ant) (x : SwitchState)
    (h : q = p → SwitchBlind v k) : KeepsHold v p s (s.completeHolding q k a x) := by
  unfold State.completeHolding
  split
  · next c _ =>
    split
    · have told := (s.moveHolding_keeps q k a x .set h).trans (State.notify_keeps _ q (.granted k a c.origin))
      cases k with
      | main => exact told.trans (State.trySettle_keeps _ q)
      | listen => exact told
    · exact .refl v p s
  · exact .refl v p s

theorem State.reportAlready_keeps (s : State) (q : Pos) (x : Target)
    (h : q = p → ∀ k, slotOf x.goal = some k → SwitchBlind v k) : KeepsHold v p s (s.reportAlready q x) := by
  unfold State.reportAlready
  split
  · exact .refl v p s
  · next k hk =>
    split
    · exact s.moveHolding_keeps q k _ _ _ fun e => h e k hk
    · exact s.completeHolding_keeps q k _ _ fun e => h e k hk

/-- A change set shows in a holding record in the switch states of the slots that it serves, and nowhere else. -/
theorem State.handChangeSet_keeps (s : State) (q : Pos) (ts : List Target)
    (h : q = p → ∀ x ∈ ts, ∀ k, slotOf x.goal = some k → SwitchBlind v k) : KeepsHold v p s (s.handChangeSet q ts) := by
  unfold State.handChangeSet State.addTargets
  split
  · exact .refl v p s
  · refine State.each_keeps (KeepsHold v p s) _ _ (fun x t hx ht => ?_) _ ?_
    · exact ht.trans (t.reportAlready_keeps q x fun e => h e x (List.mem_of_mem_filter hx))
    · refine State.each_keeps (KeepsHold v p s) _ _ (fun x t _ ht => ht.trans (t.listRemove_keeps q x.ant)) _ ?_
      exact State.each_keeps (KeepsHold v p s) _ _ (fun x t _ ht => ht.trans (t.listPut_keeps q x)) _ (.refl v p s)

/-- A change set that opens one crosspoint serves no slot. -/
theorem State.handOpening_keeps (s : State) (q : Pos) (a : Ant) : KeepsHold v p s (s.handChangeSet q [⟨a, .opened⟩]) := by
  refine s.handChangeSet_keeps q _ fun _ x hx k hk => ?_
  rw [List.mem_singleton.mp hx] at hk
  cases hk

/-- A grant closes its crosspoint for one slot, and opens at most the one it replaces. -/
theorem State.handGrant_keeps (s : State) (q : Pos) (a : Ant) (g : XpState) (old : Option Ant)
    (h : q = p → ∀ k, slotOf g = some k → SwitchBlind v k) :
    KeepsHold v p s (s.handChangeSet q (grantTargets a g old)) := by
  refine s.handChangeSet_keeps q _ fun e x hx k hk => ?_
  rcases List.mem_cons.mp hx with rfl | hx
  · exact h e k hk
  · obtain ⟨m, -, rfl⟩ : ∃ m, old = some m ∧ x = ⟨m, .opened⟩ := by cases old <;> simp_all
    cases hk

end Primitives

/-! ## Hand-overs pass by a position that does not wait -/

section HandOvers

variable {p : Pos}

theorem State.unbookOld_keeps (s : State) (q : Pos) (k : Slot) (old : Option Ant) :
    KeepsHold id p s (s.unbookOld q k old) := by
  unfold State.unbookOld
  split
  · exact .refl id p s
  · split
    · exact s.unbookHolder_keeps _
    · exact s.leaveList_keeps q _

theorem State.handOld_keeps {s : State} (hw : s.Waitless p) (hand : Ant → State → State)
    (hh : ∀ a t, t.Waitless p → KeepsHold id p t (hand a t)) (old : Option Ant) :
    KeepsHold id p s (s.handOld hand old) := by
  unfold State.handOld
  split
  · exact hh _ s hw
  · exact .refl id p s

theorem State.grantListenWith_keeps {s : State} (hw : s.Waitless p) (hand : Ant → State → State)
    (hh : ∀ a t, t.Waitless p → KeepsHold id p t (hand a t)) {q : Pos} (hq : q ≠ p) (a : Ant) (o : Origin) :
    KeepsHold id p s (State.grantListenWith hand q a o s) := by
  have handed := (((s.bookListen_keeps q a o fun e => absurd e hq).trans
    (State.unbookOld_keeps _ q .listen (s.heldAnt q .listen))).trans
    (State.removePending_keeps _ q .listen fun e => absurd e hq)).trans
    (State.handGrant_keeps _ q a .listen (s.heldAnt q .listen) fun e => absurd e hq)
  exact handed.trans (State.handOld_keeps (handed.waits hw) hand hh _)

/-- The entries in arbitration order are those of the queue. -/
theorem State.mem_queue_of_arbitration {s : State} {a : Ant} {k : Slot} {e : WaitEntry} (h : e ∈ s.arbitration a k) :
    e ∈ s.alloc[a].queue := by
  simp only [State.arbitration, List.mem_append, List.mem_filter] at h
  rcases h with h | h <;> exact h.1.1

theorem State.handListenFuel_keeps (n : Nat) (a : Ant) {s : State} (hw : s.Waitless p) :
    KeepsHold id p s (State.handListenFuel n a s) := by
  induction n generalizing a s with
  | zero => exact .refl id p s
  | succ n ih =>
    unfold State.handListenFuel
    split
    · split
      · exact .refl id p s
      · next e he =>
        have hne : e.pos ≠ p := hw a e (State.mem_queue_of_arbitration (List.mem_of_head? he))
        split
        · have removed := s.removeEntry_keeps (v := id) a e.pos .listen fun h => absurd h hne
          have granted := removed.trans
            (State.grantListenWith_keeps (removed.waits hw) _ (fun b t ht => ih b ht) hne a e.origin)
          exact granted.trans (ih a (granted.waits hw))
        · have expired := s.expire_keeps (v := id) a e.pos .listen .ineligible fun h => absurd h hne
          exact expired.trans (ih a (expired.waits hw))
    · exact .refl id p s

theorem State.handListen_keeps (a : Ant) {s : State} (hw : s.Waitless p) : KeepsHold id p s (State.handListen a s) :=
  State.handListenFuel_keeps _ a hw

theorem State.takeUpListen_keeps {β : Type} {v : HoldRecord → β} (s : State) (q : Pos) (a : Ant) (b : Bool)
    (h : q = p → v { s.hold[q] with listen := none } = v s.hold[p]) : KeepsHold v p s (s.takeUpListen q a b) := by
  unfold State.takeUpListen
  split
  · exact s.unbookListen_keeps q a h
  · exact .refl v p s

theorem State.grantMainWith_keeps {s : State} (hw : s.Waitless p) (hand : Ant → State → State)
    (hh : ∀ a t, t.Waitless p → KeepsHold id p t (hand a t)) {q : Pos} (hq : q ≠ p) (a : Ant) (o : Origin) :
    KeepsHold id p s (State.grantMainWith hand q a o s) := by
  have expire (t : State) (ht : KeepsHold id p s t) :
      KeepsHold id p s (if t.hold[q].pendListen == some a then t.expire a q .listen .ineligible else t) := by
    split
    · exact ht.trans (t.expire_keeps a q .listen .ineligible fun e => absurd e hq)
    · exact ht
  have handed := (expire _ ((((s.bookMain_keeps q a o fun e => absurd e hq).trans
    (State.takeUpListen_keeps _ q a (s.alloc[a].listeners.contains q) fun e => absurd e hq)).trans
    (State.unbookOld_keeps _ q .main (s.heldAnt q .main))).trans
    (State.removePending_keeps _ q .main fun e => absurd e hq))).trans
    (State.handGrant_keeps _ q a .main (s.heldAnt q .main) fun e => absurd e hq)
  have old := handed.trans (State.handOld_keeps (handed.waits hw) hand hh (s.heldAnt q .main))
  unfold State.grantMainWith
  dsimp only
  split
  · exact old.trans (State.handListen_keeps a (old.waits hw))
  · exact old

theorem State.handMainFuel_keeps (n : Nat) (a : Ant) {s : State} (hw : s.Waitless p) :
    KeepsHold id p s (State.handMainFuel n a s) := by
  induction n generalizing a s with
  | zero => exact .refl id p s
  | succ n ih =>
    unfold State.handMainFuel
    split
    · exact .refl id p s
    · split
      · exact .refl id p s
      · next e he =>
        have hne : e.pos ≠ p := hw a e (State.mem_queue_of_arbitration (List.mem_of_find?_eq_some he))
        split
        · have removed := s.removeEntry_keeps (v := id) a e.pos .main fun h => absurd h hne
          exact removed.trans (State.grantMainWith_keeps (removed.waits hw) _ (fun b t ht => ih b ht) hne a e.origin)
        · have expired := s.expire_keeps (v := id) a e.pos .main .ineligible fun h => absurd h hne
          exact expired.trans (ih a (expired.waits hw))

/-- A hand-over leaves the holding record of a position that has no wait entry. -/
theorem State.handSlot_keeps (k : Slot) (a : Ant) {s : State} (hw : s.Waitless p) : KeepsHold id p s (s.handSlot k a) := by
  cases k with
  | main => exact State.handMainFuel_keeps _ a hw
  | listen => exact State.handListen_keeps a hw

end HandOvers

/-! ## Eligibility (R41, R42) -/

/-- Allocation changes nothing that eligibility reads. -/
theorem AllocFrame.elig {s t : State} (h : AllocFrame s t) (k : Slot) (a : Ant) (p : Pos) :
    t.elig k a p = s.elig k a p := by
  have hfaults : t.drv.faults = s.drv.faults := by rw [h.drv]
  cases k <;> simp only [State.elig, State.mainElig, State.listenElig, State.inSettledSet, State.bandOf, State.entry,
    h.cfg, h.bands, hfaults]

theorem AllocFrame.bandOf {s t : State} (h : AllocFrame s t) (p : Pos) : t.bandOf p = s.bandOf p := by
  rw [State.bandOf, State.bandOf, h.bands]

/-! ## A release (R64, R65) -/

theorem HoldRecord.setHolding_self {h : HoldRecord} {k : Slot} {x : Option Holding} (e : h.holding k = x) :
    h.setHolding k x = h := by
  subst e
  cases k <;> rfl

theorem State.heldAnt_none {s : State} {p : Pos} {k : Slot} : s.heldAnt p k = none ↔ s.hold[p].holding k = none := by
  simp [State.heldAnt]

/-- The release of a slot of a position that waits for nothing empties the slot, and leaves the rest of its record. -/
theorem State.lose_hold {s : State} {p : Pos} (hw : s.Waitless p) (k : Slot) (n : Ant → Option Notice) :
    (s.lose p k n).Waitless p ∧ (s.lose p k n).hold[p] = s.hold[p].setHolding k none := by
  unfold State.lose
  split
  · next h => exact ⟨hw, (HoldRecord.setHolding_self (State.heldAnt_none.mp h)).symm⟩
  · next a _ =>
    have released (u : State)
        (h : KeepsHold id p (s.setHold p (s.hold[p].setHolding k none)) u) :
        ((u.handChangeSet p [⟨a, .opened⟩]).notifyOpt p (n a)).Waitless p ∧
          (((u.handChangeSet p [⟨a, .opened⟩]).notifyOpt p (n a)).handSlot k a).Waitless p ∧
          (((u.handChangeSet p [⟨a, .opened⟩]).notifyOpt p (n a)).handSlot k a).hold[p] =
            s.hold[p].setHolding k none := by
      have told := (h.trans (u.handOpening_keeps p a)).trans (State.notifyOpt_keeps _ p (n a))
      have all := told.trans (State.handSlot_keeps k a (told.waits hw))
      exact ⟨told.waits hw, all.waits hw, all.hold.trans (upd_get_same _ _ _)⟩
    cases k with
    | main => exact (released _ (State.unbookHolder_keeps _ a)).2
    | listen => exact (released _ (State.leaveList_keeps _ p a)).2

/-! ## A grant into an empty slot (R56, R60) -/

/-- The antenna and the origin of a slot's holding, without its switch state. -/
def HoldRecord.granted (h : HoldRecord) (k : Slot) : Option (Ant × Origin) := (h.holding k).map fun x => (x.ant, x.origin)

/-- The whole main holding, and of the listen holding the antenna. -/
def HoldRecord.mainAndListenAnt (h : HoldRecord) : Option Holding × Option Ant := (h.main, h.listen.map (·.ant))

theorem HoldRecord.granted_blind (k k' : Slot) : SwitchBlind (·.granted k) k' := by
  intro h x w hx
  simp only [HoldRecord.granted, HoldRecord.setHolding_holding]
  split
  · next e => subst e; rw [hx]; rfl
  · rfl

theorem HoldRecord.mainAndListenAnt_blind : SwitchBlind HoldRecord.mainAndListenAnt .listen := by
  intro h x w hx
  have : h.listen = some x := hx
  simp [HoldRecord.mainAndListenAnt, HoldRecord.setHolding, this]

/-- A main granted to a position without a main and without wait entries is on the antenna, with the origin given. -/
theorem State.grantMain_granted {s : State} {p : Pos} (hw : s.Waitless p) (hm : s.heldAnt p .main = none) (a : Ant)
    (o : Origin) : (s.grantMain p a o).hold[p].granted .main = some (a, o) := by
  let v : HoldRecord → Option (Ant × Origin) := (·.granted .main)
  let b := s.alloc[a].listeners.contains p
  have booked : v (s.bookMain p a o).hold[p] = some (a, o) := by
    simp only [State.bookMain, State.redetermine, State.setAlloc_hold, State.setHold_hold]
    rw [upd_get_same]
    rfl
  have bookedWaitless : (s.bookMain p a o).Waitless p :=
    ((KeepsHold.refl id p _).trans ((State.setAlloc_keeps (s.setHold p _) a _ fun _ h => by exact h).trans
      (State.redetermine_keeps _ a))).waits hw
  have pendListen (t : State) (ht : KeepsHold v p (s.bookMain p a o) t) : KeepsHold v p (s.bookMain p a o)
      (if t.hold[p].pendListen == some a then t.expire a p .listen .ineligible else t) := by
    split
    · exact ht.trans (t.expire_keeps a p .listen .ineligible fun _ => rfl)
    · exact ht
  have handed := (pendListen _ ((State.takeUpListen_keeps _ p a b fun _ => rfl).trans
    (State.removePending_keeps _ p .main fun _ => rfl))).trans
    (State.handGrant_keeps _ p a .main none fun _ k _ => HoldRecord.granted_blind .main k)
  unfold State.grantMain State.grantMainWith
  simp only [hm, State.unbookOld, State.handOld]
  split
  · exact ((handed.trans ((State.handListen_keeps a (handed.waits bookedWaitless)).part v)).hold).trans booked
  · exact handed.hold.trans booked

/-- A listen granted to a position without a listen is on the antenna, and its main stays. -/
theorem State.grantListen_granted {s : State} {p : Pos} (hl : s.heldAnt p .listen = none) (a : Ant) (o : Origin) :
    (s.grantListen p a o).hold[p].mainAndListenAnt = (s.hold[p].main, some a) := by
  have booked : (s.bookListen p a o).hold[p].mainAndListenAnt = (s.hold[p].main, some a) := by
    simp only [State.bookListen, State.setAlloc_hold, State.setHold_hold]
    rw [upd_get_same]
    rfl
  have handed : KeepsHold HoldRecord.mainAndListenAnt p (s.bookListen p a o) _ :=
    (State.removePending_keeps _ p .listen fun _ => rfl).trans
      (State.handGrant_keeps _ p a .listen none fun _ k hk => by cases hk; exact HoldRecord.mainAndListenAnt_blind)
  unfold State.grantListen State.grantListenWith
  simp only [hl, State.unbookOld, State.handOld]
  exact handed.hold.trans booked

/-! ## A follow of a slot (R89 to R92) -/

theorem State.followSlot_of_held {s : State} {p : Pos} {k : Slot} (h : (s.heldAnt p k).isSome = true) :
    s.followSlot p k = s := by
  simp only [State.followSlot]
  rw [if_neg (by cases hk : s.heldAnt p k <;> simp_all)]

theorem State.followSlot_off {s : State} {p : Pos} (h : s.cfg.pos[p].follow = false) (k : Slot) :
    s.followSlot p k = s := by
  rw [State.followSlot, if_neg (by rw [h]; simp)]

/-- Without a band there is no list to walk (log entry 23). -/
theorem State.followSlot_of_no_band {s : State} {p : Pos} (h : s.bandOf p = none) (k : Slot) : s.followSlot p k = s := by
  unfold State.followSlot State.walk
  rw [h]
  split <;> rfl

/-- The queue pass leaves what a position holds. -/
theorem State.queuePass_holding (s : State) (p : Pos) (k k' : Slot) (b : Band) :
    (s.queuePass p k b).hold[p].holding k' = s.hold[p].holding k' := by
  have append (t : State) (a : Ant) : (t.appendEntry a p k .follow).hold[p].holding k' = t.hold[p].holding k' := by
    simp only [State.appendEntry, State.redetermine, State.setAlloc_hold, State.setHold_hold]
    rw [upd_get_same, HoldRecord.setPend_holding]
  unfold State.queuePass
  split
  · exact (s.notify_keeps (v := (·.holding k')) p _).hold
  · dsimp only
    split
    · exact append _ _
    · next c _ =>
      exact (append _ _).trans ((s.removeEntry_keeps (v := (·.holding k')) c p k fun _ =>
        HoldRecord.setPend_holding _ _ _ _).trans (State.notify_keeps _ p _)).hold

/-- What a follow can do: nothing for the holdings, or a grant of a candidate. -/
theorem State.followSlot_cases (s : State) (p : Pos) (k : Slot) :
    (∀ k', (s.followSlot p k).hold[p].holding k' = s.hold[p].holding k') ∨
      ∃ a, s.candidate k p a = true ∧ s.followSlot p k = s.followGrant p k a := by
  unfold State.followSlot
  split
  · unfold State.walk
    split
    · exact .inl fun _ => rfl
    · split
      · next a ha =>
        have := List.find?_some ha
        exact .inr ⟨a, (Bool.and_eq_true_iff.mp this).1, rfl⟩
      · split
        · split
          · exact .inl fun _ => rfl
          · exact .inl fun k' => s.queuePass_holding p k k' _
        · exact .inl fun k' => s.queuePass_holding p k k' _
  · exact .inl fun _ => rfl

/-- A main found after a follow was there before, or is eligible. -/
theorem State.followMain_heldAnt {s : State} {p : Pos} (hw : s.Waitless p) {a : Ant}
    (ha : (s.followSlot p .main).heldAnt p .main = some a) : s.heldAnt p .main = some a ∨ s.mainElig a p = true := by
  cases hm : s.heldAnt p .main with
  | some m => rw [State.followSlot_of_held (by rw [hm]; rfl), hm] at ha; exact .inl ha
  | none =>
    rcases s.followSlot_cases p .main with same | ⟨c, hc, e⟩
    · rw [State.heldAnt, same, State.heldAnt_none.mp hm] at ha; cases ha
    · have granted := State.grantMain_granted hw hm c .follow
      rw [e] at ha
      have hca : c = a := by
        simp only [State.heldAnt, State.followGrant, HoldRecord.granted, Option.map_eq_some_iff,
          Prod.mk.injEq] at ha granted
        obtain ⟨x, hx, hxa⟩ := ha
        obtain ⟨y, hy, hyc, -⟩ := granted
        rw [hx] at hy
        cases hy
        exact hyc.symm.trans hxa
      exact .inr (hca ▸ hc)

/-- The follow of the listen slot leaves the main, and a listen found after it was there before, or is eligible. -/
theorem State.followListen_hold (s : State) (p : Pos) :
    (s.followSlot p .listen).hold[p].main = s.hold[p].main ∧
      ∀ a, (s.followSlot p .listen).heldAnt p .listen = some a →
        s.heldAnt p .listen = some a ∨ s.listenElig a p = true := by
  cases hl : s.heldAnt p .listen with
  | some m =>
    rw [State.followSlot_of_held (by rw [hl]; rfl), hl]
    exact ⟨rfl, fun a ha => .inl ha⟩
  | none =>
    rcases s.followSlot_cases p .listen with same | ⟨c, hc, e⟩
    · refine ⟨same .main, fun a ha => ?_⟩
      rw [State.heldAnt, same, State.heldAnt_none.mp hl] at ha
      cases ha
    · have granted := Prod.mk.inj (State.grantListen_granted hl c .follow)
      rw [e]
      refine ⟨granted.1, fun a ha => .inr ?_⟩
      have hca : some c = some a := granted.2.symm.trans ha
      cases hca
      exact (Bool.and_eq_true_iff.mp hc).1

/-- The first free eligible antenna of the main list is granted with origin FOLLOW (R90). -/
theorem State.followMain_first {s : State} {p : Pos} {b : Band} {a : Ant} (hw : s.Waitless p)
    (hm : s.heldAnt p .main = none) (hb : s.bandOf p = some b) (hf : s.cfg.pos[p].follow = true)
    (ha : FirstOf s.cfg.prefs[p][b].main (fun x => s.mainElig x p && s.alloc[x].holder.isNone) a) :
    (s.followSlot p .main).hold[p].granted .main = some (a, .follow) := by
  obtain ⟨before, after, hlist, hgood, hbad⟩ := ha
  have found : (s.prefList p b .main).find? (fun x => s.candidate .main p x && s.slotFree .main x) = some a :=
    List.find?_eq_some_iff_append.mpr ⟨hgood, before, after, hlist, fun x hx => by
      exact Bool.not_eq_true' _ |>.mpr (hbad x hx)⟩
  rw [State.followSlot, if_pos (by rw [hf, hm]; rfl), State.walk, hb]
  dsimp only
  rw [found]
  exact State.grantMain_granted hw hm a .follow

end Sys2Proof.Machine
end

section
/-! SUPPORT. The band change of a position (R14 to R18, R93 to R95, R113, R122 to R125): the part of each block, and the
whole. -/

namespace Sys2Proof.Machine

/-! ## Allocation at a band change (R93 to R95) -/

/-- The notices of R93 for the pending requests of a holding record, the main before the listen. -/
def State.tellWithdrawn (s : State) (p : Pos) (h : HoldRecord) : State :=
  let n := h.pendMain.elim s fun a => s.notify p (.withdrawn .main a)
  h.pendListen.elim n fun a => n.notify p (.withdrawn .listen a)

/-- A request withdrawn leaves the books, a notice and nothing else (R93). -/
theorem State.withdraw_eq (s : State) (p : Pos) (k : Slot) : ∃ al : Vector AllocRecord 20,
    s.withdraw p k = { s with
      alloc := al
      hold := upd s.hold p (s.hold[p].setPend k none)
      links := ((s.hold[p].pend k).elim s fun a => s.notify p (.withdrawn k a)).links } ∧
    (∀ a : Ant, al[a].holder = s.alloc[a].holder) ∧
    ∀ (a : Ant), ∀ e ∈ al[a].queue, e ∈ s.alloc[a].queue ∧
      (s.hold[p].pend k = some a → ¬(e.pos = p ∧ e.kind = k)) := by
  cases h : s.hold[p].pend k with
  | none =>
    refine ⟨s.alloc, ?_, fun _ => rfl, fun a e he => ⟨he, nofun⟩⟩
    have : s.hold[p].setPend k none = s.hold[p] := by rw [← h]; cases k <;> rfl
    rw [this, upd_self, State.withdraw, h]
    rfl
  | some b =>
    refine ⟨(s.removeEntry b p k).alloc, ?_, fun a => ?_, fun a e he => ?_⟩
    · rw [State.withdraw, h]
      exact State.notify_eq_of_links (s := s) (t := s.removeEntry b p k) rfl rfl rfl p _
    · simp only [State.removeEntry, State.redetermine, State.setAlloc_alloc, State.setHold_alloc, upd_get]
      split
      · next e => subst e; rfl
      · rfl
    · simp only [State.removeEntry, State.redetermine, State.setAlloc_alloc, State.setHold_alloc, upd_get] at he
      split at he
      · next e =>
        subst e
        obtain ⟨hmem, hkeep⟩ := List.mem_filter.mp he
        exact ⟨hmem, fun _ ⟨hp, hk⟩ => by simp [hp, hk] at hkeep⟩
      · next hne => exact ⟨he, fun hb => absurd (Option.some.inj hb) hne⟩

theorem State.notifyIf_links_congr {s t : State} (hl : t.links = s.links) (hh : t.held = s.held)
    (hm : t.monitor = s.monitor) (p : Pos) (o : Option Ant) (f : Ant → Notice) :
    (o.elim t fun a => t.notify p (f a)).links = (o.elim s fun a => s.notify p (f a)).links := by
  cases o with
  | none => exact hl
  | some a => exact State.notify_links_congr hl hh hm p (f a)

theorem State.notifyIf_grow (s : State) (p : Pos) (o : Option Ant) (f : Ant → Notice) :
    LinksGrow s (o.elim s fun a => s.notify p (f a)) := by
  cases o with
  | none => exact .refl s
  | some a => exact s.notify_grow p (f a)

/-- Two states with the same links send the same withdrawals. -/
theorem State.tellWithdrawn_links_congr {s t : State} (hl : t.links = s.links) (hh : t.held = s.held)
    (hm : t.monitor = s.monitor) (p : Pos) (h : HoldRecord) :
    (t.tellWithdrawn p h).links = (s.tellWithdrawn p h).links := by
  have ht := t.notifyIf_grow p h.pendMain fun a => .withdrawn .main a
  have hs := s.notifyIf_grow p h.pendMain fun a => .withdrawn .main a
  exact State.notifyIf_links_congr (State.notifyIf_links_congr hl hh hm p _ _)
    (by rw [ht.frame.held, hs.frame.held, hh]) (by rw [ht.frame.monitor, hs.frame.monitor, hm]) p _ _

/-- Both requests of a position withdrawn (R93). In books that agree it then waits for nothing. -/
theorem State.withdrawBoth_eq (s : State) (p : Pos) : ∃ al : Vector AllocRecord 20,
    (s.withdraw p .main).withdraw p .listen = { s with
      alloc := al
      hold := upd s.hold p { s.hold[p] with pendMain := none, pendListen := none }
      links := (s.tellWithdrawn p s.hold[p]).links } ∧
    (∀ a : Ant, al[a].holder = s.alloc[a].holder) ∧
    (s.BooksAgree → ∀ (a : Ant), ∀ e ∈ al[a].queue, e.pos ≠ p) := by
  obtain ⟨al, h1, holder1, queue1⟩ := s.withdraw_eq p .main
  obtain ⟨al', h2, holder2, queue2⟩ := (s.withdraw p .main).withdraw_eq p .listen
  have told := s.notifyIf_grow p s.hold[p].pendMain fun a => .withdrawn .main a
  have hold : (s.withdraw p .main).hold[p] = { s.hold[p] with pendMain := none } := by
    rw [h1]
    exact upd_get_same _ _ _
  rw [hold] at h2 queue2
  rw [h1] at holder2 queue2
  refine ⟨al', ?_, fun a => (holder2 a).trans (holder1 a), fun books a e he hp => ?_⟩
  · have frame := s.withdraw_frame p .main
    have links := State.notifyIf_links_congr (t := s.withdraw p .main)
      (s := s.hold[p].pendMain.elim s fun a => s.notify p (.withdrawn .main a)) (by rw [h1]; rfl)
      (by rw [told.frame.held, frame.held]) (by rw [told.frame.monitor, frame.monitor]) p s.hold[p].pendListen
      fun a => .withdrawn .listen a
    rw [h2]
    simp only [HoldRecord.pend]
    rw [links, h1]
    dsimp only
    rw [upd_upd]
    rfl
  · obtain ⟨he1, hlisten⟩ := queue2 a e he
    obtain ⟨he0, hmain⟩ := queue1 a e he1
    obtain ⟨-, -, ⟨waits, -⟩, -⟩ := books
    have pending : s.hold[p].pend e.kind = some a :=
      (waits p a e.kind).mp (List.any_eq_true.mpr ⟨e, he0, by simp [hp]⟩)
    cases hk : e.kind with
    | main => exact hmain (hk ▸ pending) ⟨hp, hk⟩
    | listen => exact hlisten (by rw [hk] at pending; exact pending) ⟨hp, hk⟩

/-- In key span both slots are marked and keep their holdings (R95). -/
theorem State.allocBandChange_inSpan {s : State} {p : Pos} (h : s.inSpan p = true) : ∃ al : Vector AllocRecord 20,
    s.allocBandChange p = { s with
      alloc := al
      hold := upd s.hold p { s.hold[p] with
        pendMain := none, pendListen := none, markMain := some .band, markListen := some .band }
      links := (s.tellWithdrawn p s.hold[p]).links } := by
  obtain ⟨al, e, -⟩ := s.withdrawBoth_eq p
  refine ⟨al, ?_⟩
  unfold State.allocBandChange
  rw [e]
  dsimp only
  rw [if_pos (by exact h)]
  simp only [State.mark, State.setHold, HoldRecord.setMark, upd_get_same, upd_upd]

/-! ## The work of a band change outside key span (R94) -/

/-- A holding outlasts a band change: the position has a band and the antenna is eligible on it, or the slot is empty. -/
def State.staysOnBand (s : State) (p : Pos) (k : Slot) : Bool := (s.bandOf p).isSome && !s.slotIneligible p k

theorem State.staysOnBand_iff {s : State} {p : Pos} {b : Band} {a : Ant} {k : Slot} (hb : s.bandOf p = some b)
    (ha : s.heldAnt p k = some a) : s.staysOnBand p k = s.elig k a p := by
  simp [State.staysOnBand, State.slotIneligible, hb, ha]

theorem State.staysOnBand_false {s : State} {p : Pos} {a : Ant} {k : Slot} (ha : s.heldAnt p k = some a)
    (he : s.elig k a p = false) : s.staysOnBand p k = false := by
  simp [State.staysOnBand, State.slotIneligible, ha, he]

theorem State.bandRelease_stays {s : State} {p : Pos} {k : Slot} (h : s.staysOnBand p k = true) :
    s.bandRelease p k = s := by
  obtain ⟨hb, hk⟩ := Bool.and_eq_true_iff.mp h
  rw [State.bandRelease, if_pos hb, State.recheck, if_neg (by simpa using hk)]

/-- A slot is emptied unless its holding stays, and the rest of the record is left. -/
theorem State.bandRelease_hold {s : State} {p : Pos} (hw : s.Waitless p) (k : Slot) :
    (s.bandRelease p k).Waitless p ∧ (s.bandRelease p k).hold[p] =
      if s.staysOnBand p k then s.hold[p] else s.hold[p].setHolding k none := by
  cases h : s.staysOnBand p k with
  | true => rw [State.bandRelease_stays h]; exact ⟨hw, rfl⟩
  | false =>
    have lost : s.bandRelease p k = s.loseFor p k .band := by
      unfold State.bandRelease State.recheck
      split
      · next hb => exact if_pos (by simpa [State.staysOnBand, hb] using h)
      · rfl
    rw [lost]
    exact State.lose_hold hw k _

/-- The release of both slots (R94 steps 1 and 2). -/
theorem State.bandReleases_hold {s : State} {p : Pos} (hw : s.Waitless p) :
    ((s.bandRelease p .main).bandRelease p .listen).Waitless p ∧
      (∀ k, ((s.bandRelease p .main).bandRelease p .listen).hold[p].holding k =
        if s.staysOnBand p k then s.hold[p].holding k else none) ∧
      ∀ k, ((s.bandRelease p .main).bandRelease p .listen).hold[p].pend k = s.hold[p].pend k := by
  obtain ⟨hw1, hold1⟩ := State.bandRelease_hold hw .main
  obtain ⟨hw2, hold2⟩ := State.bandRelease_hold hw1 .listen
  have frame := s.bandRelease_frame p .main
  have listen : (s.bandRelease p .main).hold[p].listen = s.hold[p].listen := by
    rw [hold1]
    split <;> rfl
  have stays : (s.bandRelease p .main).staysOnBand p .listen = s.staysOnBand p .listen := by
    simp only [State.staysOnBand, State.slotIneligible, State.heldAnt, HoldRecord.holding, frame.bandOf, frame.elig,
      listen]
  rw [stays, hold1] at hold2
  refine ⟨hw2, fun k => ?_, fun k => ?_⟩
  all_goals rw [hold2]; cases k <;> cases s.staysOnBand p .main <;> cases s.staysOnBand p .listen <;> rfl

/-- Without a follow the work of a band change is its releases. -/
theorem State.bandWork_still {s : State} {p : Pos} (hw : s.Waitless p)
    (h : s.cfg.pos[p].follow = false ∨ s.bandOf p = none) (k : Slot) :
    (s.bandWork p).hold[p].holding k = (if s.staysOnBand p k then s.hold[p].holding k else none) ∧
      (s.bandWork p).hold[p].pend k = s.hold[p].pend k := by
  have frame := (s.bandRelease_frame p .main).trans (State.bandRelease_frame _ p .listen)
  have still (k : Slot) : ((s.bandRelease p .main).bandRelease p .listen).followSlot p k =
      (s.bandRelease p .main).bandRelease p .listen := by
    rcases h with h | h
    · exact State.followSlot_off (by rw [frame.cfg]; exact h) k
    · exact State.followSlot_of_no_band (by rw [frame.bandOf]; exact h) k
  obtain ⟨-, holding, pend⟩ := State.bandReleases_hold hw
  rw [State.bandWork]
  rw [still, still]
  exact ⟨holding k, pend k⟩

/-- A main that is eligible on the new band stays; the listen then stays or goes by its own eligibility. -/
theorem State.bandWork_main_stays {s : State} {p : Pos} {h : Holding} (hw : s.Waitless p)
    (hm : s.hold[p].main = some h) (hs : s.staysOnBand p .main = true) :
    (s.bandWork p).hold[p].main = some h ∧ ∀ x, s.hold[p].listen = some x →
      (s.staysOnBand p .listen = true → (s.bandWork p).hold[p].listen = some x) ∧
      (s.listenElig x.ant p = false → (s.bandWork p).heldAnt p .listen ≠ some x.ant) := by
  have frame := (s.bandRelease_frame p .main).trans (State.bandRelease_frame _ p .listen)
  obtain ⟨-, holding, -⟩ := State.bandReleases_hold hw
  rw [State.bandWork]
  generalize (s.bandRelease p .main).bandRelease p .listen = r at frame holding
  have main : r.hold[p].main = some h := by
    have := holding .main
    rwa [if_pos hs, HoldRecord.holding, HoldRecord.holding, hm] at this
  rw [State.followSlot_of_held (k := .main) (by rw [State.heldAnt, HoldRecord.holding, main]; rfl)]
  obtain ⟨hmain, hlisten⟩ := r.followListen_hold p
  refine ⟨hmain.trans main, fun x hx => ⟨fun stays => ?_, fun inelig held => ?_⟩⟩
  · have listen : r.hold[p].listen = some x := by
      have := holding .listen
      rwa [if_pos stays, HoldRecord.holding, HoldRecord.holding, hx] at this
    rw [State.followSlot_of_held (by rw [State.heldAnt, HoldRecord.holding, listen]; rfl), listen]
  · rcases hlisten x.ant held with kept | elig
    · have gone : s.staysOnBand p .listen = false :=
        State.staysOnBand_false (congrArg (Option.map Holding.ant) hx) inelig
      rw [State.heldAnt, holding, gone] at kept
      cases kept
    · rw [show r.listenElig x.ant p = s.listenElig x.ant p from frame.elig .listen x.ant p, inelig] at elig
      cases elig

/-- A main that is not eligible on the new band goes, and no follow brings it back. -/
theorem State.bandWork_main_goes {s : State} {p : Pos} {a : Ant} (hw : s.Waitless p)
    (he : s.mainElig a p = false) : (s.bandWork p).heldAnt p .main ≠ some a := by
  have frame := (s.bandRelease_frame p .main).trans (State.bandRelease_frame _ p .listen)
  obtain ⟨hw', holding, -⟩ := State.bandReleases_hold hw
  rw [State.bandWork]
  generalize (s.bandRelease p .main).bandRelease p .listen = r at frame holding hw'
  intro held
  have followed : (r.followSlot p .main).heldAnt p .main = some a := by
    rw [← held]
    exact congrArg (Option.map Holding.ant) (State.followListen_hold _ p).1.symm
  rcases State.followMain_heldAnt hw' followed with kept | elig
  · rw [State.heldAnt, holding] at kept
    split at kept
    · next stays => rw [State.staysOnBand_false kept he] at stays; cases stays
    · cases kept
  · rw [show r.mainElig a p = s.mainElig a p from frame.elig .main a p, he] at elig
    cases elig

/-- Two empty slots on a band are followed, the main first. -/
theorem State.bandWork_first {s : State} {p : Pos} {b : Band} {a : Ant} (hw : s.Waitless p) (hb : s.bandOf p = some b)
    (hempty : ∀ k, s.heldAnt p k = none) (hf : s.cfg.pos[p].follow = true)
    (ha : FirstOf s.cfg.prefs[p][b].main (fun x => s.mainElig x p && s.alloc[x].holder.isNone) a) :
    (s.bandWork p).hold[p].granted .main = some (a, .follow) := by
  have stays (k : Slot) : s.bandRelease p k = s :=
    State.bandRelease_stays (by simp [State.staysOnBand, State.slotIneligible, hb, hempty k])
  rw [State.bandWork, stays, stays]
  rw [← State.followMain_first hw (hempty .main) hb hf ha]
  exact congrArg (Option.map fun h : Holding => (h.ant, h.origin)) (State.followListen_hold _ p).1

/-- Outside key span the band change withdraws and then does its work. -/
theorem State.allocBandChange_outside {s : State} {p : Pos} (h : s.inSpan p = false) :
    s.allocBandChange p = ((s.withdraw p .main).withdraw p .listen).bandWork p := by
  have frame := (s.withdraw_frame p .main).trans (State.withdraw_frame _ p .listen)
  rw [State.allocBandChange, if_neg (by rw [frame.inSpan, h]; simp)]

/-- The withdrawals come first on every link. -/
theorem State.allocBandChange_links (s : State) (p : Pos) (l : Link) :
    (s.tellWithdrawn p s.hold[p]).links[l].queue <+: (s.allocBandChange p).links[l].queue := by
  cases h : s.inSpan p with
  | true =>
    obtain ⟨al, e⟩ := State.allocBandChange_inSpan h
    have links : (s.allocBandChange p).links = (s.tellWithdrawn p s.hold[p]).links := by rw [e]
    rw [links]
  | false =>
    obtain ⟨al, e, -⟩ := s.withdrawBoth_eq p
    have links : ((s.withdraw p .main).withdraw p .listen).links = (s.tellWithdrawn p s.hold[p]).links := by rw [e]
    rw [State.allocBandChange_outside h, ← links]
    exact ((State.bandWork_frame _ p).links l).queue

/-! ## The sequencer at a band change (R122 to R125) -/

theorem SeqState.outputs_outputs (q r : SeqState) (o : Outputs) : r.outputs (q.outputs o) = r.outputs o := by
  cases q <;> cases r <;> rfl

/-- Of two states entered one after the other the second counts. -/
theorem State.enter_enter (s : State) (p : Pos) (q r : SeqState) : (s.enter p q).enter p r = s.enter p r := by
  have out : r.outputs (s.enter p q).outs[p] = r.outputs s.outs[p] := by rw [State.enter_out, SeqState.outputs_outputs]
  unfold State.enter at out ⊢
  simp only [State.setSeq, State.setOut] at out ⊢
  rw [out, upd_upd, upd_upd]

/-- The state chosen at the end of TAIL (R125 step 3). -/
theorem State.afterTail_cases (s : State) (p : Pos) (pend : Option LockCause) :
    s.afterTail p pend = .idle ∨ s.afterTail p pend = .denied ∨ ∃ c, s.afterTail p pend = .lockout c := by
  unfold State.afterTail
  split
  · exact .inr (.inr ⟨_, rfl⟩)
  · split
    · exact .inr (.inr ⟨_, rfl⟩)
    · split
      · exact .inr (.inl rfl)
      · exact .inl rfl

theorem State.afterTail_inSpan (s : State) (p : Pos) (pend : Option LockCause) :
    (s.afterTail p pend).inSpan = false := by
  rcases s.afterTail_cases p pend with h | h | ⟨c, h⟩ <;> rw [h] <;> rfl

/-- After TAIL KEY and AMP are inactive and INH is asserted (R118). -/
theorem State.afterTail_outputs (s : State) (p : Pos) (pend : Option LockCause) (o : Outputs) :
    (s.afterTail p pend).outputs o = ⟨false, false, true, o.blk⟩ := by
  rcases s.afterTail_cases p pend with h | h | ⟨c, h⟩ <;> rw [h] <;> rfl

theorem State.enterTail_stays {s : State} {p : Pos} (h : s.cfg.pos[p].tail ≠ 0) (c : TailCause)
    (pend : Option LockCause) : s.enterTail p c pend = s.enter p (.tail c pend (s.keyTime p) s.now) :=
  if_neg (by simpa using h)

/-- A tail setting of 0 ends TAIL at once (R124, R125). -/
theorem State.enterTail_ends {s : State} {p : Pos} (h : s.cfg.pos[p].tail = 0) (c : TailCause)
    (pend : Option LockCause) : LeftSpan (s.enter p (s.afterTail p pend)) (s.enterTail p c pend) p := by
  let q := SeqState.tail c pend (s.keyTime p) s.now
  have ended : s.enterTail p c pend = (s.enter p q).endSpan p (.tail c) (s.keyTime p) (s.afterTail p pend) :=
    if_pos (by simpa using h)
  have left := (s.enter p q).endSpan_leftSpan p (.tail c) (s.keyTime p) (q := s.afterTail p pend) fun n e => by
    have := s.afterTail_inSpan p pend
    rw [e] at this
    cases this
  rwa [State.enter_enter, ← ended] at left

/-- A sequencer in SETTLING or KEYED (R122, R123). -/
def SeqState.keying (q : SeqState) : Bool :=
  match q with
  | .settling _ | .keyed _ => true
  | .idle | .tail _ _ _ _ | .denied | .lockout _ | .parked => false

theorem State.seqBandChange_of_keying {s : State} {p : Pos} (h : s.seqs[p].keying = true) :
    s.seqBandChange p = s.enterTail p .band none := by
  cases hq : s.seqs[p] with
  | settling _ | keyed _ => simp only [State.seqBandChange, hq]
  | _ => rw [hq] at h; cases h

theorem State.seqBandChange_of_not_keying {s : State} {p : Pos} (h : s.seqs[p].keying = false) :
    s.seqBandChange p = s := by
  cases hq : s.seqs[p] with
  | settling _ | keyed _ => rw [hq] at h; cases h
  | _ => simp only [State.seqBandChange, hq]

theorem SeqState.inSpan_of_keying {q : SeqState} (h : q.keying = true) : q.inSpan = true := by
  cases q with
  | settling _ | keyed _ => rfl
  | _ => cases h

/-- A position that a band change leaves in key span has had no leaving of TAIL, so the driver is as it was. -/
theorem State.seqBandChange_drv {s : State} {p : Pos} (h : (s.seqBandChange p).inSpan p = true) :
    (s.seqBandChange p).drv = s.drv := by
  cases hk : s.seqs[p].keying with
  | false => rw [State.seqBandChange_of_not_keying hk]
  | true =>
    rw [State.seqBandChange_of_keying hk] at h ⊢
    by_cases ht : s.cfg.pos[p].tail = 0
    · have left := State.enterTail_ends ht .band none
      rw [State.inSpan, left.seq, State.enter_seq, s.afterTail_inSpan p none] at h
      cases h
    · rw [State.enterTail_stays ht]
      rfl

theorem State.seqBandChange_isParked (s : State) (p : Pos) : (s.seqBandChange p).isParked p = s.isParked p := by
  cases hk : s.seqs[p].keying with
  | false => rw [State.seqBandChange_of_not_keying hk]
  | true =>
    rw [State.seqBandChange_of_keying hk]
    have before : s.seqs[p] ≠ .parked := fun e => by rw [e] at hk; cases hk
    have after : ((s.enterTail p .band none).seqs[p]) ≠ .parked := by
      by_cases ht : s.cfg.pos[p].tail = 0
      · rw [(State.enterTail_ends ht .band none).seq, State.enter_seq]
        rcases s.afterTail_cases p none with h | h | ⟨c, h⟩ <;> rw [h] <;> nofun
      · rw [State.enterTail_stays ht, State.enter_seq]
        nofun
    rw [Bool.eq_iff_iff, State.isParked_iff, State.isParked_iff]
    exact iff_of_false after before

/-! ## The filter selected again (R113, R114) -/

/-- The filter of a position after its selection: the selected one is that of R113, and a switch that may begin takes the
commanded one with it. -/
theorem State.reselect_eq (s : State) (p : Pos) : ∃ f : FilterState,
    s.reselect p = { s with drv := { s.drv with filters := upd s.drv.filters p f } } ∧
      f.selected = s.selectedFilter p ∧
      (s.mayFilter p = false → f.commanded = s.drv.filters[p].commanded) ∧
      (s.mayFilter p = true → (∀ n, s.drv.filters[p].sw ≠ .switching n) → f.commanded = f.selected) := by
  let g : FilterState := { s.drv.filters[p] with selected := s.selectedFilter p }
  have get : (s.setFilter p g).drv.filters[p] = g := upd_get_same _ _ _
  have set (x : FilterState) : (s.setFilter p g).setFilter p x = s.setFilter p x := by
    simp only [State.setFilter, State.setDrv, upd_upd]
  have may : (s.setFilter p g).mayFilter p = s.mayFilter p := rfl
  change ∃ f : FilterState, (s.setFilter p g).startFilter p = s.setFilter p f ∧ _
  unfold State.startFilter State.beginFilter
  simp only [get, set, may]
  split
  · next n hn => exact ⟨g, rfl, rfl, fun _ => rfl, fun _ h => absurd hn (h n)⟩
  all_goals
    split
    · next h => exact ⟨_, rfl, rfl, fun _ => rfl, fun _ _ => (beq_iff_eq.mp h).symm⟩
    · split
      · next h => exact ⟨_, rfl, rfl, fun h' => absurd h (by rw [h']; simp), fun _ _ => rfl⟩
      · next h => exact ⟨_, rfl, rfl, fun _ => rfl, fun h' => absurd h' h⟩

/-! ## The band unit at a band change (R14 to R16) -/

theorem keptReport_eq (lines : LinesBand) (report : Option Report) :
    keptReport lines report = (match lines, report with
      | .band b, some r => if r.band = some b then some r else none
      | _, _ => none) := by
  cases lines <;> cases report <;> simp [keptReport]

/-- The band of lines that carry one (R14). -/
def LinesBand.bandOf (lines : LinesBand) : Option Band :=
  match lines with
  | .band b => some b
  | .unknown | .none | .invalid => Option.none

/-- After a band change the band is that of the lines: a report kept is on it, so there is no mismatch. -/
theorem State.changedUnit_band (s : State) (p : Pos) (lines : LinesBand) :
    (s.changedUnit p lines).state.band = lines.bandOf := by
  cases lines with
  | band b =>
    simp only [State.changedUnit, keptReport, deriveState]
    cases s.bands[p].report with
    | none => rfl
    | some r => by_cases h : r.band = some b <;> simp [h, BandState.band, LinesBand.bandOf]
  | _ => rfl

/-- The notice of a band change (R18). -/
def BandUnit.notice (u : BandUnit) : Notice := .bandState u.state u.lines u.curTx u.curRx

/-- The band unit has changed and told so (R15, R18). -/
def State.bandTold (s : State) (p : Pos) (lines : LinesBand) : State :=
  (s.setBandUnit p (s.changedUnit p lines)).notifyBand p

/-- Allocation and then the sequencer have taken the band change (log entry 18). -/
def State.bandSequenced (s : State) (p : Pos) (lines : LinesBand) : State :=
  ((s.bandTold p lines).allocBandChange p).seqBandChange p

theorem State.bandChange_def (s : State) (p : Pos) (lines : LinesBand) :
    s.bandChange p lines = (((s.bandSequenced p lines).setFlag p false).recomputeBlank).reselect p := rfl

theorem State.bandTold_eq (s : State) (p : Pos) (lines : LinesBand) :
    s.bandTold p lines = { s with
      bands := upd s.bands p (s.changedUnit p lines)
      links := (s.notify p (s.changedUnit p lines).notice).links } := by
  have unit : (s.setBandUnit p (s.changedUnit p lines)).bands[p] = s.changedUnit p lines := upd_get_same _ _ _
  unfold State.bandTold State.notifyBand
  rw [unit]
  exact State.notify_eq_of_links (s := s) (t := s.setBandUnit p (s.changedUnit p lines)) rfl rfl rfl p _

theorem State.bandTold_bandOf (s : State) (p : Pos) (lines : LinesBand) :
    (s.bandTold p lines).bandOf p = lines.bandOf := by
  rw [State.bandTold_eq, State.bandOf]
  simp only [upd_get_same]
  exact s.changedUnit_band p lines

theorem State.bandSequenced_quiet (s : State) (p : Pos) (lines : LinesBand) :
    QuietFrame (s.bandTold p lines) (s.bandSequenced p lines) :=
  (State.allocBandChange_frame _ p).quiet.trans (State.seqBandChange_quiet _ p)

theorem State.bandChange_quiet (s : State) (p : Pos) (lines : LinesBand) :
    QuietFrame ((s.bandSequenced p lines).setFlag p false) (s.bandChange p lines) :=
  (State.recomputeBlank_quiet _).trans (State.reselect_quiet _ p)

/-- What a band change leaves alone, and the band units and protect flags that it makes (R15, R16, R160). -/
theorem State.bandChange_rest (s : State) (p : Pos) (lines : LinesBand) :
    RestKept s (s.bandChange p lines) ∧ (s.bandChange p lines).sam = s.sam ∧
      (s.bandChange p lines).bands = upd s.bands p (s.changedUnit p lines) ∧
      (s.bandChange p lines).prot[p].flag = false ∧
      ∀ q : Pos, q ≠ p → (s.bandChange p lines).prot[q].flag = s.prot[q].flag := by
  have told := s.bandTold_eq p lines
  have sequenced := s.bandSequenced_quiet p lines
  have changed := s.bandChange_quiet p lines
  have restTold : RestKept s (s.bandTold p lines) := by
    unfold State.bandTold State.notifyBand
    exact (s.setBandUnit_restKept p _).trans (State.notify_quiet _ p _).restKept
  refine ⟨?_, ?_, ?_, ?_, fun q hq => ?_⟩
  · exact ((restTold.trans sequenced.restKept).trans (State.setFlag_restKept _ p false)).trans changed.restKept
  · rw [changed.sam, State.setFlag, State.setProt_sam, sequenced.sam, told]
  · rw [changed.bands, State.setFlag, State.setProt_bands, sequenced.bands, told]
  · rw [changed.flags, State.setFlag, State.setProt_prot, upd_get_same]
  · rw [changed.flags, State.setFlag, State.setProt_prot, upd_get_ne _ _ (Ne.symm hq), sequenced.flags, told]

/-- After the sequencer a band change touches the blanking and the filter of the position alone. -/
theorem State.bandChange_eq (s : State) (p : Pos) (lines : LinesBand) :
    ∃ (f : FilterState) (x : Vector Protection 6) (o : Vector Outputs 6),
      s.bandChange p lines = { s.bandSequenced p lines with
        prot := x, outs := o
        drv := { (s.bandSequenced p lines).drv with filters := upd (s.bandSequenced p lines).drv.filters p f } } ∧
      (∃ b, o[p] = { (s.bandSequenced p lines).outs[p] with blk := b }) ∧
      f.selected = (s.bandSequenced p lines).selectedFilter p ∧
      ((s.bandSequenced p lines).mayFilter p = false →
        f.commanded = (s.bandSequenced p lines).drv.filters[p].commanded) ∧
      ((s.bandSequenced p lines).mayFilter p = true →
        (∀ n, (s.bandSequenced p lines).drv.filters[p].sw ≠ .switching n) → f.commanded = f.selected) := by
  rw [State.bandChange_def]
  generalize s.bandSequenced p lines = q
  obtain ⟨f, e, hsel, hkept, hmoved⟩ := ((q.setFlag p false).recomputeBlank).reselect_eq p
  obtain ⟨b, hb⟩ := (q.setFlag p false).recomputeBlank_outs p
  have blank := (q.setFlag p false).recomputeBlank_eq
  rw [e]
  rw [blank] at hb hsel hkept hmoved ⊢
  exact ⟨f, _, _, rfl, ⟨b, hb⟩, hsel, hkept, hmoved⟩

/-! ## Sequencer and books at a band change -/

theorem AllocFrame.selectedFilter {s t : State} (h : AllocFrame s t) (p : Pos) :
    t.selectedFilter p = s.selectedFilter p := by
  simp only [State.selectedFilter, h.bandOf, h.cfg, h.isParked]

theorem State.bandTold_alloc_frame (s : State) (p : Pos) (lines : LinesBand) :
    AllocFrame (s.bandTold p lines) ((s.bandTold p lines).allocBandChange p) := State.allocBandChange_frame _ p

/-- The books and the links of a position in key span after allocation's part (R93, R95). -/
theorem State.bandAllocated_inSpan {s : State} {p : Pos} (h : s.inSpan p = true) (lines : LinesBand) :
    ∃ al : Vector AllocRecord 20, (s.bandTold p lines).allocBandChange p = { s with
      bands := upd s.bands p (s.changedUnit p lines)
      alloc := al
      hold := upd s.hold p { s.hold[p] with
        pendMain := none, pendListen := none, markMain := some .band, markListen := some .band }
      links := ((s.bandTold p lines).tellWithdrawn p s.hold[p]).links } := by
  have told := s.bandTold_eq p lines
  obtain ⟨al, e⟩ := State.allocBandChange_inSpan (s := s.bandTold p lines) (p := p) (by rw [told]; exact h)
  refine ⟨al, e.trans ?_⟩
  have hold : (s.bandTold p lines).hold = s.hold := by rw [told]
  rw [hold]
  generalize ((s.bandTold p lines).tellWithdrawn p s.hold[p]).links = ls
  rw [told]

/-- From SETTLING or KEYED the sequencer goes to TAIL with cause BAND (R122, R123), with the books marked. -/
theorem State.bandChange_to_tail {s : State} {p : Pos} (h : s.seqs[p].keying = true) (ht : s.cfg.pos[p].tail ≠ 0)
    (lines : LinesBand) :
    (s.bandChange p lines).seqs[p] = .tail .band none (s.keyTime p) s.now ∧ (s.bandChange p lines).spans = s.spans ∧
      ∃ b, (s.bandChange p lines).outs[p] = ⟨false, true, true, b⟩ := by
  obtain ⟨f, x, o, e, ⟨b, hb⟩, -⟩ := s.bandChange_eq p lines
  obtain ⟨al, ha⟩ := State.bandAllocated_inSpan (SeqState.inSpan_of_keying h) lines
  have hq : s.bandSequenced p lines = ((s.bandTold p lines).allocBandChange p).enter p
      (.tail .band none (s.keyTime p) s.now) := by
    rw [State.bandSequenced, ha, State.seqBandChange_of_keying (by exact h), State.enterTail_stays (by exact ht)]
    rfl
  rw [e]
  refine ⟨?_, ?_, b, hb.trans ?_⟩
  · rw [hq]; exact State.enter_seq _ _ _
  · rw [hq, ha]; rfl
  · rw [hq, State.enter_out]; rfl

/-- A tail setting of 0 ends TAIL within the band change (R124, R125). -/
theorem State.bandChange_ends_tail {s : State} {p : Pos} (h : s.seqs[p].keying = true) (ht : s.cfg.pos[p].tail = 0)
    (lines : LinesBand) :
    (s.bandChange p lines).seqs[p] = s.afterTail p none ∧ (s.bandChange p lines).spans = upd s.spans p none ∧
      ∃ b, (s.bandChange p lines).outs[p] = ⟨false, false, true, b⟩ := by
  obtain ⟨f, x, o, e, ⟨b, hb⟩, -⟩ := s.bandChange_eq p lines
  obtain ⟨al, ha⟩ := State.bandAllocated_inSpan (SeqState.inSpan_of_keying h) lines
  have hq : s.bandSequenced p lines = ((s.bandTold p lines).allocBandChange p).enterTail p .band none := by
    rw [State.bandSequenced, ha, State.seqBandChange_of_keying (by exact h)]
  have left := State.enterTail_ends (s := (s.bandTold p lines).allocBandChange p) (p := p)
    (by rw [ha]; exact ht) .band none
  have after : ((s.bandTold p lines).allocBandChange p).afterTail p none = s.afterTail p none := by rw [ha]; rfl
  have spans : ((s.bandTold p lines).allocBandChange p).spans = s.spans := by rw [ha]
  rw [← hq, after] at left
  have hseq := left.seq
  have hspans := left.spans
  obtain ⟨c, hc⟩ := left.outs
  rw [State.enter_seq] at hseq
  rw [State.enter_spans, spans] at hspans
  rw [e]
  refine ⟨hseq, hspans, b, ?_⟩
  rw [hb, hc, State.enter_out, State.afterTail_outputs]

/-- In every other state the sequencer stays (R120, R126, R128, R130). -/
theorem State.bandChange_seq_stays {s : State} {p : Pos} (h : s.seqs[p].keying = false) (lines : LinesBand) :
    (s.bandChange p lines).seqs[p] = s.seqs[p] ∧ (s.bandChange p lines).spans = s.spans ∧
      ∃ b, (s.bandChange p lines).outs[p] = { s.outs[p] with blk := b } := by
  have told := s.bandTold_eq p lines
  have frame := s.bandTold_alloc_frame p lines
  obtain ⟨hseq, hout⟩ := frame.seq_kept (p := p) fun n hn => by
    rw [told] at hn
    rw [show s.seqs[p] = .settling n from hn] at h
    cases h
  have toldSeq : (s.bandTold p lines).seqs[p] = s.seqs[p] := by rw [told]
  have toldOut : (s.bandTold p lines).outs[p] = s.outs[p] := by rw [told]
  have toldSpans : (s.bandTold p lines).spans = s.spans := by rw [told]
  have hq : s.bandSequenced p lines = (s.bandTold p lines).allocBandChange p :=
    State.seqBandChange_of_not_keying (by rw [hseq, toldSeq, h])
  obtain ⟨f, x, o, e, ⟨b, hb⟩, -⟩ := s.bandChange_eq p lines
  rw [e, hq]
  refine ⟨hseq.trans toldSeq, frame.spans.trans toldSpans, b, ?_⟩
  rw [hb, hq, hout, toldOut]

/-- In key span, with a tail setting other than 0, the books keep the holdings with their marks, and the links have the
notices of R18 and R93 alone. -/
theorem State.bandChange_marks {s : State} {p : Pos} (h : s.inSpan p = true) (ht : s.cfg.pos[p].tail ≠ 0)
    (lines : LinesBand) :
    (s.bandChange p lines).links = ((s.bandTold p lines).tellWithdrawn p s.hold[p]).links ∧
      (s.bandChange p lines).hold = upd s.hold p { s.hold[p] with
        pendMain := none, pendListen := none, markMain := some .band, markListen := some .band } := by
  obtain ⟨f, x, o, e, -⟩ := s.bandChange_eq p lines
  obtain ⟨al, ha⟩ := State.bandAllocated_inSpan h lines
  have hq : ∃ q, s.bandSequenced p lines = ((s.bandTold p lines).allocBandChange p).enter p q ∨
      s.bandSequenced p lines = (s.bandTold p lines).allocBandChange p := by
    rw [State.bandSequenced, ha]
    cases hk : s.seqs[p].keying with
    | true => exact ⟨_, .inl (by rw [State.seqBandChange_of_keying (by exact hk), State.enterTail_stays (by exact ht)])⟩
    | false => exact ⟨.idle, .inr (State.seqBandChange_of_not_keying (by exact hk))⟩
  rw [e]
  rcases hq with ⟨q, hq | hq⟩
  · rw [hq, ha]; exact ⟨rfl, rfl⟩
  · rw [hq, ha]; exact ⟨rfl, rfl⟩

/-- The BAND-STATE notice and the withdrawals come first on every link. -/
theorem State.bandChange_notices (s : State) (p : Pos) (lines : LinesBand) (l : Link) :
    ((s.bandTold p lines).tellWithdrawn p s.hold[p]).links[l].queue <+: (s.bandChange p lines).links[l].queue := by
  have hold : (s.bandTold p lines).hold[p] = s.hold[p] := by rw [State.bandTold_eq]
  have alloc := (s.bandTold p lines).allocBandChange_links p l
  rw [hold] at alloc
  have seq := ((State.seqBandChange_quiet ((s.bandTold p lines).allocBandChange p) p).links l).queue
  exact (alloc.trans seq).trans ((s.bandChange_quiet p lines).links l).queue

/-! ## The filter at a band change -/

/-- The filter of a position that is not PARKED on given lines (R113). -/
def State.filterOn (s : State) (p : Pos) (lines : LinesBand) : Option Band :=
  lines.bandOf.bind fun b =>
    if s.cfg.pos[p].filterThru = false ∧ s.cfg.pos[p].installed.getLsbD b.val = true then some b else none

theorem State.bandSequenced_selectedFilter {s : State} {p : Pos} (h : s.isParked p = false) (lines : LinesBand) :
    (s.bandSequenced p lines).selectedFilter p = s.filterOn p lines := by
  have told := s.bandTold_eq p lines
  have frame := s.bandTold_alloc_frame p lines
  have quiet := s.bandSequenced_quiet p lines
  have parked : (s.bandSequenced p lines).isParked p = false := by
    rw [State.bandSequenced, State.seqBandChange_isParked, frame.isParked, told]
    exact h
  have band : (s.bandSequenced p lines).bandOf p = (s.bandTold p lines).bandOf p := by
    rw [State.bandOf, State.bandOf, quiet.bands]
  have cfg : (s.bandSequenced p lines).cfg = s.cfg := by rw [quiet.cfg, told]
  rw [State.selectedFilter, band, State.bandTold_bandOf, parked, cfg, State.filterOn]
  cases lines.bandOf <;> simp

/-- The selected filter, and the commanded one in key span and where a switch may begin (R113, R114). -/
theorem State.bandChange_filter {s : State} {p : Pos} (h : s.isParked p = false) (lines : LinesBand) :
    (s.bandChange p lines).drv.filters[p].selected = s.filterOn p lines ∧
    ((s.bandChange p lines).inSpan p = true →
      (s.bandChange p lines).drv.filters[p].commanded = s.drv.filters[p].commanded) ∧
    (s.inSpan p = false → s.rfsActive p = false → s.drv.release = .none → (∀ n, s.drv.filters[p].sw ≠ .switching n) →
      (s.bandChange p lines).drv.filters[p].commanded = (s.bandChange p lines).drv.filters[p].selected) := by
  have told := s.bandTold_eq p lines
  have frame := s.bandTold_alloc_frame p lines
  have allocDrv : ∃ xs, ((s.bandTold p lines).allocBandChange p).drv = { s.drv with list := xs } :=
    ⟨_, frame.drv.trans (by rw [told])⟩
  obtain ⟨xs, allocDrv⟩ := allocDrv
  obtain ⟨f, x, o, e, -, hsel, hkept, hmoved⟩ := s.bandChange_eq p lines
  have filter : (s.bandChange p lines).drv.filters[p] = f := by
    rw [e]
    exact upd_get_same _ _ _
  rw [filter]
  refine ⟨hsel.trans (State.bandSequenced_selectedFilter h lines), fun hin => ?_, fun hout hrfs hrel hsw => ?_⟩
  · rw [e] at hin
    have inSpan : (s.bandSequenced p lines).inSpan p = true := hin
    rw [hkept (by simp [State.mayFilter, inSpan])]
    rw [State.bandSequenced] at inSpan ⊢
    rw [State.seqBandChange_drv inSpan, allocDrv]
  · have seq : ((s.bandTold p lines).allocBandChange p).inSpan p = false := by rw [frame.inSpan, told]; exact hout
    have hq : s.bandSequenced p lines = (s.bandTold p lines).allocBandChange p := by
      refine State.seqBandChange_of_not_keying ?_
      by_contra hk
      rw [State.inSpan, SeqState.inSpan_of_keying (by simpa using hk)] at seq
      cases seq
    rw [hq] at hmoved
    refine hmoved ?_ ?_
    · have sam : ((s.bandTold p lines).allocBandChange p).sam = s.sam := by rw [frame.sam, told]
      have rfs : ((s.bandTold p lines).allocBandChange p).rfsActive p = false := by
        rw [State.rfsActive, sam]
        exact hrfs
      simp [State.mayFilter, seq, rfs, allocDrv, hrel]
    · rw [allocDrv]
      exact hsw

/-! ## The holdings outside key span (R93, R94) -/

/-- Outside key span a band change is, for the holdings, the work of R94 on a state `w` in which the requests of the
position are withdrawn. -/
structure WorksFrom (s t w : State) (p : Pos) (lines : LinesBand) : Prop where
  waitless : s.BooksAgree → w.Waitless p
  hold : w.hold[p] = { s.hold[p] with pendMain := none, pendListen := none }
  holder : ∀ a : Ant, w.alloc[a].holder = s.alloc[a].holder
  cfg : w.cfg = s.cfg
  band : w.bandOf p = lines.bandOf
  result : t.hold = (w.bandWork p).hold
  elig : ∀ k a, w.elig k a p = t.elig k a p

theorem State.bandChange_worksFrom {s : State} {p : Pos} (h : s.inSpan p = false) (lines : LinesBand) :
    ∃ w, WorksFrom s (s.bandChange p lines) w p lines := by
  have told := s.bandTold_eq p lines
  have frame := s.bandTold_alloc_frame p lines
  have outside : (s.bandTold p lines).inSpan p = false := by rw [told]; exact h
  have withdrawn := ((s.bandTold p lines).withdraw_frame p .main).trans (State.withdraw_frame _ p .listen)
  have hq : s.bandSequenced p lines = (s.bandTold p lines).allocBandChange p := by
    refine State.seqBandChange_of_not_keying ?_
    by_contra hk
    have := frame.inSpan p
    rw [outside, State.inSpan, SeqState.inSpan_of_keying (by simpa using hk)] at this
    cases this
  obtain ⟨al, hw, holder, waitless⟩ := (s.bandTold p lines).withdrawBoth_eq p
  obtain ⟨f, x, o, e, -⟩ := s.bandChange_eq p lines
  rw [hq] at e
  refine ⟨((s.bandTold p lines).withdraw p .main).withdraw p .listen, ?_, ?_, fun a => ?_, ?_, ?_, ?_, fun k a => ?_⟩
  · intro books
    rw [hw]
    exact waitless (by rw [told]; exact books)
  · rw [hw, told]
    exact upd_get_same _ _ _
  · rw [hw]
    exact (holder a).trans (by rw [told])
  · rw [withdrawn.cfg, told]
  · rw [withdrawn.bandOf, State.bandTold_bandOf]
  · rw [e, State.allocBandChange_outside outside]
  · rw [withdrawn.elig, ← frame.elig, e]
    cases k <;> rfl

/-- With no band a position is left with nothing, and so it is on a band with two empty slots and the follow switch
OFF. -/
theorem WorksFrom.nothing {s t w : State} {p : Pos} {lines : LinesBand} (h : WorksFrom s t w p lines)
    (books : s.BooksAgree) (hb : (∀ b, lines ≠ .band b) ∨
      (s.cfg.pos[p].follow = false ∧ s.hold[p].main = none ∧ s.hold[p].listen = none)) :
    t.hold[p].main = none ∧ t.hold[p].listen = none ∧ t.hold[p].pendMain = none ∧ t.hold[p].pendListen = none := by
  have still (k : Slot) : t.hold[p].holding k = none ∧ t.hold[p].pend k = w.hold[p].pend k := by
    rw [h.result]
    rcases hb with hb | ⟨hf, hm, hl⟩
    · have band : w.bandOf p = none := by
        rw [h.band]
        cases lines with
        | band b => exact absurd rfl (hb b)
        | _ => rfl
      obtain ⟨holding, pend⟩ := State.bandWork_still (h.waitless books) (.inr band) k
      exact ⟨holding.trans (by simp [State.staysOnBand, band]), pend⟩
    · obtain ⟨holding, pend⟩ := State.bandWork_still (h.waitless books) (.inl (by rw [h.cfg]; exact hf)) k
      have empty : w.hold[p].holding k = none := by
        rw [h.hold]
        cases k
        · exact hm
        · exact hl
      exact ⟨holding.trans (by rw [empty, ite_self]), pend⟩
  have pend (k : Slot) : w.hold[p].pend k = none := by rw [h.hold]; cases k <;> rfl
  exact ⟨(still .main).1, (still .listen).1, (still .main).2.trans (pend .main), (still .listen).2.trans (pend .listen)⟩

/-- On a band a main that is still eligible stays, and the listen by its own eligibility. -/
theorem WorksFrom.main_stays {s t w : State} {p : Pos} {b : Band} (h : WorksFrom s t w p (.band b))
    (books : s.BooksAgree) {x : Holding} (hx : s.hold[p].main = some x) (he : t.mainElig x.ant p = true) :
    t.hold[p].main = some x ∧ ∀ k, s.hold[p].listen = some k →
      (t.listenElig k.ant p = true → t.hold[p].listen = some k) ∧
      (t.listenElig k.ant p = false → t.heldAnt p .listen ≠ some k.ant) := by
  have main : w.hold[p].main = some x := by rw [h.hold]; exact hx
  have mainAnt : w.heldAnt p .main = some x.ant := congrArg (Option.map Holding.ant) main
  obtain ⟨hmain, hlisten⟩ := State.bandWork_main_stays (h.waitless books) main
    ((State.staysOnBand_iff h.band mainAnt).trans ((h.elig .main x.ant).trans he))
  rw [State.heldAnt, h.result]
  refine ⟨hmain, fun k hk => ?_⟩
  have listen : w.hold[p].listen = some k := by rw [h.hold]; exact hk
  have listenAnt : w.heldAnt p .listen = some k.ant := congrArg (Option.map Holding.ant) listen
  obtain ⟨stays, goes⟩ := hlisten k listen
  exact ⟨fun hel => stays ((State.staysOnBand_iff h.band listenAnt).trans ((h.elig .listen k.ant).trans hel)),
    fun hel => goes ((h.elig .listen k.ant).trans hel)⟩

/-- A main that is no longer eligible goes; with the follow switch OFF nothing comes in its place. -/
theorem WorksFrom.main_goes {s t w : State} {p : Pos} {lines : LinesBand} (h : WorksFrom s t w p lines)
    (books : s.BooksAgree) {a : Ant} (ha : s.heldAnt p .main = some a) (he : t.mainElig a p = false) :
    t.heldAnt p .main ≠ some a ∧
      (s.cfg.pos[p].follow = false → t.hold[p].main = none ∧ t.hold[p].pendMain = none) := by
  have elig : w.mainElig a p = false := (h.elig .main a).trans he
  have heldW : w.heldAnt p .main = some a := by rw [State.heldAnt, h.hold]; exact ha
  rw [State.heldAnt, h.result]
  refine ⟨State.bandWork_main_goes (h.waitless books) elig, fun hf => ?_⟩
  obtain ⟨holding, pend⟩ := State.bandWork_still (h.waitless books) (.inl (by rw [h.cfg]; exact hf)) .main
  rw [State.staysOnBand_false heldW elig] at holding
  exact ⟨holding, pend.trans (by rw [h.hold]; rfl)⟩

/-- Two empty slots are followed: the main gets the first free eligible antenna of its list. -/
theorem WorksFrom.followed {s t w : State} {p : Pos} {b : Band} (h : WorksFrom s t w p (.band b))
    (books : s.BooksAgree) (hm : s.hold[p].main = none) (hl : s.hold[p].listen = none)
    (hf : s.cfg.pos[p].follow = true) {a : Ant}
    (ha : FirstOf s.cfg.prefs[p][b].main (fun x => t.mainElig x p && s.alloc[x].holder.isNone) a) :
    (t.hold[p].main.map fun h => (h.ant, h.origin)) = some (a, .follow) := by
  have empty (k : Slot) : w.heldAnt p k = none := by
    rw [State.heldAnt_none, h.hold]
    cases k
    · exact hm
    · exact hl
  have free : (fun x => t.mainElig x p && s.alloc[x].holder.isNone) =
      fun x : Ant => w.mainElig x p && w.alloc[x].holder.isNone := by
    funext x
    rw [h.holder, show w.mainElig x p = t.mainElig x p from h.elig .main x]
  rw [free, ← h.cfg] at ha
  rw [h.result]
  exact State.bandWork_first (h.waitless books) h.band empty (by rw [h.cfg]; exact hf) ha

/-! ## The band-code event (R6) -/

theorem State.afterTail_none (s : State) (p : Pos) :
    s.afterTail p none = if s.sam.pos[p].rfs.accepted = .active then .lockout .rfHang
      else if s.sam.pos[p].ptt.accepted = .active then .denied else .idle := by
  simp [State.afterTail, State.rfsActive, State.pttActive, Accepted.isActive]

/-- The key time of a sequencer in SETTLING or KEYED (R124). -/
theorem State.keyTime_of_keying {s : State} {p : Pos} {kt : Nat}
    (h : (∃ since, s.seqs[p] = .settling since) ∧ kt = 0 ∨ ∃ since, s.seqs[p] = .keyed since ∧ kt = s.now - since) :
    s.seqs[p].keying = true ∧ s.keyTime p = kt := by
  rcases h with ⟨⟨since, hq⟩, rfl⟩ | ⟨since, hq, rfl⟩
  all_goals
    unfold State.keyTime
    rw [hq]
    exact ⟨rfl, rfl⟩

theorem SeqState.keying_false {q : SeqState} (h : ∀ n, q ≠ .settling n ∧ q ≠ .keyed n) : q.keying = false := by
  cases q with
  | settling n => exact absurd rfl (h n).1
  | keyed n => exact absurd rfl (h n).2
  | _ => rfl

/-- The lines of a position whose settle candidate is accepted (R6). -/
def PosLines.acceptCode (x : PosLines) (code : BitVec 4) : PosLines := { x with code := some code, candidate := none }

/-- A ripe candidate on other lines makes a band change of a position that is not PARKED (R6, R15). -/
theorem exec_bandCodeEvent {s : State} {p : Pos} {c : Candidate} (hp : s.powered = true) (hpark : s.isParked p = false)
    (hc : s.sam.pos[p].candidate = some c) (hripe : c.ripe = true) (hlines : linesOfCode c.code ≠ s.bands[p].lines) :
    exec (.bandCodeEvent p) s =
      .next ((s.setLines p (s.sam.pos[p].acceptCode c.code)).bandChange p (linesOfCode c.code)) := by
  simp only [exec, execBandCodeEvent, whenPowered_on hp, hc, hripe, if_true]
  have changes : ¬((s.isParked p || linesOfCode c.code == s.bands[p].lines) = true) := by
    rw [hpark, Bool.false_or, beq_iff_eq]
    exact hlines
  exact congrArg Host.Outcome.next (if_neg changes)

/-- Settles O11: the band change is made on the state `u` in which the candidate is accepted, and each block's part of it
is a lemma above. -/
theorem bandCodeChangesBand : Obligations.BandCodeChangesBand := by
  intro s p c hp hpark hc hripe hlines
  let u := s.setLines p (s.sam.pos[p].acceptCode c.code)
  have upos : u.sam.pos[p] = s.sam.pos[p].acceptCode c.code := upd_get_same _ _ _
  obtain ⟨rest, sam, bands, flag, flags⟩ := u.bandChange_rest p (linesOfCode c.code)
  obtain ⟨selected, inSpan, commanded⟩ := State.bandChange_filter (s := u) hpark (linesOfCode c.code)
  have unit : (u.bandChange p (linesOfCode c.code)).bands[p] = s.changedUnit p (linesOfCode c.code) := by
    rw [bands]
    exact upd_get_same _ _ _
  refine ⟨u.bandChange p (linesOfCode c.code), exec_bandCodeEvent hp hpark hc hripe hlines, by rw [sam, upos]; rfl,
    by rw [sam, upos]; rfl, by rw [unit]; rfl, ?report, by rw [unit]; rfl, by rw [unit]; rfl, by rw [unit]; rfl,
    by rw [unit]; rfl, by rw [unit]; rfl, by rw [unit]; rfl, flag, (s.setLines_restKept p _).trans rest, ?others, ?keying,
    ?stays, ?selected, inSpan, ?commanded, ?notices, ?books⟩
  case report =>
    rw [unit]
    exact keptReport_eq _ _
  case others =>
    intro q hq
    refine ⟨?_, flags q hq⟩
    rw [bands]
    exact upd_get_ne _ _ (Ne.symm hq)
  case keying =>
    intro kt hkt
    obtain ⟨hk, rfl⟩ := State.keyTime_of_keying hkt
    constructor
    · intro ht
      obtain ⟨seq, spans, b, out⟩ := State.bandChange_to_tail (s := u) hk ht (linesOfCode c.code)
      exact ⟨seq, spans, by rw [out], by rw [out], by rw [out]⟩
    · intro ht
      obtain ⟨seq, spans, b, out⟩ := State.bandChange_ends_tail (s := u) hk ht (linesOfCode c.code)
      refine ⟨spans, ?_, by rw [out], by rw [out], by rw [out]⟩
      rw [seq, State.afterTail_none, upos]
      rfl
  case stays =>
    intro h
    obtain ⟨seq, spans, b, out⟩ := State.bandChange_seq_stays (s := u) (SeqState.keying_false h) (linesOfCode c.code)
    exact ⟨seq, spans, by rw [out]; rfl, by rw [out]; rfl, by rw [out]; rfl⟩
  case selected =>
    rw [selected, State.filterOn]
    cases linesOfCode c.code <;> rfl
  case commanded =>
    intro hout hrfs
    exact commanded hout (by rw [State.rfsActive, upos]; exact hrfs)
  case notices =>
    intro w hw
    rw [unit] at hw
    replace hw : w = (s.notify p (s.changedUnit p (linesOfCode c.code)).notice).tellWithdrawn p s.hold[p] := hw
    have told := u.bandTold_eq p (linesOfCode c.code)
    have notified := (s.notify_grow p (s.changedUnit p (linesOfCode c.code)).notice).frame
    have links := State.tellWithdrawn_links_congr (t := u.bandTold p (linesOfCode c.code))
      (s := s.notify p (s.changedUnit p (linesOfCode c.code)).notice)
      (by rw [told]; exact State.notify_links_congr (s := s) (t := u) rfl rfl rfl p _)
      (by rw [told, notified.held]; rfl) (by rw [told, notified.monitor]; rfl) p s.hold[p]
    rw [hw, ← links]
    exact ⟨u.bandChange_notices p _, fun hin ht => State.bandChange_marks (s := u) hin ht _⟩
  case books =>
    intro books hout
    obtain ⟨w, works⟩ := State.bandChange_worksFrom (s := u) hout (linesOfCode c.code)
    refine ⟨fun hb => works.nothing books (.inl hb), fun b hb => ?_⟩
    rw [hb] at works ⊢
    exact ⟨fun h hm he => works.main_stays books hm he, fun a ha he => works.main_goes books ha he,
      fun hm hl => ⟨fun hf => works.nothing books (.inr ⟨hf, hm, hl⟩), fun hf a ha => works.followed books hm hl hf ha⟩⟩

end Sys2Proof.Machine
end

section
/-! SUPPORT. The band unit's segments and reports (Chapter 2, R19 to R24), and requests served at once (R168, R169). -/

namespace Sys2Proof.Machine

/-! ## The band and the segment of a frequency (R22) -/

/-- Bands do not overlap: the band of a frequency is the one whose edges contain it. -/
theorem bandOfFreq_of_mem {b : Band} {f : Nat} (hl : Config.bandLow b ≤ f) (hh : f ≤ Config.bandHigh b) :
    bandOfFreq f = some b := by
  have apart (c d : Band) (hl : Config.bandLow c ≤ f) (hh : f ≤ Config.bandHigh c) (kl : Config.bandLow d ≤ f)
      (kh : f ≤ Config.bandHigh d) : c = d := by
    fin_cases c <;> fin_cases d <;> simp only [Config.bandLow, Config.bandHigh] at hl hh kl kh <;> first | rfl | omega
  cases h : bandOfFreq f with
  | none => simpa [hl, hh] using List.find?_eq_none.mp h b (mem_allBands b)
  | some c =>
    have found := List.find?_some h
    simp only [Bool.and_eq_true, decide_eq_true_eq] at found
    rw [apart c b found.1 found.2 hl hh]

/-- The segment is the quotient of R22, with 16 taken as 15. -/
theorem segOfFreq_val (b : Band) (f : Nat) (h : f ≤ Config.bandHigh b) :
    (segOfFreq b f).val = min 15 ((f - Config.bandLow b) * 16 / Config.bandSpan b) := by
  have top : (f - Config.bandLow b) * 16 / Config.bandSpan b ≤ 16 :=
    Nat.div_le_of_le_mul (Nat.mul_le_mul_right 16 (Nat.sub_le_sub_right h _))
  unfold segOfFreq
  dsimp only
  split
  · dsimp only; omega
  · exact (Nat.min_eq_left (by omega)).symm

/-- A span is sixteen segment widths. -/
theorem bandSpan_eq (b : Band) : Config.bandSpan b = Config.bandSpan b / 16 * 16 ∧ 0 < Config.bandSpan b / 16 ∧
    Config.bandHigh b = Config.bandLow b + Config.bandSpan b := by
  revert b; decide

/-- Settles O15: a segment width divides its span, so the quotient of R22 is that of the offset by the width. -/
theorem segmentHoldsFrequency : Obligations.SegmentHoldsFrequency := by
  refine ⟨fun f hf => ?_, fun b f hl hh => ?_⟩
  · refine List.find?_eq_none.mpr fun b _ => ?_
    simp only [Bool.and_eq_true, decide_eq_true_eq, not_and]
    have := hf b
    omega
  · have val := segOfFreq_val b f hh
    refine ⟨bandOfFreq_of_mem hl hh, val, ?_⟩
    obtain ⟨span, pos, high⟩ := bandSpan_eq b
    generalize Config.bandSpan b / 16 = w at span pos ⊢
    rw [span, Nat.mul_div_mul_right _ _ (by omega)] at val
    have quot := Nat.div_add_mod (f - Config.bandLow b) w
    have rest := Nat.mod_lt (f - Config.bandLow b) pos
    by_cases h : (f - Config.bandLow b) / w ≤ 15
    · rw [Nat.min_eq_right h] at val
      rw [val, Nat.add_mul, Nat.mul_comm _ w]
      omega
    · have edge : f = Config.bandHigh b := by
        have := Nat.mul_le_mul_left w (show 16 ≤ (f - Config.bandLow b) / w by omega)
        omega
      have seg : segOfFreq b f = 15 := Fin.ext (by rw [val]; simp; omega)
      refine ⟨?_, .inr ⟨edge, seg⟩⟩
      rw [seg]
      simp
      omega

/-! ## Requests served at once (R168, R169) -/

/-- What a request on a serving link is answered: the answer joins the queue, and then the effect follows. -/
theorem State.Serving.perform {s : State} {l : Link} (h : s.Serving l) (k : BitVec 7)
    (plan : Result × (State → State)) : s.perform l k plan = plan.2 (s.onlyAnswers l k plan.1) := by
  obtain ⟨-, held, -, room⟩ := h
  rw [State.perform, State.answer, State.reply_placed _ held room, State.onlyAnswers]

/-- A request on a serving link is taken and served in the same event (R168). -/
theorem State.Serving.request {s : State} {l : Link} (h : s.Serving l) (r : Request) : s.request l r = s.serve l r := by
  obtain ⟨-, held, buffer, room⟩ := h
  simp only [State.request, State.arrive, held, buffer, room, if_true, if_false, Bool.false_eq_true]

theorem State.onlyAnswers_restKept (s : State) (l : Link) (k : BitVec 7) (r : Result) :
    RestKept s (s.onlyAnswers l k r) :=
  (s.setLink_grow l _ (LinkState.place_grow _ _)).quiet.restKept

/-- An answer placed stays before everything that the effect of the request sends. -/
theorem RestKept.answered {s u t : State} {l : Link} {k : BitVec 7} {r : Result} (h : RestKept u t)
    (hu : u.links = (s.onlyAnswers l k r).links) : Answered s t l k r := by
  obtain ⟨-, -, -, -, -, -, -, links⟩ := h
  have grown := (links l).1
  rwa [hu, State.onlyAnswers, State.setLink_links, upd_get_same, LinkState.place_queue] at grown

/-! ## What a change of one band unit leaves alone -/

/-- From `s` to `t` the band unit of one position has changed, and beside the band units what allocation may change. -/
structure UnitFrame (s t : State) (p : Pos) : Prop where
  rest : AllocFrame { s with bands := t.bands } t
  others : ∀ q : Pos, q ≠ p → t.bands[q] = s.bands[q]

namespace UnitFrame

variable {s t u : State} {p : Pos}

theorem refl (s : State) (p : Pos) : UnitFrame s s p := ⟨.refl s, fun _ _ => rfl⟩

theorem trans (h : UnitFrame s t p) (k : UnitFrame t u p) : UnitFrame s u p := by
  refine ⟨?_, fun q hq => (k.others q hq).trans (h.others q hq)⟩
  have moved : AllocFrame { s with bands := u.bands } { t with bands := u.bands } := by
    obtain ⟨rest, -⟩ := h
    exact ⟨rest.powered, rest.now, rest.freeIx, rest.pending, rest.cfg, rest.store, rest.sam, rfl, rest.spans, rest.prot,
      rest.monitor, rest.drv, rest.links, rest.seqs⟩
  exact moved.trans k.rest

theorem restKept (h : UnitFrame s t p) : RestKept s t := h.rest.quiet.restKept

theorem cfg (h : UnitFrame s t p) : t.cfg = s.cfg := h.rest.cfg

end UnitFrame

theorem State.setBandUnit_unitFrame (s : State) (p : Pos) (x : BandUnit) : UnitFrame s (s.setBandUnit p x) p :=
  ⟨.refl _, fun _ hq => upd_get_ne _ _ (Ne.symm hq)⟩

theorem AllocFrame.unitFrame {s t : State} (h : AllocFrame s t) (p : Pos) : UnitFrame s t p := by
  refine ⟨?_, fun q _ => by rw [h.bands]⟩
  rw [h.bands]
  exact h

/-! ## Current and settled segments (R23 to R25) -/

/-- The part of a band unit that the settled segments and the dwells leave. -/
def BandUnit.reading (u : BandUnit) : LinesBand × BandState × Option Report × Option Seg × Option Seg :=
  (u.lines, u.state, u.report, u.curTx, u.curRx)

theorem BandUnit.setDwell_reading (u : BandUnit) (side : Side) (x : Option Nat) :
    (u.setDwell side x).reading = u.reading := by
  cases side <;> rfl

theorem BandUnit.follow_reading (u : BandUnit) (side : Side) : (u.follow side).reading = u.reading := by
  cases side <;> rfl

/-- A settled segment that follows leaves allocation its part of the event. -/
theorem State.settleSide_eq (s : State) (p : Pos) (side : Side) :
    UnitFrame s (s.settleSide p side) p ∧ (s.settleSide p side).bands[p] = s.bands[p].follow side := by
  have alloc := (s.setBandUnit p (s.bands[p].follow side)).allocSegmentChange_frame p side
  refine ⟨(s.setBandUnit_unitFrame p _).trans (alloc.unitFrame p), ?_⟩
  rw [State.settleSide, alloc.bands]
  exact upd_get_same _ _ _

theorem State.dwellSide_eq (s : State) (p : Pos) (side : Side) :
    UnitFrame s (s.dwellSide p side) p ∧ (s.dwellSide p side).bands[p].reading = s.bands[p].reading := by
  have stop (x : Option Nat) : UnitFrame s (s.setBandUnit p (s.bands[p].setDwell side x)) p ∧
      (s.setBandUnit p (s.bands[p].setDwell side x)).bands[p].reading = s.bands[p].reading := by
    refine ⟨s.setBandUnit_unitFrame p _, ?_⟩
    rw [State.setBandUnit_bands, upd_get_same, BandUnit.setDwell_reading]
  unfold State.dwellSide
  dsimp only
  split
  · exact stop none
  · split
    · obtain ⟨frame, unit⟩ := s.settleSide_eq p side
      exact ⟨frame, by rw [unit, BandUnit.follow_reading]⟩
    · exact stop (some s.now)

/-- The current segments computed again are those of R23. -/
theorem State.recomputeSegs_eq (s : State) (p : Pos) :
    UnitFrame s (s.recomputeSegs p) p ∧ (s.recomputeSegs p).bands[p].reading =
      { s.bands[p] with curTx := (s.currentNow p).1, curRx := (s.currentNow p).2 : BandUnit }.reading := by
  have side (b : Bool) (x : Side) (t : State) :
      UnitFrame t (if b then t else t.dwellSide p x) p ∧
        (if b then t else t.dwellSide p x).bands[p].reading = t.bands[p].reading := by
    split
    · exact ⟨.refl t p, rfl⟩
    · exact t.dwellSide_eq p x
  unfold State.recomputeSegs
  dsimp only
  generalize hv : ({ s.bands[p] with curTx := (s.currentNow p).1, curRx := (s.currentNow p).2 } : BandUnit) = v
  obtain ⟨frame, tx⟩ := side (s.bands[p].curTx == (s.currentNow p).1) .tx (s.setBandUnit p v)
  obtain ⟨frame', rx⟩ := side (s.bands[p].curRx == (s.currentNow p).2) .rx _
  refine ⟨((s.setBandUnit_unitFrame p v).trans frame).trans frame', ?_⟩
  rw [rx, tx, State.setBandUnit_bands, upd_get_same]

/-! ## A new report (R19 to R21) -/

/-- A frequency change recomputes the blanking at most (R27). -/
theorem State.freqChange_eq (s : State) (p : Pos) (x : Option Nat × Option Nat) :
    QuietFrame s (s.freqChange p x) ∧ (s.freqChange p x).spans = s.spans := by
  unfold State.freqChange
  split
  · exact ⟨.refl s, rfl⟩
  · exact ⟨s.recomputeBlank_quiet, by rw [State.recomputeBlank_eq]⟩

/-- What a new report makes of the band unit, and what it leaves alone (R20, R21). -/
structure ReportTaken (s t : State) (p : Pos) (r : Report) : Prop where
  rest : RestKept s t
  sam : t.sam = s.sam
  spans : t.spans = s.spans
  others : ∀ q : Pos, q ≠ p → t.bands[q] = s.bands[q]
  report : t.bands[p].report = some r
  lines : t.bands[p].lines = s.bands[p].lines
  state : t.bands[p].state = deriveState s.bands[p].lines (some r)
  current : (t.bands[p].curTx, t.bands[p].curRx) =
    currentOf s.defaultSeg (deriveState s.bands[p].lines (some r)) (some r)

theorem State.newReport_taken (s : State) (p : Pos) (r : Report) : ReportTaken s (s.newReport p r) p r := by
  unfold State.newReport
  dsimp only
  generalize hv : ({ s.bands[p] with report := some r, state := deriveState s.bands[p].lines (some r) } : BandUnit) = v
  have unit : (s.setBandUnit p v).bands[p] = v := upd_get_same _ _ _
  have now : (s.setBandUnit p v).currentNow p =
      currentOf s.defaultSeg (deriveState s.bands[p].lines (some r)) (some r) := by
    rw [State.currentNow, unit, ← hv]
    rfl
  obtain ⟨frame, reading⟩ := (s.setBandUnit p v).recomputeSegs_eq p
  rw [unit, now] at reading
  replace frame := (s.setBandUnit_unitFrame p v).trans frame
  generalize (s.setBandUnit p v).recomputeSegs p = t at frame reading ⊢
  obtain ⟨quiet, spans⟩ := t.freqChange_eq p (s.rxFreq p, s.txFreq p)
  generalize t.freqChange p (s.rxFreq p, s.txFreq p) = w at quiet spans ⊢
  have told : LinksGrow w
      (if deriveState s.bands[p].lines (some r) == s.bands[p].state then w else w.notifyBand p) := by
    split
    · exact .refl w
    · exact w.notify_grow p _
  generalize (if deriveState s.bands[p].lines (some r) == s.bands[p].state then w else w.notifyBand p) = y at told ⊢
  have bands : y.bands = t.bands := told.frame.bands.trans quiet.bands
  simp only [BandUnit.reading, Prod.mk.injEq, ← hv] at reading
  obtain ⟨lines, state, report, curTx, curRx⟩ := reading
  refine ⟨(frame.restKept.trans quiet.restKept).trans told.quiet.restKept, ?_, ?_, fun q hq => ?_, ?_, ?_, ?_, ?_⟩
  · rw [told.frame.sam, quiet.sam, frame.rest.sam]
  · rw [told.frame.spans, spans, frame.rest.spans]
  · rw [bands, frame.others q hq]
  · rw [bands, report]
  · rw [bands, lines]
  · rw [bands, state]
  · rw [bands, curTx, curRx]

@[simp] theorem posOfLink_linkOf (p : Pos) : posOfLink (linkOf p) = some p := by revert p; decide

/-- A request of a position on its own link is served with its plan (R169). -/
theorem exec_freq {s : State} {p : Pos} (h : s.Serving (linkOf p)) (rx : BitVec 32) (tx : Option (BitVec 32)) :
    exec (.freq p rx tx) s =
      .next ((s.freqRequest p rx tx).2 (s.onlyAnswers (linkOf p) 6 (s.freqRequest p rx tx).1)) := by
  have served : s.serve (linkOf p) (.freq rx tx) = s.perform (linkOf p) 6 (s.freqRequest p rx tx) := by
    simp only [State.serve, State.servePosition, posOfLink_linkOf, Request.kind, State.positionPlan]
  rw [show exec (.freq p rx tx) s = whenPowered s fun s => s.request (linkOf p) (.freq rx tx) from rfl,
    whenPowered_on h.1, h.request, served, h.perform]

theorem freqInRange_iff (f : Nat) : freqInRange f = true ↔ 100000 ≤ f ∧ f ≤ 60000000 := by
  simp [freqInRange]

/-- Every frequency of a report is in range exactly when both checks of RANGE pass (R19). -/
theorem freqsInRange_iff (rx : BitVec 32) (tx : Option (BitVec 32)) :
    (!freqInRange rx.toNat || !((tx.map (·.toNat)).elim true freqInRange)) = false ↔
      ∀ f : BitVec 32, f = rx ∨ tx = some f → 100000 ≤ f.toNat ∧ f.toNat ≤ 60000000 := by
  simp only [Bool.or_eq_false_iff, Bool.not_eq_false', freqInRange_iff]
  cases tx with
  | none => simp
  | some y => simp [freqInRange_iff, forall_eq_or_imp]

theorem State.freqRequest_inRange {s : State} {p : Pos} {rx : BitVec 32} {tx : Option (BitVec 32)}
    (hp : s.isParked p = false)
    (hr : ∀ f : BitVec 32, f = rx ∨ tx = some f → 100000 ≤ f.toNat ∧ f.toNat ≤ 60000000) :
    s.freqRequest p rx tx =
      if !((tx.map (·.toNat)).elim true fun y => bandOfFreq y == bandOfFreq rx.toNat) then justAnswer .splitBand
      else (.done, fun t => t.acceptReport p rx.toNat (tx.map (·.toNat))) := by
  unfold State.freqRequest
  dsimp only
  rw [hp, (freqsInRange_iff rx tx).mpr hr]
  rfl

/-- Settles O12: one case for each check of R19, and the report taken as R20 states. -/
theorem freqIsCheckedThenHeld : Obligations.FreqIsCheckedThenHeld := by
  intro s p rx tx hs
  rw [exec_freq hs]
  refine ⟨fun hp => ?_, fun hp ⟨f, hf, out⟩ => ?_, fun hp hr => ⟨fun ⟨f, hf, split⟩ => ?_, fun same => ?_⟩⟩
  · rw [State.freqRequest, if_pos hp]
    rfl
  · have range : (!freqInRange rx.toNat || !((tx.map (·.toNat)).elim true freqInRange)) = true := by
      by_contra ok
      have := (freqsInRange_iff rx tx).mp (by simpa using ok) f hf
      omega
    unfold State.freqRequest
    dsimp only
    rw [hp, range]
    rfl
  · rw [State.freqRequest_inRange hp hr, hf, if_pos (by simpa using split)]
    rfl
  · rw [State.freqRequest_inRange hp hr, if_neg (by cases tx with | none => simp | some y => simp [same y rfl])]
    have taken := (s.onlyAnswers (linkOf p) 6 .done).newReport_taken p
      ⟨rx.toNat, tx.map (·.toNat), bandOfFreq rx.toNat, some ⟨s.now, s.cfg.pos[p].freshness * 1000⟩⟩
    have state := taken.state
    have current := taken.current
    rw [← taken.state] at current
    rw [← taken.report] at state current
    exact ⟨_, rfl, taken.rest.answered rfl, taken.report, taken.lines, state, current,
      (s.onlyAnswers_restKept _ _ _).trans taken.rest, taken.sam, taken.spans, taken.others⟩

theorem exec_freshnessExpiry {s : State} (hp : s.powered = true) (p : Pos) :
    exec (.freshnessExpiry p) s = .next (s.freshEnd p) := by
  rw [show exec (.freshnessExpiry p) s = whenPowered s fun s => s.freshEnd p from rfl, whenPowered_on hp]

/-- Settles O13: a stale report leaves no mismatch, and the default segment is current (R14, R21, R23). -/
theorem freshnessExpiryMakesStale : Obligations.FreshnessExpiryMakesStale := by
  intro s p r x b hp hr hx hdue hl
  have due : s.freshEnd p = s.newReport p { r with fresh := none } := by
    simp only [State.freshEnd, hr, hx, hdue, if_true]
  have taken := s.newReport_taken p { r with fresh := none }
  obtain ⟨curTx, curRx⟩ := Prod.mk.inj taken.current
  rw [hl] at curTx curRx
  refine ⟨_, exec_freshnessExpiry hp p, ?_⟩
  rw [due]
  refine ⟨taken.report, taken.lines.trans hl, by rw [taken.state, hl]; rfl, curTx, curRx, ?_, ?_, taken.rest, taken.sam,
    taken.spans, taken.others⟩
  · rw [State.rxFreq, taken.report]; rfl
  · rw [State.txFreq, taken.report]; rfl

end Sys2Proof.Machine
end

section
/-! SUPPORT. Runs of the books: every operation of allocation (Chapters 4 to 6) is a run of a few acts on the two books, so
that what all of them keep is proved once, act by act. -/

namespace Sys2Proof.Machine

/-! ## What leaves both books -/

/-- A holding without its switch state. -/
def Holding.blind (x : Holding) : Holding := { x with sw := .awaiting }

/-- A holding record without the switch states of its holdings. -/
def HoldRecord.blind (h : HoldRecord) : HoldRecord :=
  { h with main := h.main.map Holding.blind, listen := h.listen.map Holding.blind }

theorem HoldRecord.blind_holding (h : HoldRecord) (k : Slot) : h.blind.holding k = (h.holding k).map Holding.blind := by
  cases k <;> rfl

theorem HoldRecord.blind_pend (h : HoldRecord) (k : Slot) : h.blind.pend k = h.pend k := by cases k <;> rfl

theorem HoldRecord.blind_mark (h : HoldRecord) (k : Slot) : h.blind.mark k = h.mark k := by cases k <;> rfl

theorem HoldRecord.blind_switchBlind (k : Slot) : SwitchBlind HoldRecord.blind k := by
  intro h x w hx
  cases k <;> simp only [HoldRecord.holding] at hx <;> simp [HoldRecord.blind, HoldRecord.setHolding, hx, Holding.blind]

theorem State.heldAnt_eq_granted (s : State) (p : Pos) (k : Slot) :
    s.heldAnt p k = (s.hold[p].granted k).map (·.1) := by
  rw [State.heldAnt, HoldRecord.granted, Option.map_map]
  rfl

/-- Both books stay but for switch states of holdings, and the rest stays as allocation leaves it. -/
structure SameBooks (s t : State) : Prop where
  frame : AllocFrame s t
  alloc : t.alloc = s.alloc
  hold : ∀ p : Pos, t.hold[p].blind = s.hold[p].blind

namespace SameBooks

variable {s t u : State}

theorem refl (s : State) : SameBooks s s := ⟨.refl s, rfl, fun _ => rfl⟩

theorem trans (h : SameBooks s t) (k : SameBooks t u) : SameBooks s u :=
  ⟨h.frame.trans k.frame, k.alloc.trans h.alloc, fun p => (k.hold p).trans (h.hold p)⟩

theorem pend (h : SameBooks s t) (p : Pos) (k : Slot) : t.hold[p].pend k = s.hold[p].pend k := by
  rw [← HoldRecord.blind_pend, h.hold, HoldRecord.blind_pend]

theorem mark (h : SameBooks s t) (p : Pos) (k : Slot) : t.hold[p].mark k = s.hold[p].mark k := by
  rw [← HoldRecord.blind_mark, h.hold, HoldRecord.blind_mark]

theorem granted (h : SameBooks s t) (p : Pos) (k : Slot) : t.hold[p].granted k = s.hold[p].granted k := by
  have seen (x : HoldRecord) : x.granted k = (x.blind.holding k).map fun y => (y.ant, y.origin) := by
    rw [HoldRecord.blind_holding, Option.map_map]
    rfl
  rw [seen, h.hold, ← seen]

theorem heldAnt (h : SameBooks s t) (p : Pos) (k : Slot) : t.heldAnt p k = s.heldAnt p k := by
  rw [State.heldAnt_eq_granted, h.granted, ← State.heldAnt_eq_granted]

end SameBooks

theorem LinksGrow.same {s t : State} (h : LinksGrow s t) : SameBooks s t :=
  ⟨h.frame, by rw [h.eq], fun p => by rw [h.eq]⟩

theorem State.notifyOpt_same (s : State) (p : Pos) (n : Option Notice) : SameBooks s (s.notifyOpt p n) := by
  cases n with
  | none => exact .refl s
  | some x => exact (s.notify_grow p x).same

theorem State.trySettle_alloc (s : State) (p : Pos) : (s.trySettle p).alloc = s.alloc := by
  unfold State.trySettle
  split <;> rfl

theorem State.moveHolding_alloc (s : State) (p : Pos) (k : Slot) (a : Ant) (x y : SwitchState) :
    (s.moveHolding p k a x y).alloc = s.alloc := by
  unfold State.moveHolding
  split
  · split <;> rfl
  · rfl

theorem State.completeHolding_alloc (s : State) (p : Pos) (k : Slot) (a : Ant) (x : SwitchState) :
    (s.completeHolding p k a x).alloc = s.alloc := by
  unfold State.completeHolding
  split
  · next c _ =>
    split
    · have told : ((s.moveHolding p k a x .set).notify p (.granted k a c.origin)).alloc = s.alloc := by
        rw [(State.notify_grow _ p _).same.alloc, State.moveHolding_alloc]
      cases k with
      | main => exact (State.trySettle_alloc _ p).trans told
      | listen => exact told
    · rfl
  · rfl

theorem State.reportAlready_alloc (s : State) (p : Pos) (x : Target) : (s.reportAlready p x).alloc = s.alloc := by
  unfold State.reportAlready
  split
  · rfl
  · split
    · exact s.moveHolding_alloc _ _ _ _ _
    · exact s.completeHolding_alloc _ _ _ _

/-- A change set handed over shows in the books in switch states alone. -/
theorem State.handChangeSet_same (s : State) (p : Pos) (ts : List Target) : SameBooks s (s.handChangeSet p ts) := by
  refine ⟨s.handChangeSet_frame p ts, ?_, fun q =>
    (s.handChangeSet_keeps (v := HoldRecord.blind) p ts fun _ _ _ k _ => HoldRecord.blind_switchBlind k).hold⟩
  unfold State.handChangeSet State.addTargets
  split
  · rfl
  · have put (t : State) (x : Target) : (t.listPut p x).alloc = t.alloc := by
      unfold State.listPut
      split <;> rfl
    dsimp only
    rw [State.each_same State.alloc _ _ fun x t => t.reportAlready_alloc p x,
      State.each_same State.alloc _ (fun (x : Target) y => y.listRemove p x.ant) fun _ _ => rfl,
      State.each_same State.alloc _ _ fun x t => put t x]

/-! ## Acts on the books -/

/-- One act on the two books. -/
inductive BookAct where
  /-- Both books stay, and the state becomes this one. -/
  | still (t : State)
  | main (p : Pos) (a : Ant) (o : Origin)
  | listen (p : Pos) (a : Ant) (o : Origin)
  /-- A slot of a holding record becomes empty. -/
  | drop (p : Pos) (k : Slot)
  /-- An antenna has no main holder any more. -/
  | free (a : Ant)
  | leave (p : Pos) (a : Ant)
  | append (a : Ant) (p : Pos) (k : Slot) (o : Origin)
  | remove (a : Ant) (p : Pos) (k : Slot)
  | mark (p : Pos) (k : Slot) (m : Option Mark)
  | redetermine (a : Ant)

/-- The state after an act. -/
def BookAct.apply (s : State) (x : BookAct) : State :=
  match x with
  | .still t => t
  | .main p a o => s.bookMain p a o
  | .listen p a o => s.bookListen p a o
  | .drop p k => s.setHold p (s.hold[p].setHolding k none)
  | .free a => s.unbookHolder a
  | .leave p a => s.leaveList p a
  | .append a p k o => s.appendEntry a p k o
  | .remove a p k => s.removeEntry a p k
  | .mark p k m => s.mark p k m
  | .redetermine a => s.redetermine a

/-- Any act: the books stay where it says so. -/
def anyAct (s : State) (x : BookAct) : Prop :=
  match x with
  | .still t => SameBooks s t
  | _ => True

theorem BookAct.frame {s : State} {x : BookAct} (h : anyAct s x) : AllocFrame s (x.apply s) := by
  cases x with
  | still t => exact h.frame
  | main p a o => exact s.bookMain_frame p a o
  | listen p a o => exact s.bookListen_frame p a o
  | drop p k => exact s.setHold_frame p _
  | free a => exact s.unbookHolder_frame a
  | leave p a => exact s.leaveList_frame p a
  | append a p k o => exact s.appendEntry_frame a p k o
  | remove a p k => exact s.removeEntry_frame a p k
  | mark p k m => exact s.mark_frame p k m
  | redetermine a => exact s.redetermine_frame a

/-- The antenna and the origin of a slot's holding after an act. -/
def BookAct.granted (s : State) (x : BookAct) (q : Pos) (k : Slot) : Option (Ant × Origin) :=
  match x with
  | .main p a o => if p = q ∧ k = .main then some (a, o) else s.hold[q].granted k
  | .listen p a o => if p = q ∧ k = .listen then some (a, o) else s.hold[q].granted k
  | .drop p k' => if p = q ∧ k = k' then none else s.hold[q].granted k
  | _ => s.hold[q].granted k

theorem BookAct.apply_granted {s : State} {x : BookAct} (h : anyAct s x) (q : Pos) (k : Slot) :
    (x.apply s).hold[q].granted k = x.granted s q k := by
  have hold (p : Pos) (y : HoldRecord) (t : State) (ht : t.hold = upd s.hold p y) :
      t.hold[q].granted k = if p = q then y.granted k else s.hold[q].granted k := by
    rw [ht, upd_get]
    split <;> rfl
  cases x with
  | still t => exact h.granted q k
  | main p a o | listen p a o =>
    rw [BookAct.apply, hold p _ _ rfl]
    by_cases e : p = q <;> cases k <;> simp [BookAct.granted, e, HoldRecord.granted, HoldRecord.holding]
  | drop p k' =>
    rw [BookAct.apply, hold p _ _ rfl]
    by_cases e : p = q <;> by_cases e' : k = k' <;> simp [BookAct.granted, e, e', HoldRecord.granted]
  | append a p k' o =>
    rw [BookAct.apply, hold p (s.hold[p].setPend k' (some a)) _ rfl]
    by_cases e : p = q <;> simp [BookAct.granted, e, HoldRecord.granted]
  | remove a p k' =>
    rw [BookAct.apply, hold p (s.hold[p].setPend k' none) _ rfl]
    by_cases e : p = q <;> simp [BookAct.granted, e, HoldRecord.granted]
  | mark p k' m =>
    rw [BookAct.apply, hold p _ _ rfl]
    by_cases e : p = q <;> simp [BookAct.granted, e, HoldRecord.granted]
  | free _ | leave _ _ | redetermine _ => rfl

/-- The antenna in a slot after an act. -/
def BookAct.held (s : State) (x : BookAct) (q : Pos) (k : Slot) : Option Ant :=
  match x with
  | .main p a _ => if p = q ∧ k = .main then some a else s.heldAnt q k
  | .listen p a _ => if p = q ∧ k = .listen then some a else s.heldAnt q k
  | .drop p k' => if p = q ∧ k = k' then none else s.heldAnt q k
  | _ => s.heldAnt q k

theorem BookAct.apply_heldAnt {s : State} {x : BookAct} (h : anyAct s x) (q : Pos) (k : Slot) :
    (x.apply s).heldAnt q k = x.held s q k := by
  rw [State.heldAnt_eq_granted, BookAct.apply_granted h]
  have same := s.heldAnt_eq_granted q k
  cases x with
  | main p a o | listen p a o => simp only [BookAct.granted, BookAct.held, same]; split <;> rfl
  | drop p k' => simp only [BookAct.granted, BookAct.held, same]; split <;> rfl
  | _ => exact same.symm

/-- The pending request of a slot after an act. -/
def BookAct.pend (s : State) (x : BookAct) (q : Pos) (k : Slot) : Option Ant :=
  match x with
  | .append a p k' _ => if p = q ∧ k = k' then some a else s.hold[q].pend k
  | .remove _ p k' => if p = q ∧ k = k' then none else s.hold[q].pend k
  | _ => s.hold[q].pend k

theorem BookAct.apply_pend {s : State} {x : BookAct} (h : anyAct s x) (q : Pos) (k : Slot) :
    (x.apply s).hold[q].pend k = x.pend s q k := by
  have hold (p : Pos) (y : HoldRecord) (t : State) (ht : t.hold = upd s.hold p y) :
      t.hold[q].pend k = if p = q then y.pend k else s.hold[q].pend k := by
    rw [ht, upd_get]
    split <;> rfl
  cases x with
  | still t => exact h.pend q k
  | main p a o | listen p a o =>
    rw [BookAct.apply, hold p _ _ rfl]
    by_cases e : p = q <;> cases k <;> simp [BookAct.pend, e, HoldRecord.pend]
  | drop p k' =>
    rw [BookAct.apply, hold p _ _ rfl]
    by_cases e : p = q <;> simp [BookAct.pend, e]
  | append a p k' o =>
    rw [BookAct.apply, hold p (s.hold[p].setPend k' (some a)) _ rfl]
    by_cases e : p = q <;> by_cases e' : k = k' <;> simp [BookAct.pend, e, e']
  | remove a p k' =>
    rw [BookAct.apply, hold p (s.hold[p].setPend k' none) _ rfl]
    by_cases e : p = q <;> by_cases e' : k = k' <;> simp [BookAct.pend, e, e']
  | mark p k' m =>
    rw [BookAct.apply, hold p _ _ rfl]
    by_cases e : p = q <;> simp [BookAct.pend, e]
  | free _ | leave _ _ | redetermine _ => rfl

/-- The deferred mark of a slot after an act. -/
def BookAct.marked (s : State) (x : BookAct) (q : Pos) (k : Slot) : Option Mark :=
  match x with
  | .mark p k' m => if p = q ∧ k = k' then m else s.hold[q].mark k
  | _ => s.hold[q].mark k

theorem BookAct.apply_mark {s : State} {x : BookAct} (h : anyAct s x) (q : Pos) (k : Slot) :
    (x.apply s).hold[q].mark k = x.marked s q k := by
  have hold (p : Pos) (y : HoldRecord) (t : State) (ht : t.hold = upd s.hold p y) :
      t.hold[q].mark k = if p = q then y.mark k else s.hold[q].mark k := by
    rw [ht, upd_get]
    split <;> rfl
  cases x with
  | still t => exact h.mark q k
  | main p a o | listen p a o =>
    rw [BookAct.apply, hold p _ _ rfl]
    by_cases e : p = q <;> cases k <;> simp [BookAct.marked, e, HoldRecord.mark]
  | drop p k' =>
    rw [BookAct.apply, hold p _ _ rfl]
    by_cases e : p = q <;> simp [BookAct.marked, e]
  | append a p k' o =>
    rw [BookAct.apply, hold p (s.hold[p].setPend k' (some a)) _ rfl]
    by_cases e : p = q <;> simp [BookAct.marked, e]
  | remove a p k' =>
    rw [BookAct.apply, hold p (s.hold[p].setPend k' none) _ rfl]
    by_cases e : p = q <;> simp [BookAct.marked, e]
  | mark p k' m =>
    rw [BookAct.apply, hold p _ _ rfl]
    by_cases e : p = q <;> by_cases e' : k = k' <;> simp [BookAct.marked, e, e']
  | free _ | leave _ _ | redetermine _ => rfl

/-- The wait queue of an antenna after an act. -/
def BookAct.queue (s : State) (x : BookAct) (b : Ant) : List WaitEntry :=
  match x with
  | .append a p k o => if a = b then s.alloc[b].queue ++ [⟨p, k, o, s.now⟩] else s.alloc[b].queue
  | .remove a p k => if a = b then s.alloc[b].queue.filter fun e => !(e.pos == p && e.kind == k) else s.alloc[b].queue
  | _ => s.alloc[b].queue

/-- The listener list of an antenna after an act. -/
def BookAct.listeners (s : State) (x : BookAct) (b : Ant) : List Pos :=
  match x with
  | .listen p a _ => if a = b then s.alloc[b].listeners ++ [p] else s.alloc[b].listeners
  | .leave p a => if a = b then s.alloc[b].listeners.filter fun q => q != p else s.alloc[b].listeners
  | _ => s.alloc[b].listeners

/-- An allocation record written and its yield timer re-determined (R79). -/
theorem State.redetermine_get (s : State) (a b : Ant) (x : AllocRecord) :
    ((s.setAlloc a x).redetermine a).alloc[b] =
      if a = b then { x with yieldT := (s.setAlloc a x).yieldNow a } else s.alloc[b] := by
  rw [State.redetermine, State.setAlloc_alloc, upd_get, State.setAlloc_alloc, upd_get_same, upd_get]
  split <;> rfl

theorem BookAct.apply_queue {s : State} {x : BookAct} (h : anyAct s x) (b : Ant) :
    (x.apply s).alloc[b].queue = x.queue s b ∧ (x.apply s).alloc[b].listeners = x.listeners s b := by
  have plain (a : Ant) (y : AllocRecord) : (s.setAlloc a y).alloc[b] = if a = b then y else s.alloc[b] := upd_get _ _ _ _
  cases x with
  | still t => rw [BookAct.apply, h.alloc]; exact ⟨rfl, rfl⟩
  | main p a o =>
    rw [BookAct.apply, State.bookMain, State.redetermine_get]
    by_cases e : a = b <;> simp [e, BookAct.queue, BookAct.listeners]
  | listen p a o =>
    rw [BookAct.apply, State.bookListen]
    dsimp only
    rw [State.setAlloc_alloc, upd_get]
    by_cases e : a = b <;> simp [e, BookAct.queue, BookAct.listeners]
  | free a =>
    rw [BookAct.apply, State.unbookHolder, State.redetermine_get]
    by_cases e : a = b <;> simp [e, BookAct.queue, BookAct.listeners]
  | leave p a =>
    rw [BookAct.apply, State.leaveList, plain]
    by_cases e : a = b <;> simp [e, BookAct.queue, BookAct.listeners]
  | append a p k o =>
    rw [BookAct.apply, State.appendEntry, State.redetermine_get]
    by_cases e : a = b <;> simp [e, BookAct.queue, BookAct.listeners]
  | remove a p k =>
    rw [BookAct.apply, State.removeEntry, State.redetermine_get]
    by_cases e : a = b <;> simp [e, BookAct.queue, BookAct.listeners]
  | redetermine a =>
    rw [BookAct.apply, State.redetermine, plain]
    by_cases e : a = b <;> simp [e, BookAct.queue, BookAct.listeners]
  | drop _ _ | mark _ _ _ => exact ⟨rfl, rfl⟩

end Sys2Proof.Machine
end

section
/-! SUPPORT. The operations of allocation as runs of acts on the two books (Chapters 4 to 6). -/

namespace Sys2Proof.Machine

/-! ## Which acts an operation makes -/

/-- The position has an entry of this kind on the antenna, or its pending request of this kind names the antenna. -/
def State.awaits (s : State) (p : Pos) (k : Slot) (a : Ant) : Prop :=
  s.waitsOn p k a = true ∨ s.hold[p].pend k = some a

/-- The acts of a listen hand-over: an entry removed, an eligible antenna granted, a list left (R65, R67). -/
def listening (s : State) (x : BookAct) : Prop :=
  match x with
  | .still t => SameBooks s t
  | .listen p a _ => s.listenElig a p = true
  | .drop _ k => k = .listen
  | .leave _ _ => True
  | .remove a p k => k = .listen ∧ s.awaits p k a
  | _ => False

/-- The acts of a hand-over: beside those of a listen hand-over, mains of positions outside key span (R64, R66). -/
def handing (s : State) (x : BookAct) : Prop :=
  match x with
  | .still t => SameBooks s t
  | .main p a _ => s.mainElig a p = true ∧ s.inSpan p = false
  | .listen p a _ => s.listenElig a p = true
  | .drop p k => k = .listen ∨ s.inSpan p = false
  | .free _ | .leave _ _ => True
  | .remove a p k => s.awaits p k a
  | _ => False

/-- The acts of a release with its follow: beside those of a hand-over, an entry on an eligible antenna for a position that
awaits nothing in that slot, and to listen on an antenna that may be shared but has no room (R90 to R92). -/
def working (s : State) (x : BookAct) : Prop :=
  match x with
  | .append a p k _ =>
    s.elig k a p = true ∧ s.hold[p].pend k = none ∧
      (k = .listen → s.cfg.ants[a].capacity ≠ 0 ∧ s.hasListenRoom a = false)
  | x => handing s x

/-- The acts of a revalidation: beside those of a release with its follow, entries removed, and marks of cause EDIT in key
span (R179). -/
def revising (s : State) (x : BookAct) : Prop :=
  match x with
  | .remove _ _ _ => True
  | .mark p _ m => s.inSpan p = true ∧ m = some .edit
  | x => working s x

/-- Acts that put no entry into a wait queue. -/
def granting (s : State) (x : BookAct) : Prop :=
  match x with
  | .append _ _ _ _ => False
  | x => anyAct s x

theorem listening_handing {s : State} {x : BookAct} (h : listening s x) : handing s x := by
  cases x with
  | drop p k => exact .inl h
  | remove a p k => exact h.2
  | _ => first | exact h | exact h.elim

theorem handing_working {s : State} {x : BookAct} (h : handing s x) : working s x := by
  cases x with
  | append a p k o => exact h.elim
  | _ => exact h

theorem working_revising {s : State} {x : BookAct} (h : working s x) : revising s x := by
  cases x with
  | remove a p k => trivial
  | mark p k m => exact h.elim
  | _ => exact h

theorem handing_granting {s : State} {x : BookAct} (h : handing s x) : granting s x := by
  cases x with
  | still t => exact h
  | append a p k o => exact h.elim
  | _ => trivial

theorem granting_any {s : State} {x : BookAct} (h : granting s x) : anyAct s x := by
  cases x with
  | append a p k o => trivial
  | _ => exact h

theorem revising_any {s : State} {x : BookAct} (h : revising s x) : anyAct s x := by
  cases x with
  | still t => exact h
  | _ => trivial

theorem handing_any {s : State} {x : BookAct} (h : handing s x) : anyAct s x := granting_any (handing_granting h)

theorem working_any {s : State} {x : BookAct} (h : working s x) : anyAct s x := revising_any (working_revising h)

/-! ## Runs -/

/-- A run of acts of a kind. -/
inductive BookRun (c : State → BookAct → Prop) (s : State) : State → Prop where
  | refl : BookRun c s s
  | act {t : State} (h : BookRun c s t) (x : BookAct) (hx : c t x) : BookRun c s (x.apply t)

namespace BookRun

variable {c d : State → BookAct → Prop} {s t u : State}

theorem one {x : BookAct} (h : c s x) : BookRun c s (x.apply s) := .act .refl x h

theorem trans (h : BookRun c s t) (k : BookRun c t u) : BookRun c s u := by
  induction k with
  | refl => exact h
  | act _ x hx ih => exact .act ih x hx

theorem mono (le : ∀ {u x}, c u x → d u x) (h : BookRun c s t) : BookRun d s t := by
  induction h with
  | refl => exact .refl
  | act _ x hx ih => exact .act ih x (le hx)

theorem frame (le : ∀ {u x}, c u x → anyAct u x) (h : BookRun c s t) : AllocFrame s t := by
  induction h with
  | refl => exact .refl s
  | act _ x hx ih => exact ih.trans (BookAct.frame (le hx))

/-- A property that each act keeps is kept by the run. -/
theorem keeps {P : State → Prop} (step : ∀ t x, c t x → P t → P (x.apply t)) (h : BookRun c s t) (hs : P s) : P t := by
  induction h with
  | refl => exact hs
  | act _ x hx ih => exact step _ x hx ih

/-- A run of updates that are runs of acts, each made from a state that the run so far has reached. -/
theorem each {α : Type} (xs : List α) (f : α → State → State)
    (step : ∀ x t, x ∈ xs → BookRun c s t → BookRun c t (f x t)) : BookRun c s (s.each xs f) :=
  State.each_keeps (BookRun c s) xs f (fun x t hx ht => ht.trans (step x t hx ht)) s .refl

end BookRun

theorem SameBooks.run {c : State → BookAct → Prop} {s t : State} (h : SameBooks s t)
    (le : ∀ {u x}, listening u x → c u x) : BookRun c s t := BookRun.one (x := .still t) (le h)

/-! ## Releases, grants, hand-overs -/

section Runs

variable {c : State → BookAct → Prop}

theorem State.removeEntry_run {s : State} {a : Ant} {p : Pos} {k : Slot} (h : c s (.remove a p k)) :
    BookRun c s (s.removeEntry a p k) := BookRun.one (x := .remove a p k) h

theorem State.expire_run (le : ∀ {u x}, listening u x → c u x) {s : State} {a : Ant} {p : Pos} {k : Slot}
    (h : c s (.remove a p k)) (cause : Cause) : BookRun c s (s.expire a p k cause) :=
  (State.removeEntry_run h).trans ((State.notify_grow _ p _).same.run le)

theorem State.removePending_run (s : State) (p : Pos) (k : Slot)
    (h : ∀ a, s.hold[p].pend k = some a → c s (.remove a p k)) : BookRun c s (s.removePending p k) := by
  unfold State.removePending
  split
  · exact .refl
  · next a ha => exact State.removeEntry_run (h a ha)

/-- The release of a slot with its change set and its notice (R64, R65). -/
theorem State.releaseMain_run (le : ∀ {u x}, handing u x → c u x) {s : State} {p : Pos} (h : c s (.drop p .main))
    (a : Ant) (n : Option Notice) : BookRun c s (s.releaseMain p a n) :=
  ((BookRun.one h).trans (BookRun.one (x := .free a) (le (by trivial)))).trans
    (((State.handChangeSet_same _ p _).trans (State.notifyOpt_same _ p n)).run fun hx => le (listening_handing hx))

theorem State.releaseListen_run (le : ∀ {u x}, listening u x → c u x) (s : State) (p : Pos) (a : Ant)
    (n : Option Notice) : BookRun c s (s.releaseListen p a n) :=
  ((BookRun.one (x := .drop p .listen) (le rfl)).trans (BookRun.one (x := .leave p a) (le (by trivial)))).trans
    (((State.handChangeSet_same _ p _).trans (State.notifyOpt_same _ p n)).run le)

theorem State.unbookOld_run (le : ∀ {u x}, handing u x → c u x) (s : State) (p : Pos) (k : Slot) (old : Option Ant) :
    BookRun c s (s.unbookOld p k old) := by
  unfold State.unbookOld
  split
  · exact .refl
  · next m =>
    split
    · exact BookRun.one (x := .free m) (le (by trivial))
    · exact BookRun.one (x := .leave p m) (le (by trivial))

theorem State.unbookOldListen_run (s : State) (p : Pos) (old : Option Ant) :
    BookRun listening s (s.unbookOld p .listen old) := by
  cases old with
  | none => exact .refl
  | some m => exact BookRun.one (x := .leave p m) (by trivial)

theorem State.handOld_run (s : State) (hand : Ant → State → State) (hh : ∀ a t, BookRun c t (hand a t))
    (old : Option Ant) : BookRun c s (s.handOld hand old) := by
  cases old with
  | none => exact .refl
  | some m => exact hh m s

/-- The books of a listen grant, without the hand-over that follows it. -/
def State.grantListenBooks (s : State) (p : Pos) (a : Ant) (o : Origin) : State :=
  (((s.bookListen p a o).unbookOld p .listen (s.heldAnt p .listen)).removePending p .listen).handChangeSet p
    (grantTargets a .listen (s.heldAnt p .listen))

theorem State.grantListenWith_eq (hand : Ant → State → State) (p : Pos) (a : Ant) (o : Origin) (s : State) :
    State.grantListenWith hand p a o s = (s.grantListenBooks p a o).handOld hand (s.heldAnt p .listen) := rfl

theorem State.grantListenBooks_run {s : State} {p : Pos} {a : Ant} (he : s.listenElig a p = true) (o : Origin) :
    BookRun listening s (s.grantListenBooks p a o) :=
  (((BookRun.one (x := .listen p a o) (by exact he)).trans (State.unbookOldListen_run _ p _)).trans
    (State.removePending_run _ p .listen fun _ hb => ⟨rfl, .inr hb⟩)).trans ((State.handChangeSet_same _ p _).run id)

theorem State.grantListenWith_run {hand : Ant → State → State} (hh : ∀ a t, BookRun listening t (hand a t)) {s : State}
    {p : Pos} {a : Ant} (he : s.listenElig a p = true) (o : Origin) :
    BookRun listening s (State.grantListenWith hand p a o s) :=
  (State.grantListenBooks_run he o).trans (State.handOld_run _ hand hh _)

/-- An entry in arbitration order waits for its antenna in its kind (R50, R66). -/
theorem State.waitsOn_of_arbitration {s : State} {a : Ant} {k : Slot} {e : WaitEntry} (h : e ∈ s.arbitration a k) :
    s.waitsOn e.pos k a = true := by
  have kind : e.kind = k := by
    simp only [State.arbitration, List.mem_append, List.mem_filter, beq_iff_eq] at h
    rcases h with h | h <;> exact h.1.2
  exact List.any_eq_true.mpr ⟨e, State.mem_queue_of_arbitration h, by simp [kind]⟩

/-- What one round of a listen hand-over can do (R67). -/
theorem State.handListenFuel_cases (n : Nat) (a : Ant) (s : State) :
    ((s.hasListenRoom a = false ∨ s.arbitration a .listen = []) ∧ State.handListenFuel (n + 1) a s = s) ∨
      ∃ e ∈ s.arbitration a .listen,
        (s.listenElig a e.pos = true ∧ State.handListenFuel (n + 1) a s = State.handListenFuel n a
          (State.grantListenWith (State.handListenFuel n) e.pos a e.origin (s.removeEntry a e.pos .listen))) ∨
        State.handListenFuel (n + 1) a s = State.handListenFuel n a (s.expire a e.pos .listen .ineligible) := by
  rw [State.handListenFuel]
  split
  · cases h : s.arbitration a .listen with
    | nil => exact .inl ⟨.inr rfl, rfl⟩
    | cons e es =>
      refine .inr ⟨e, List.mem_cons_self, ?_⟩
      simp only [List.head?_cons]
      split
      · next he => exact .inl ⟨(Bool.and_eq_true_iff.mp he).1, rfl⟩
      · exact .inr rfl
  · next h => exact .inl ⟨.inl (by simpa using h), rfl⟩

theorem State.handListenFuel_run (n : Nat) (a : Ant) (s : State) : BookRun listening s (State.handListenFuel n a s) := by
  induction n generalizing a s with
  | zero => exact .refl
  | succ n ih =>
    rcases s.handListenFuel_cases n a with ⟨-, e⟩ | ⟨e, he, ⟨elig, h⟩ | h⟩
    · rw [e]
      exact .refl
    · have removed : BookRun listening s (s.removeEntry a e.pos .listen) :=
        State.removeEntry_run ⟨rfl, .inl (State.waitsOn_of_arbitration he)⟩
      have elig' := ((removed.frame fun hx => handing_any (listening_handing hx)).elig .listen a e.pos).trans elig
      rw [h]
      exact (removed.trans (State.grantListenWith_run (fun b t => ih b t) elig' e.origin)).trans (ih a _)
    · rw [h]
      exact (State.expire_run id ⟨rfl, .inl (State.waitsOn_of_arbitration he)⟩ _).trans (ih a _)

theorem State.handListen_run (a : Ant) (s : State) : BookRun listening s (State.handListen a s) :=
  State.handListenFuel_run _ a s

/-- The books of a main grant, without the hand-overs that follow it. -/
def State.grantMainBooks (s : State) (p : Pos) (a : Ant) (o : Origin) : State :=
  let t := (((s.bookMain p a o).takeUpListen p a (s.alloc[a].listeners.contains p)).unbookOld p .main
    (s.heldAnt p .main)).removePending p .main
  (if t.hold[p].pendListen == some a then t.expire a p .listen .ineligible else t).handChangeSet p
    (grantTargets a .main (s.heldAnt p .main))

theorem State.grantMainWith_eq (hand : Ant → State → State) (p : Pos) (a : Ant) (o : Origin) (s : State) :
    State.grantMainWith hand p a o s =
      if s.alloc[a].listeners.contains p then
        State.handListen a ((s.grantMainBooks p a o).handOld hand (s.heldAnt p .main))
      else (s.grantMainBooks p a o).handOld hand (s.heldAnt p .main) := rfl

theorem State.takeUpListen_run (s : State) (p : Pos) (a : Ant) (b : Bool) :
    BookRun listening s (s.takeUpListen p a b) := by
  unfold State.takeUpListen
  split
  · exact (BookRun.one (x := .drop p .listen) rfl).trans (BookRun.one (x := .leave p a) (by trivial))
  · exact .refl

theorem State.grantMainBooks_run (le : ∀ {u x}, handing u x → c u x) {s : State} {p : Pos} {a : Ant} {o : Origin}
    (h : c s (.main p a o)) : BookRun c s (s.grantMainBooks p a o) := by
  have pendListen (t : State) :
      BookRun c t (if t.hold[p].pendListen == some a then t.expire a p .listen .ineligible else t) := by
    split
    · next e =>
      exact State.expire_run (fun hx => le (listening_handing hx)) (le (.inr (by exact beq_iff_eq.mp e))) _
    · exact .refl
  unfold State.grantMainBooks
  dsimp only
  exact (((((BookRun.one h).trans ((State.takeUpListen_run _ p a _).mono fun hx => le (listening_handing hx))).trans
    (State.unbookOld_run le _ p .main _)).trans
    (State.removePending_run _ p .main fun _ hb => le (.inr hb))).trans (pendListen _)).trans
    ((State.handChangeSet_same _ p _).run fun hx => le (listening_handing hx))

theorem State.grantMainWith_run (le : ∀ {u x}, handing u x → c u x) {hand : Ant → State → State}
    (hh : ∀ a t, BookRun c t (hand a t)) {s : State} {p : Pos} {a : Ant} {o : Origin} (h : c s (.main p a o)) :
    BookRun c s (State.grantMainWith hand p a o s) := by
  have old := (State.grantMainBooks_run le h).trans (State.handOld_run _ hand hh (s.heldAnt p .main))
  rw [State.grantMainWith_eq]
  split
  · exact old.trans ((State.handListen_run a _).mono fun hx => le (listening_handing hx))
  · exact old

/-- What one round of a main hand-over can do (R66). -/
theorem State.handMainFuel_cases (n : Nat) (a : Ant) (s : State) :
    State.handMainFuel (n + 1) a s = s ∨
      ∃ e ∈ s.arbitration a .main,
        (s.mainElig a e.pos = true ∧ s.inSpan e.pos = false ∧ State.handMainFuel (n + 1) a s =
          State.grantMainWith (State.handMainFuel n) e.pos a e.origin (s.removeEntry a e.pos .main)) ∨
        State.handMainFuel (n + 1) a s = State.handMainFuel n a (s.expire a e.pos .main .ineligible) := by
  rw [State.handMainFuel]
  split
  · exact .inl rfl
  · split
    · exact .inl rfl
    · next e he =>
      have out := List.find?_some he
      refine .inr ⟨e, List.mem_of_find?_eq_some he, ?_⟩
      split
      · next elig => exact .inl ⟨elig, by simpa using out, rfl⟩
      · exact .inr rfl

theorem State.handMainFuel_run (n : Nat) (a : Ant) (s : State) : BookRun handing s (State.handMainFuel n a s) := by
  induction n generalizing a s with
  | zero => exact .refl
  | succ n ih =>
    rcases s.handMainFuel_cases n a with e | ⟨e, he, ⟨elig, out, h⟩ | h⟩
    · rw [e]
      exact .refl
    · have removed : BookRun handing s (s.removeEntry a e.pos .main) :=
        State.removeEntry_run (.inl (State.waitsOn_of_arbitration he))
      have frame := removed.frame handing_any
      rw [h]
      exact removed.trans (State.grantMainWith_run id (fun b t => ih b t)
        ⟨(frame.elig .main a e.pos).trans elig, (frame.inSpan e.pos).trans out⟩)
    · rw [h]
      exact (State.expire_run listening_handing (.inl (State.waitsOn_of_arbitration he)) _).trans (ih a _)

theorem State.handMain_run (a : Ant) (s : State) : BookRun handing s (State.handMain a s) := State.handMainFuel_run _ a s

theorem State.handSlot_run (s : State) (k : Slot) (a : Ant) : BookRun handing s (s.handSlot k a) := by
  cases k with
  | main => exact State.handMain_run a s
  | listen => exact (State.handListen_run a s).mono listening_handing

theorem State.grantMain_run (le : ∀ {u x}, handing u x → c u x) {s : State} {p : Pos} {a : Ant} {o : Origin}
    (h : c s (.main p a o)) : BookRun c s (s.grantMain p a o) :=
  State.grantMainWith_run le (fun b t => (State.handMain_run b t).mono le) h

theorem State.grantListen_run {s : State} {p : Pos} {a : Ant} (he : s.listenElig a p = true) (o : Origin) :
    BookRun listening s (s.grantListen p a o) :=
  State.grantListenWith_run (fun b t => State.handListen_run b t) he o

/-- The release of a slot of a position outside key span, with its hand-over (R64, R65). -/
theorem State.lose_run {s : State} {p : Pos} (h : s.inSpan p = false) (k : Slot) (n : Ant → Option Notice) :
    BookRun handing s (s.lose p k n) := by
  unfold State.lose
  split
  · exact .refl
  · next a _ =>
    cases k with
    | main => exact (State.releaseMain_run id (.inr h) a _).trans (State.handSlot_run _ .main a)
    | listen => exact (State.releaseListen_run listening_handing s p a _).trans (State.handSlot_run _ .listen a)

/-! ## Follow (R89 to R92) -/

theorem State.candidate_elig {s : State} {k : Slot} {p : Pos} {a : Ant} (h : s.candidate k p a = true) :
    s.elig k a p = true := by
  cases k with
  | main => exact h
  | listen => exact (Bool.and_eq_true_iff.mp h).1

theorem State.followGrant_run {s : State} {p : Pos} (h : s.inSpan p = false) {k : Slot} {a : Ant}
    (he : s.elig k a p = true) : BookRun handing s (s.followGrant p k a) := by
  cases k with
  | main => exact State.grantMain_run id ⟨he, h⟩
  | listen => exact (State.grantListen_run he .follow).mono listening_handing

theorem State.withdraw_run (le : ∀ {u x}, listening u x → c u x) (s : State) (p : Pos) (k : Slot)
    (h : ∀ b, s.hold[p].pend k = some b → c s (.remove b p k)) : BookRun c s (s.withdraw p k) := by
  unfold State.withdraw
  split
  · exact .refl
  · next b hb => exact (State.removeEntry_run (h b hb)).trans ((State.notify_grow _ p _).same.run le)

theorem State.queuePass_none {s : State} {p : Pos} {k : Slot} {b : Band}
    (h : (s.prefList p b k).find? (fun a => s.candidate k p a && s.mayQueue k p a) = none) :
    s.queuePass p k b = s.notify p (.followNone k b (s.bands[p].settled (sideOf k))) := by
  rw [State.queuePass, h]

/-- An earlier request is withdrawn before the entry of a queue pass is appended (R92). -/
theorem State.queuePass_some {s : State} {p : Pos} {k : Slot} {b : Band} {a : Ant}
    (h : (s.prefList p b k).find? (fun a => s.candidate k p a && s.mayQueue k p a) = some a) :
    s.queuePass p k b = (s.withdraw p k).appendEntry a p k .follow := by
  rw [State.queuePass, h, State.withdraw]

/-- A request withdrawn leaves none of its kind, and no listener list changes. -/
theorem State.withdraw_frees (s : State) (p : Pos) (k : Slot) :
    (s.withdraw p k).hold[p].pend k = none ∧ ∀ a, (s.withdraw p k).hasListenRoom a = s.hasListenRoom a := by
  unfold State.withdraw
  split
  · next h => exact ⟨h, fun _ => rfl⟩
  · next b _ =>
    have told := ((s.removeEntry b p k).notify_grow p (.withdrawn k b)).same
    have removed : anyAct s (.remove b p k) := trivial
    refine ⟨(told.pend p k).trans ((BookAct.apply_pend removed p k).trans (by simp [BookAct.pend])), fun a => ?_⟩
    rw [State.hasListenRoom, told.alloc, told.frame.cfg]
    exact congrArg (fun x : List Pos => decide (x.length < s.cfg.ants[a].capacity)) (BookAct.apply_queue removed a).2

/-- What a walk can do on a band: a free candidate is granted, nothing, or a queue pass where no candidate is free. -/
theorem State.followSlot_acts (s : State) (p : Pos) (k : Slot) :
    s.followSlot p k = s ∨ (s.heldAnt p k = none ∧ ∃ b, s.bandOf p = some b ∧
      ((∃ a ∈ s.prefList p b k, s.candidate k p a = true ∧ s.slotFree k a = true ∧
          s.followSlot p k = s.followGrant p k a) ∨
        ((∀ a ∈ s.prefList p b k, s.candidate k p a = true → s.slotFree k a = false) ∧
          s.followSlot p k = s.queuePass p k b))) := by
  unfold State.followSlot
  split
  · next on =>
    have empty : s.heldAnt p k = none := Option.isNone_iff_eq_none.mp (Bool.and_eq_true_iff.mp on).2
    unfold State.walk
    split
    · exact .inl rfl
    · next b hb =>
      cases found : (s.prefList p b k).find? fun a => s.candidate k p a && s.slotFree k a with
      | some a =>
        have ok := List.find?_some found
        obtain ⟨good, free⟩ := Bool.and_eq_true_iff.mp ok
        exact .inr ⟨empty, b, hb, .inl ⟨a, List.mem_of_find?_eq_some found, good, free, rfl⟩⟩
      | none =>
        have full (a : Ant) (ha : a ∈ s.prefList p b k) (good : s.candidate k p a = true) : s.slotFree k a = false := by
          simpa [good] using List.find?_eq_none.mp found a ha
        dsimp only
        split
        · split
          · exact .inl rfl
          · exact .inr ⟨empty, b, hb, .inr ⟨full, rfl⟩⟩
        · exact .inr ⟨empty, b, hb, .inr ⟨full, rfl⟩⟩
  · exact .inl rfl

theorem State.queuePass_run {s : State} {p : Pos} {k : Slot} {b : Band}
    (full : ∀ a ∈ s.prefList p b k, s.candidate k p a = true → s.slotFree k a = false) :
    BookRun working s (s.queuePass p k b) := by
  cases found : (s.prefList p b k).find? fun a => s.candidate k p a && s.mayQueue k p a with
  | none =>
    rw [State.queuePass_none found]
    exact (s.notify_grow p _).same.run fun hx => handing_working (listening_handing hx)
  | some a =>
    have ok := List.find?_some found
    obtain ⟨good, may⟩ := Bool.and_eq_true_iff.mp ok
    have run := s.withdraw_run listening_handing p k fun _ hb => .inr hb
    have frame := run.frame handing_any
    obtain ⟨none, room⟩ := s.withdraw_frees p k
    rw [State.queuePass_some found]
    refine (run.mono handing_working).trans (BookRun.one (x := .append a p k .follow)
      ⟨(frame.elig k a p).trans (State.candidate_elig good), none, fun hk => ?_⟩)
    subst hk
    refine ⟨?_, (room a).trans (full a (List.mem_of_find?_eq_some found) good)⟩
    rw [frame.cfg]
    simpa using (Bool.and_eq_true_iff.mp may).2

theorem State.followSlot_run {s : State} {p : Pos} (h : s.inSpan p = false) (k : Slot) :
    BookRun working s (s.followSlot p k) := by
  rcases s.followSlot_acts p k with e | ⟨-, b, -, ⟨a, -, good, -, e⟩ | ⟨full, e⟩⟩
  · rw [e]
    exact .refl
  · rw [e]
    exact (State.followGrant_run h (State.candidate_elig good)).mono handing_working
  · rw [e]
    exact State.queuePass_run full

theorem State.followMain_run {s : State} {p : Pos} (h : s.inSpan p = false) : BookRun working s (s.followMain p) := by
  have main := State.followSlot_run h .main
  unfold State.followMain
  dsimp only
  split
  · exact main.trans (State.followSlot_run (((s.followSlot_frame p .main).inSpan p).trans h) .listen)
  · exact main

theorem State.followOne_run {s : State} {p : Pos} (h : s.inSpan p = false) (k : Slot) :
    BookRun working s (s.followOne p k) := by
  cases k with
  | main => exact State.followMain_run h
  | listen => exact State.followSlot_run h .listen

/-! ## The work of one slot (R94 to R97, R111, R179) -/

/-- A slot is released for a cause, or left, and followed. -/
theorem State.loseIf_followOne_run {s : State} {p : Pos} (h : s.inSpan p = false) (k : Slot) (b : Bool) (cause : Cause) :
    BookRun working s ((if b then s.loseFor p k cause else s).followOne p k) := by
  have lost : BookRun handing s (if b then s.loseFor p k cause else s) := by
    split
    · exact State.lose_run h k _
    · exact .refl
  exact (lost.mono handing_working).trans
    (State.followOne_run (((lost.frame handing_any).inSpan p).trans h) k)

theorem State.segmentWork_run {s : State} {p : Pos} (h : s.inSpan p = false) (k : Slot) :
    BookRun working s (s.segmentWork p k) := State.loseIf_followOne_run h k (s.slotIneligible p k) .segment

theorem State.faultWork_run {s : State} {p : Pos} (h : s.inSpan p = false) (k : Slot) (a : Ant) :
    BookRun working s (s.faultWork p k a) :=
  State.loseIf_followOne_run h k (s.heldAnt p k == some a || s.slotIneligible p k) .fault

theorem State.editWork_run {s : State} {p : Pos} (h : s.inSpan p = false) (k : Slot) :
    BookRun working s (s.editWork p k) := by
  unfold State.editWork
  split
  · exact State.loseIf_followOne_run h k true .edit
  · exact .refl

theorem State.bandRelease_followOne_run {s : State} {p : Pos} (h : s.inSpan p = false) (k : Slot) :
    BookRun working s ((s.bandRelease p k).followOne p k) := by
  unfold State.bandRelease
  split
  · exact State.loseIf_followOne_run h k (s.slotIneligible p k) .band
  · exact State.loseIf_followOne_run h k true .band

theorem State.markWork_run {s : State} {p : Pos} (h : s.inSpan p = false) (k : Slot) (m : Mark) :
    BookRun working s (s.markWork p k m) := by
  cases m with
  | band => exact State.bandRelease_followOne_run h k
  | segment => exact State.segmentWork_run h k
  | fault a => exact State.faultWork_run h k a
  | edit => exact State.editWork_run h k

theorem State.allocSegmentChange_outside {s : State} {p : Pos} (h : s.inSpan p = false) (side : Side) :
    s.allocSegmentChange p side = s.segmentWork p (slotOfSide side) := by
  rw [State.allocSegmentChange, if_neg (by rw [h]; simp)]

theorem State.allocSegmentChange_inSpan {s : State} {p : Pos} (h : s.inSpan p = true) (side : Side) :
    s.allocSegmentChange p side = s.mark p (slotOfSide side) (some .segment) := by
  rw [State.allocSegmentChange, if_pos h]

/-! ## Revalidation (R179) -/

theorem State.dropIneligible_run (s : State) (a : Ant) : BookRun revising s (s.dropIneligible a) := by
  refine BookRun.each _ _ fun e t _ _ => ?_
  split
  · exact .refl
  · exact State.expire_run (fun hx => working_revising (handing_working (listening_handing hx))) (by trivial) _

theorem State.revalidateSlot_run (s : State) (p : Pos) (k : Slot) : BookRun revising s (s.revalidateSlot p k) := by
  unfold State.revalidateSlot
  split
  · split
    · next h => exact BookRun.one (x := .mark p k (some .edit)) ⟨h, rfl⟩
    · next h => exact (State.editWork_run (by simpa using h) k).mono working_revising
  · exact .refl

theorem State.revalidateHand_run (s : State) (a : Ant) : BookRun handing s (s.revalidateHand a) := by
  have listen (t : State) : BookRun handing t
      (if t.hasListenRoom a && !(t.arbitration a .listen).isEmpty then State.handListen a t else t) := by
    split
    · exact (State.handListen_run a t).mono listening_handing
    · exact .refl
  unfold State.revalidateHand
  dsimp only
  split
  · exact (State.handMain_run a s).trans (listen _)
  · exact listen s

/-- Step 1 of a revalidation (R179). -/
def State.dropAll (s : State) : State := s.each allAnts fun a x => x.dropIneligible a

/-- Step 2 of a revalidation (R179). -/
def State.revalidateSlots (s : State) : State :=
  s.each allPos fun p x => (x.revalidateSlot p .main).revalidateSlot p .listen

/-- Step 3 of a revalidation (R179). -/
def State.revalidateHands (s : State) : State := s.each allAnts fun a x => x.revalidateHand a

theorem State.revalidate_eq (s : State) : s.revalidate = s.dropAll.revalidateSlots.revalidateHands := rfl

theorem State.dropAll_run (s : State) : BookRun revising s s.dropAll :=
  BookRun.each _ _ fun a t _ _ => t.dropIneligible_run a

theorem State.revalidateSlots_run (s : State) : BookRun revising s s.revalidateSlots :=
  BookRun.each _ _ fun p t _ _ => (t.revalidateSlot_run p .main).trans (State.revalidateSlot_run _ p .listen)

theorem State.revalidateHands_run (s : State) : BookRun revising s s.revalidateHands :=
  BookRun.each _ _ fun a t _ _ => (t.revalidateHand_run a).mono fun hx => working_revising (handing_working hx)

theorem State.revalidate_run (s : State) : BookRun revising s s.revalidate :=
  (s.dropAll_run.trans (State.revalidateSlots_run _)).trans (State.revalidateHands_run _)

/-! ## The leaving of TAIL and the yield timers (R70, R78 to R81) -/

theorem State.preempt_run (s : State) (a : Ant) (h w : Pos) : BookRun granting s (s.preempt a h w) :=
  ((State.releaseMain_run handing_granting (by trivial) a _).trans (State.removeEntry_run (by trivial))).trans
    (State.grantMain_run handing_granting (by trivial))

theorem State.yieldExpire_run (s : State) (a : Ant) : BookRun granting s (s.yieldExpire a) := by
  unfold State.yieldExpire
  split
  · split
    · exact s.preempt_run a _ _
    · exact State.expire_run (fun hx => handing_granting (listening_handing hx)) (by trivial) _
  · exact .refl

theorem State.yieldIfDue_run (s : State) (a : Ant) : BookRun granting s (s.yieldIfDue a) := by
  unfold State.yieldIfDue
  split
  · exact s.yieldExpire_run a
  · exact .refl

theorem State.tailSlotWork_run {s : State} {p : Pos} (h : s.inSpan p = false) (k : Slot) :
    BookRun anyAct s (s.tailSlotWork p k) := by
  unfold State.tailSlotWork
  split
  · exact .refl
  · exact ((State.markWork_run h k _).mono working_any).trans (BookRun.one (x := .mark p k none) (by trivial))

theorem State.tailHandOver_run (s : State) (p : Pos) : BookRun handing s (s.tailHandOver p) := by
  unfold State.tailHandOver
  split
  · split
    · exact State.handMain_run _ s
    · exact .refl
  · exact .refl

end Runs

end Sys2Proof.Machine
end

section
/-! SUPPORT. The settled-segment change (R25, R96) with its release and its follow (R64, R89 to R92). -/

namespace Sys2Proof.Machine

/-! ## Every holding eligible, or kept under a mark -/

/-- The holding of a slot is eligible, or a position in key span keeps it under an EDIT mark (R179). -/
def State.slotGood (s : State) (p : Pos) (k : Slot) : Prop :=
  ∀ a, s.heldAnt p k = some a → s.elig k a p = true ∨ (s.inSpan p = true ∧ s.hold[p].mark k = some .edit)

/-- Grants are of eligible antennas, so no act of a revalidation spoils a good slot. -/
theorem BookAct.keeps_slotGood {s : State} {x : BookAct} (h : revising s x) {p : Pos} {k : Slot} (good : s.slotGood p k) :
    (x.apply s).slotGood p k := by
  have any := revising_any h
  have frame := BookAct.frame any
  intro a ha
  rw [BookAct.apply_heldAnt any] at ha
  rw [frame.elig, frame.inSpan, BookAct.apply_mark any]
  cases x with
  | main q b o =>
    simp only [BookAct.held] at ha
    split at ha
    · next e => obtain ⟨rfl, rfl⟩ := e; cases ha; exact .inl h.1
    · exact good a ha
  | listen q b o =>
    simp only [BookAct.held] at ha
    split at ha
    · next e => obtain ⟨rfl, rfl⟩ := e; cases ha; exact .inl h
    · exact good a ha
  | drop q k' =>
    simp only [BookAct.held] at ha
    split at ha
    · cases ha
    · exact good a ha
  | mark q k' m =>
    simp only [BookAct.marked]
    split
    · next e => obtain ⟨rfl, rfl⟩ := e; exact .inr h
    · exact good a ha
  | _ => exact good a ha

theorem BookRun.slotGood {s t : State} (h : BookRun revising s t) {p : Pos} {k : Slot} (good : s.slotGood p k) :
    t.slotGood p k := h.keeps (P := fun u => u.slotGood p k) (fun _ _ hx => BookAct.keeps_slotGood hx) good

theorem State.slotGood_of_empty {s : State} {p : Pos} {k : Slot} (h : s.heldAnt p k = none) : s.slotGood p k :=
  fun a ha => by rw [h] at ha; cases ha

theorem State.slotGood_of_eligible {s : State} {p : Pos} {k : Slot} (h : s.slotIneligible p k = false) :
    s.slotGood p k := by
  intro a ha
  rw [State.slotIneligible, ha] at h
  exact .inl (by simpa using h)

/-- The books of a release, without the hand-over that follows it (R64, R65). -/
def State.releaseSlot (s : State) (p : Pos) (k : Slot) (a : Ant) (n : Option Notice) : State :=
  match k with
  | .main => s.releaseMain p a n
  | .listen => s.releaseListen p a n

theorem State.lose_of_held {s : State} {p : Pos} {k : Slot} {a : Ant} (h : s.heldAnt p k = some a)
    (n : Ant → Option Notice) : s.lose p k n = (s.releaseSlot p k a (n a)).handSlot k a := by
  rw [State.lose, h]
  cases k <;> rfl

/-- A slot released is empty. -/
theorem State.releaseSlot_empty (s : State) (p : Pos) (k : Slot) (a : Ant) (n : Option Notice) :
    (s.releaseSlot p k a n).heldAnt p k = none := by
  have emptied (u v : State) (h : SameBooks u v) (e : u.heldAnt p k = none) : v.heldAnt p k = none :=
    (h.heldAnt p k).trans e
  cases k with
  | main =>
    refine emptied _ _ ((State.handChangeSet_same _ p _).trans (State.notifyOpt_same _ p n)) ?_
    simp only [State.heldAnt, State.unbookMain, State.unbookHolder, State.redetermine, State.setAlloc_hold,
      State.setHold_hold]
    rw [upd_get_same]
    rfl
  | listen =>
    refine emptied _ _ ((State.handChangeSet_same _ p _).trans (State.notifyOpt_same _ p n)) ?_
    simp only [State.heldAnt, State.unbookListen, State.leaveList, State.setAlloc_hold, State.setHold_hold]
    rw [upd_get_same]
    rfl

/-- A slot lost is good: nothing but an eligible antenna can come into it again. -/
theorem State.lose_slotGood (s : State) (p : Pos) (k : Slot) (n : Ant → Option Notice) :
    (s.lose p k n).slotGood p k := by
  cases h : s.heldAnt p k with
  | none =>
    rw [State.lose, h]
    exact State.slotGood_of_empty h
  | some a =>
    rw [State.lose_of_held h]
    exact ((State.handSlot_run _ k a).mono fun hx => working_revising (handing_working hx)).slotGood
      (State.slotGood_of_empty (s.releaseSlot_empty p k a (n a)))

/-! ## The notice of a release -/

/-- A change set that opens one crosspoint completes no holding, so it sends no notice. -/
theorem State.handOpening_links (s : State) (p : Pos) (a : Ant) :
    (s.handChangeSet p [⟨a, .opened⟩]).links = s.links := by
  unfold State.handChangeSet State.addTargets
  split
  · rfl
  · have put (t : State) (x : Target) : (t.listPut p x).links = t.links := by
      unfold State.listPut
      split <;> rfl
    refine State.each_keeps (fun t => t.links = s.links) _ _ (fun x t hx ht => ?_) _ ?_
    · obtain rfl := List.mem_singleton.mp (List.mem_of_mem_filter hx)
      exact ht
    · rw [State.each_same State.links _ (fun (x : Target) y => y.listRemove p x.ant) fun _ _ => rfl,
        State.each_same State.links _ _ fun x t => put t x]

/-- A notice to a position is placed on its own link where there is room. -/
theorem State.notify_placed {s : State} {p : Pos} (h : s.held = false) (room : s.links[linkOf p].hasRoom = true)
    (n : Notice) : s.links[linkOf p].queue ++ [noticeFrame p n] <+: (s.notify p n).links[linkOf p].queue := by
  have own : (s.offer (linkOf p) (noticeFrame p n)).links[linkOf p].queue =
      s.links[linkOf p].queue ++ [noticeFrame p n] := by
    rw [State.offer, if_neg (by rw [h]; simp), State.setLink_links, upd_get_same, LinkState.offer, if_pos room,
      LinkState.place_queue]
  rw [← own]
  unfold State.notify
  dsimp only
  split
  · exact ((State.offer_grow _ stationLink _).grow (linkOf p)).queue
  · exact List.prefix_refl _

/-- A release tells the position first, before any hand-over (R64, R65). -/
theorem State.lose_tells {s : State} {p : Pos} {k : Slot} {a : Ant} (ha : s.heldAnt p k = some a) (h : s.held = false)
    (room : s.links[linkOf p].hasRoom = true) {n : Ant → Option Notice} {x : Notice} (hn : n a = some x) :
    s.links[linkOf p].queue ++ [noticeFrame p x] <+: (s.lose p k n).links[linkOf p].queue := by
  have told (u : State) (frame : AllocFrame s u) (links : u.links = s.links) :
      s.links[linkOf p].queue ++ [noticeFrame p x] <+:
        (((u.handChangeSet p [⟨a, .opened⟩]).notifyOpt p (n a)).handSlot k a).links[linkOf p].queue := by
    have same := (u.handOpening_links p a).trans links
    have placed := State.notify_placed (s := u.handChangeSet p [⟨a, .opened⟩]) (p := p)
      (((frame.trans (u.handChangeSet_frame p _)).held).trans h) (by rw [same]; exact room) x
    rw [same] at placed
    rw [hn]
    exact placed.trans ((State.handSlot_frame _ k a).links (linkOf p)).queue
  rw [State.lose_of_held ha]
  cases k with
  | main => exact told _ (s.unbookMain_frame p a) rfl
  | listen => exact told _ (s.unbookListen_frame p a) rfl

/-! ## Acts on the listen slots alone -/

/-- An act that touches no main slot, no pending main and no MAIN entry. -/
def listenAct (s : State) (x : BookAct) : Prop :=
  match x with
  | .main _ _ _ | .free _ => False
  | .drop _ k | .append _ _ k _ | .remove _ _ k => k = .listen
  | x => anyAct s x

theorem listenAct_any {s : State} {x : BookAct} (h : listenAct s x) : anyAct s x := by
  cases x <;> first | exact h | trivial

theorem listening_listenAct {s : State} {x : BookAct} (h : listening s x) : listenAct s x := by
  cases x with
  | still t => exact h
  | drop p k => exact h
  | remove a p k => exact h.1
  | listen _ _ _ | leave _ _ => trivial
  | _ => exact h.elim

theorem BookRun.main_kept {s t : State} (h : BookRun listenAct s t) (p : Pos) :
    t.hold[p].granted .main = s.hold[p].granted .main ∧ t.hold[p].pend .main = s.hold[p].pend .main := by
  refine h.keeps (P := fun u => u.hold[p].granted .main = s.hold[p].granted .main ∧
    u.hold[p].pend .main = s.hold[p].pend .main) (fun u x hx hu => ?_) ⟨rfl, rfl⟩
  rw [BookAct.apply_granted (listenAct_any hx), BookAct.apply_pend (listenAct_any hx)]
  cases x with
  | main _ _ _ | free _ => exact hx.elim
  | drop _ _ | append _ _ _ _ | remove _ _ _ => subst hx; simpa [BookAct.granted, BookAct.pend] using hu
  | listen _ _ _ => simpa [BookAct.granted, BookAct.pend] using hu
  | _ => exact hu

theorem State.queuePassListen_run (s : State) (p : Pos) (b : Band) : BookRun listenAct s (s.queuePass p .listen b) := by
  cases found : (s.prefList p b .listen).find? fun a => s.candidate .listen p a && s.mayQueue .listen p a with
  | none =>
    rw [State.queuePass_none found]
    exact (s.notify_grow p _).same.run listening_listenAct
  | some a =>
    rw [State.queuePass_some found]
    exact (s.withdraw_run listening_listenAct p .listen fun _ _ => rfl).trans
      (BookRun.one (x := .append a p .listen .follow) rfl)

theorem State.followListen_run (s : State) (p : Pos) : BookRun listenAct s (s.followSlot p .listen) := by
  rcases s.followSlot_acts p .listen with e | ⟨-, b, -, ⟨a, -, good, -, e⟩ | ⟨-, e⟩⟩
  · rw [e]
    exact .refl
  · rw [e]
    exact (State.grantListen_run (State.candidate_elig good) .follow).mono listening_listenAct
  · rw [e]
    exact s.queuePassListen_run p b

/-! ## A grant into an empty slot, and the slot's pending request -/

theorem State.removePending_hold (s : State) (p : Pos) (k : Slot) :
    (s.removePending p k).hold[p] = s.hold[p].setPend k none := by
  unfold State.removePending
  split
  · next h =>
    rw [← h]
    cases k <;> rfl
  · exact upd_get_same _ _ _

/-- A grant of a listen slot leaves no pending listen (R60). -/
theorem State.grantListen_fills {s : State} {p : Pos} (h : s.heldAnt p .listen = none) (a : Ant) (o : Origin) :
    (s.grantListen p a o).hold[p].granted .listen = some (a, o) ∧ (s.grantListen p a o).hold[p].pend .listen = none := by
  have same := State.handChangeSet_same ((s.bookListen p a o).removePending p .listen) p (grantTargets a .listen none)
  have hold : ((s.bookListen p a o).removePending p .listen).hold[p] =
      { s.hold[p] with listen := some ⟨a, .awaiting, o, false⟩, pendListen := none } := by
    rw [State.removePending_hold]
    simp only [State.bookListen, State.setAlloc_hold, State.setHold_hold]
    rw [upd_get_same]
    rfl
  have books : s.grantListen p a o =
      ((s.bookListen p a o).removePending p .listen).handChangeSet p (grantTargets a .listen none) := by
    rw [State.grantListen, State.grantListenWith_eq, State.grantListenBooks, h]
    rfl
  rw [books, same.granted, same.pend, hold]
  exact ⟨rfl, rfl⟩

/-- A grant of a main slot leaves no pending main (R56). -/
theorem State.grantMain_fills {s : State} {p : Pos} (h : s.heldAnt p .main = none) (a : Ant) (o : Origin) :
    (s.grantMain p a o).hold[p].granted .main = some (a, o) ∧ (s.grantMain p a o).hold[p].pend .main = none := by
  let t := (s.bookMain p a o).takeUpListen p a (s.alloc[a].listeners.contains p)
  have booked : t.hold[p].granted .main = some (a, o) := by
    rw [(((State.takeUpListen_run _ p a _).mono listening_listenAct).main_kept p).1]
    exact (BookAct.apply_granted (x := .main p a o) trivial p .main).trans (by simp [BookAct.granted])
  have hold := t.removePending_hold p .main
  have settled : (t.removePending p .main).hold[p].granted .main = some (a, o) ∧
      (t.removePending p .main).hold[p].pend .main = none := by
    rw [hold]
    exact ⟨booked, rfl⟩
  have rest (u : State) : BookRun listenAct u
      ((if u.hold[p].pendListen == some a then u.expire a p .listen .ineligible else u).handChangeSet p
        (grantTargets a .main none)) := by
    have expired : BookRun listenAct u
        (if u.hold[p].pendListen == some a then u.expire a p .listen .ineligible else u) := by
      split
      · exact State.expire_run listening_listenAct rfl _
      · exact .refl
    exact expired.trans ((State.handChangeSet_same _ p _).run listening_listenAct)
  have all : BookRun listenAct (t.removePending p .main) (s.grantMain p a o) := by
    rw [State.grantMain, State.grantMainWith_eq, State.grantMainBooks, h]
    split
    · exact (rest _).trans ((State.handListen_run a _).mono listening_listenAct)
    · exact rest _
  obtain ⟨granted, pend⟩ := all.main_kept p
  rw [granted, pend]
  exact settled

theorem State.followGrant_fills {s : State} {p : Pos} {k : Slot} (h : s.heldAnt p k = none) (a : Ant) :
    (s.followGrant p k a).hold[p].granted k = some (a, .follow) ∧ (s.followGrant p k a).hold[p].pend k = none := by
  cases k with
  | main => exact State.grantMain_fills h a .follow
  | listen => exact State.grantListen_fills h a .follow

/-! ## A follow, case by case (R90 to R92) -/

theorem firstOf_iff (xs : List Ant) (f : Ant → Bool) (a : Ant) : FirstOf xs f a ↔ xs.find? f = some a := by
  rw [List.find?_eq_some_iff_append, FirstOf]
  constructor
  · rintro ⟨before, after, e, good, bad⟩
    exact ⟨good, before, after, e, fun x hx => by rw [bad x hx]; rfl⟩
  · rintro ⟨good, before, after, e, bad⟩
    exact ⟨before, after, e, good, fun x hx => by simpa using bad x hx⟩

theorem find?_eq_none_of_all_false {xs : List Ant} {f : Ant → Bool} (h : ∀ a ∈ xs, f a = false) : xs.find? f = none :=
  List.find?_eq_none.mpr fun a ha => by rw [h a ha]; simp

section Follow

variable {s : State} {p : Pos} {k : Slot} {b : Band}

theorem State.followSlot_walks (hf : s.cfg.pos[p].follow = true) (he : s.heldAnt p k = none) :
    s.followSlot p k = s.walk p k := by
  rw [State.followSlot, if_pos (by rw [hf, he]; rfl)]

theorem State.walk_grants (hb : s.bandOf p = some b) {a : Ant}
    (h : (s.prefList p b k).find? (fun a => s.candidate k p a && s.slotFree k a) = some a) :
    s.walk p k = s.followGrant p k a := by
  rw [State.walk, hb]
  dsimp only
  rw [h]

theorem State.walk_stands (hb : s.bandOf p = some b)
    (h : (s.prefList p b k).find? (fun a => s.candidate k p a && s.slotFree k a) = none) {c : Ant}
    (hc : s.hold[p].pend k = some c) (good : s.candidate k p c = true) : s.walk p k = s := by
  rw [State.walk, hb]
  dsimp only
  rw [h]
  dsimp only
  rw [hc]
  exact if_pos good

theorem State.walk_queues (hb : s.bandOf p = some b)
    (h : (s.prefList p b k).find? (fun a => s.candidate k p a && s.slotFree k a) = none)
    (hc : ∀ c, s.hold[p].pend k = some c → s.candidate k p c = false) : s.walk p k = s.queuePass p k b := by
  rw [State.walk, hb]
  dsimp only
  rw [h]
  dsimp only
  cases e : s.hold[p].pend k with
  | none => rfl
  | some c => exact if_neg (by rw [hc c e]; simp)

/-- A follow of the main that leaves the listen is all that its occasion calls for. -/
theorem State.followMain_alone (h : (s.followSlot p .main).heldAnt p .listen = s.heldAnt p .listen) :
    s.followMain p = s.followSlot p .main := by
  refine if_neg ?_
  rw [h]
  cases s.heldAnt p .listen <;> simp

/-- A follow that leaves the holdings of its position is the follow of its slot alone. -/
theorem State.followOne_alone (h : ∀ k', (s.followSlot p k).heldAnt p k' = s.heldAnt p k') :
    s.followOne p k = s.followSlot p k := by
  cases k with
  | main => exact State.followMain_alone (h .listen)
  | listen => rfl

/-- A follow of the main that grants keeps its grant through the follow of a listen taken up. -/
theorem State.followMain_kept (s : State) (p : Pos) : BookRun listenAct (s.followSlot p .main) (s.followMain p) := by
  unfold State.followMain
  dsimp only
  split
  · exact State.followListen_run _ p
  · exact .refl

theorem State.followOne_grants (hf : s.cfg.pos[p].follow = true) (he : s.heldAnt p k = none)
    (hb : s.bandOf p = some b) {a : Ant}
    (h : (s.prefList p b k).find? (fun a => s.candidate k p a && s.slotFree k a) = some a) :
    (s.followOne p k).hold[p].granted k = some (a, .follow) ∧ (s.followOne p k).hold[p].pend k = none := by
  have grants : s.followSlot p k = s.followGrant p k a :=
    (State.followSlot_walks hf he).trans (State.walk_grants hb h)
  have fills := State.followGrant_fills he a
  rw [← grants] at fills
  cases k with
  | main =>
    obtain ⟨granted, pend⟩ := (s.followMain_kept p).main_kept p
    exact ⟨granted.trans fills.1, pend.trans fills.2⟩
  | listen => exact fills

/-- What the queue pass does when there is an antenna to queue for: one entry joins that antenna's queue, and an earlier
request has been told off (R92). -/
theorem State.queuePass_appends {a : Ant}
    (h : (s.prefList p b k).find? (fun a => s.candidate k p a && s.mayQueue k p a) = some a)
    (hc : ∀ c, s.hold[p].pend k = some c → s.candidate k p c = false) :
    (s.queuePass p k b).hold[p].pend k = some a ∧
      (s.queuePass p k b).alloc[a].queue = s.alloc[a].queue ++ [⟨p, k, .follow, s.now⟩] ∧
      (s.queuePass p k b).links = (match s.hold[p].pend k with
        | some c => (s.notify p (.withdrawn k c)).links
        | none => s.links) := by
  have ok := List.find?_some h
  have good : s.candidate k p a = true := (Bool.and_eq_true_iff.mp ok).1
  have appended : anyAct (s.withdraw p k) (.append a p k .follow) := trivial
  have queue : (s.withdraw p k).alloc[a].queue = s.alloc[a].queue := by
    unfold State.withdraw
    split
    · rfl
    · next c hp =>
      have other : c ≠ a := by
        rintro rfl
        rw [hc c hp] at good
        cases good
      rw [(State.notify_grow _ p _).same.alloc]
      exact (BookAct.apply_queue (x := .remove c p k) trivial a).1.trans (by simp [BookAct.queue, other])
  obtain ⟨al, books, -⟩ := s.withdraw_eq p k
  rw [State.queuePass_some h]
  refine ⟨(BookAct.apply_pend appended p k).trans (by simp [BookAct.pend]), ?_, ?_⟩
  · refine (BookAct.apply_queue appended a).1.trans ?_
    rw [BookAct.queue, if_pos rfl, queue, (s.withdraw_frame p k).now]
  · change (s.withdraw p k).links = _
    rw [books]
    cases s.hold[p].pend k <;> rfl

/-- The follow of an empty slot of a position on a band, in the terms of the rules. -/
theorem State.followOne_taken (he : s.heldAnt p k = none) (hb : s.bandOf p = some b) :
    FollowTaken s (s.followOne p k) p k b := by
  refine ⟨fun hf => ?_, fun hf => ⟨fun a ha => ?_, fun full => ⟨fun c hc good => ?_, fun hc => ⟨fun a ha => ?_,
    fun nobody => ?_⟩⟩⟩⟩
  · have still := State.followSlot_off hf k
    rw [State.followOne_alone fun k' => by rw [still], still]
    exact ⟨rfl, rfl, rfl⟩
  · exact State.followOne_grants hf he hb ((firstOf_iff _ _ a).mp ha)
  · have still : s.followSlot p k = s :=
      (State.followSlot_walks hf he).trans (State.walk_stands hb (find?_eq_none_of_all_false full) hc good)
    rw [State.followOne_alone fun k' => by rw [still], still]
    exact ⟨rfl, rfl, rfl⟩
  all_goals
    have queues : s.followSlot p k = s.queuePass p k b :=
      (State.followSlot_walks hf he).trans (State.walk_queues hb (find?_eq_none_of_all_false full) hc)
    rw [State.followOne_alone fun k' => by rw [queues, State.heldAnt, State.queuePass_holding, State.heldAnt], queues]
  · obtain ⟨pend, queue, links⟩ := State.queuePass_appends ((firstOf_iff _ _ a).mp ha) hc
    exact ⟨pend, queue, s.queuePass_holding p k .main b, s.queuePass_holding p k .listen b, links⟩
  · rw [State.queuePass_none (find?_eq_none_of_all_false nobody)]
    have same := s.notify_grow p (.followNone k b (s.bands[p].settled (sideOf k)))
    exact ⟨by rw [same.eq], by rw [same.eq], rfl⟩

end Follow

/-! ## The settled-segment change (R96) -/

theorem State.recheck_stays {s : State} {p : Pos} {k : Slot} (h : s.slotIneligible p k = false) (c : Cause) :
    s.recheck p k c = s := if_neg (by rw [h]; simp)

/-- The work of R96 on one slot outside key span. -/
theorem State.segmentWork_taken {s : State} {p : Pos} {k : Slot} (out : s.inSpan p = false) :
    (∀ a, s.heldAnt p k = some a → s.elig k a p = true → AllocSame s (s.segmentWork p k)) ∧
    (∀ a, s.heldAnt p k = some a → s.elig k a p = false → (s.segmentWork p k).heldAnt p k ≠ some a ∧
      (s.held = false → s.links[linkOf p].hasRoom = true →
        s.links[linkOf p].queue ++ [noticeFrame p (.released k a .segment)] <+:
          (s.segmentWork p k).links[linkOf p].queue)) ∧
    (∀ b, s.heldAnt p k = none → s.bandOf p = some b → FollowTaken s (s.segmentWork p k) p k b) := by
  refine ⟨fun a ha he => ?_, fun a ha he => ?_, fun b hn hb => ?_⟩
  · have still := State.followSlot_of_held (s := s) (p := p) (k := k) (by rw [ha]; rfl)
    rw [State.segmentWork, State.recheck_stays (by simp [State.slotIneligible, ha, he]),
      State.followOne_alone fun k' => by rw [still], still]
    exact ⟨rfl, rfl, rfl⟩
  · have lost : s.segmentWork p k = (s.loseFor p k .segment).followOne p k :=
      congrArg (State.followOne · p k) (if_pos (by simp [State.slotIneligible, ha, he]))
    have run := State.segmentWork_run out k
    have frame := run.frame working_any
    have outside : (s.loseFor p k .segment).inSpan p = false := ((s.loseFor_frame p k .segment).inSpan p).trans out
    rw [lost] at frame ⊢
    refine ⟨fun ha' => ?_, fun held room => ?_⟩
    · rcases ((State.followOne_run outside k).mono working_revising).slotGood (s.lose_slotGood p k _) a ha' with
        elig | ⟨inSpan, -⟩
      · rw [frame.elig, he] at elig; cases elig
      · rw [frame.inSpan, out] at inSpan; cases inSpan
    · exact (State.lose_tells ha held room rfl).trans ((State.followOne_frame _ p k).links (linkOf p)).queue
  · rw [State.segmentWork, State.recheck_stays (by simp [State.slotIneligible, hn])]
    exact State.followOne_taken hn hb

theorem State.allocSegmentChange_taken (s : State) (p : Pos) (side : Side) :
    SegmentTaken s (s.allocSegmentChange p side) p (slotOfSide side) := by
  refine ⟨fun inside => ?_, fun out => ?_⟩
  · rw [State.allocSegmentChange_inSpan inside]
    exact ⟨rfl, rfl, rfl⟩
  · rw [State.allocSegmentChange_outside out]
    exact State.segmentWork_taken out

theorem exec_dwellExpiry {s : State} (hp : s.powered = true) (p : Pos) (side : Side) :
    exec (.dwellExpiry p side) s = .next (s.dwellEnd p side) := by
  rw [show exec (.dwellExpiry p side) s = whenPowered s fun s => s.dwellEnd p side from rfl, whenPowered_on hp]

/-- A dwell that has run out settles its side, and allocation takes the change (R25). -/
theorem State.dwellEnd_taken {s : State} {p : Pos} {side : Side} {start : Nat} (hp : s.powered = true)
    (due : start + s.cfg.pos[p].dwell ≤ s.now) (h : s.bands[p].dwell side = some start) :
    ∃ t, exec (.dwellExpiry p side) s = .next t ∧ t.bands = (s.setBandUnit p (s.bands[p].follow side)).bands ∧
      SegmentTaken (s.setBandUnit p (s.bands[p].follow side)) t p (slotOfSide side) ∧
      RestKept s t ∧ t.sam = s.sam ∧ t.spans = s.spans ∧ t.prot = s.prot := by
  have ends : s.dwellEnd p side = (s.setBandUnit p (s.bands[p].follow side)).allocSegmentChange p side :=
    if_pos (by rw [State.dwellDue, h]; exact decide_eq_true due)
  have frame := (s.setBandUnit p (s.bands[p].follow side)).allocSegmentChange_frame p side
  refine ⟨_, exec_dwellExpiry hp p side, ?_⟩
  rw [ends]
  exact ⟨frame.bands, State.allocSegmentChange_taken _ p side,
    (s.setBandUnit_restKept p _).trans frame.quiet.restKept, frame.sam, frame.spans, frame.prot⟩

/-- Settles O14: the two sides are one lemma, by the slot that each side stands for. -/
theorem dwellExpirySettlesSide : Obligations.DwellExpirySettlesSide := by
  intro s p start hp due
  refine ⟨fun h u hu => ?_, fun h u hu => ?_⟩
  · subst hu
    exact State.dwellEnd_taken (side := .tx) hp due h
  · subst hu
    exact State.dwellEnd_taken (side := .rx) hp due h

end Sys2Proof.Machine
end

section
/-! SUPPORT. Accepted writes (R177, R178, R183), and the parking of a position (R29, R71, R113, R130, R161). -/

namespace Sys2Proof.Machine

/-! ## A write that passes its checks (R177, R178) -/

/-- The item stands in the working configuration, and the unsaved flag is set (R178, R183). -/
def State.written (s : State) (x : Item) : State :=
  (s.setCfg (s.cfg.put x)).setStore { s.store with unsaved := true }

theorem State.applyWrite_eq (s : State) (x : Item) : s.applyWrite x = (s.written x).deliver s.cfg x := rfl

/-- The result of a write that passes its checks (R177). -/
def writeResult (clamped : Bool) : Result := if clamped then .clamped else .done

/-- An accepted write is answered and then taken, unless its fields are those held. -/
theorem exec_write {s : State} {w : WriteItem} {x : Item} {clamped : Bool} (hs : s.Serving stationLink)
    (he : s.editOpen = true) (hc : s.store.copy = none) (hv : w.value = .ok (x, clamped))
    (ht : s.breaksTables x = false) (hu : s.inUse x = false) :
    exec (writeCommand w) s =
      .next (if s.cfg.holds x then s.onlyAnswers stationLink 17 (writeResult clamped)
        else (s.onlyAnswers stationLink 17 (writeResult clamped)).applyWrite x) := by
  have meaning : exec (writeCommand w) s =
      whenPowered s fun s => s.request stationLink (.configWrite (some w)) := by cases w <;> rfl
  have plan : s.writeRequest (some w) = (writeResult clamped, fun t => if t.cfg.holds x then t else t.applyWrite x) := by
    simp only [State.writeRequest, State.writeChecked, he, hc, hv, ht, hu, writeResult, Bool.not_true, Option.isSome_none,
      Bool.false_eq_true, if_false]
  rw [meaning, whenPowered_on hs.1, hs.request]
  exact congrArg Host.Outcome.next ((hs.perform 17 _).trans (by rw [plan]; rfl))

/-- The configuration reads the item put into it. -/
theorem Cfg.put_holds (c : Cfg) (x : Item) : (c.put x).holds x = true := by
  cases x with
  | pref p b slot v => cases slot <;> simp [Cfg.put, Cfg.holds, upd_getElem]
  | _ => simp [Cfg.put, Cfg.holds, upd_getElem]

/-- To put an item that is held changes nothing. -/
theorem Cfg.put_of_holds {c : Cfg} {x : Item} (h : c.holds x = true) : c.put x = c := by
  cases x with
  | pref p b slot v =>
    cases slot <;>
    · simp only [Cfg.holds, beq_iff_eq] at h
      subst h
      simp only [Cfg.put]
      rw [upd_self, upd_self]
  | mapEntry b g v =>
    simp only [Cfg.holds, beq_iff_eq] at h
    subst h
    simp only [Cfg.put]
    rw [upd_self, upd_self]
  | station v =>
    simp only [Cfg.holds, beq_iff_eq] at h
    subst h
    rfl
  | _ =>
    simp only [Cfg.holds, beq_iff_eq] at h
    subst h
    simp only [Cfg.put]
    rw [upd_self]

theorem State.onChange_of {s : State} {b : Bool} (h : b = true) (f : State → State) : s.onChange b f = f s := if_pos h

theorem State.onChange_not {s : State} {b : Bool} (h : b = false) (f : State → State) : s.onChange b f = s :=
  if_neg (by rw [h]; simp)

/-- A property that the effect of a changed field keeps is kept whether it changed or not. -/
theorem State.onChange_keeps {P : State → Prop} {s : State} (b : Bool) {f : State → State} (h : P s → P (f s)) (hs : P s) :
    P (s.onChange b f) := by
  unfold State.onChange
  split
  · exact h hs
  · exact hs

/-! ## What the effects of a write leave alone (R178) -/

theorem AllocFrame.restKept {s t : State} (h : AllocFrame s t) : RestKept s t := h.quiet.restKept

/-- The effect of a changed field leaves alone what each of its parts does. -/
theorem State.onChange_restKept (s : State) (b : Bool) {f : State → State} (h : ∀ t, RestKept t (f t)) :
    RestKept s (s.onChange b f) := State.onChange_keeps (P := RestKept s) b (fun hs => hs.trans (h s)) (.refl s)

theorem State.each_restKept {α : Type} (s : State) (xs : List α) (f : α → State → State)
    (h : ∀ x t, RestKept t (f x t)) : RestKept s (s.each xs f) :=
  State.each_rel RestKept .refl (fun a b => a.trans b) xs f h s

theorem State.setCauses_restKept (s : State) (p : Pos) (x : Protection) : RestKept s (s.setCauses p x) := RestKept.refl s

theorem State.park_restKept (s : State) (p : Pos) : RestKept s (s.park p) :=
  (((((s.setBandUnit_restKept p _).trans (State.allocPark_frame _ p).restKept).trans
    (State.enter_quiet _ p .parked).restKept).trans (State.setCauses_restKept _ p _)).trans
    (State.reselect_quiet _ p).restKept)

theorem State.unpark_restKept (s : State) (p : Pos) : RestKept s (s.unpark p) :=
  (((s.setLines_restKept p _).trans (State.enter_quiet _ p .idle).restKept).trans
    (State.recomputeBlank_quiet _).restKept).trans (State.reselect_quiet _ p).restKept

theorem State.dwellEnd_eq (s : State) (p : Pos) (side : Side) : s.dwellEnd p side = s ∨
    (s.dwellDue p side = true ∧ s.dwellEnd p side = s.settleSide p side) := by
  unfold State.dwellEnd
  split
  · next h => exact .inr ⟨h, rfl⟩
  · exact .inl rfl

theorem State.dwellEnd_unitFrame (s : State) (p : Pos) (side : Side) : UnitFrame s (s.dwellEnd p side) p := by
  rcases s.dwellEnd_eq p side with h | ⟨-, h⟩ <;> rw [h]
  · exact .refl s p
  · exact (s.settleSide_eq p side).1

theorem State.newDwell_unitFrame (s : State) (p : Pos) : UnitFrame s (s.newDwell p) p :=
  (s.dwellEnd_unitFrame p .tx).trans (State.dwellEnd_unitFrame _ p .rx)

theorem State.modeChanged_restKept (s : State) (p : Pos) (x y : PosSettings) : RestKept s (s.modeChanged p x y) := by
  refine s.onChange_restKept _ fun t => ?_
  split
  · exact t.park_restKept p
  · exact t.unpark_restKept p

/-- The effects of a write leave alone what is no block's part (R178). -/
theorem State.deliver_restKept (s : State) (old : Cfg) (x : Item) : RestKept s (s.deliver old x) := by
  cases x with
  | antenna a v =>
    exact ((s.onChange_restKept _ fun t => (t.allocCapacity_frame a _ _).restKept).trans
      (State.onChange_restKept _ _ fun t => t.recomputeBlank_quiet.restKept)).trans
      (State.onChange_restKept _ _ fun t => t.revalidate_frame.restKept)
  | mapEntry b g v => exact s.onChange_restKept _ fun t => t.revalidate_frame.restKept
  | pos p v =>
    exact ((((s.onChange_restKept _ fun t => (t.newDwell_unitFrame p).restKept).trans
      (State.modeChanged_restKept _ p _ v)).trans
      (State.onChange_restKept _ _ fun t => t.redetermineAll_frame.restKept)).trans
      (State.onChange_restKept _ _ fun t => (t.reselect_quiet p).restKept)).trans
      (State.onChange_restKept _ _ fun t => (t.seqSettings_quiet p).restKept)
  | band b v =>
    refine (s.onChange_restKept _ fun t => t.each_restKept allPos _ fun p u => ?_).trans
      (State.onChange_restKept _ _ fun t => t.recomputeBlank_quiet.restKept)
    split
    · exact (u.recomputeSegs_eq p).1.restKept
    · exact .refl u
  | station v =>
    exact (s.onChange_restKept _ fun t => t.allocWaitLimit_frame.restKept).trans
      (State.onChange_restKept _ _ fun t => t.allocYieldTime_frame.restKept)
  | pref _ _ _ _ | rule _ _ | divisor _ _ => exact .refl s

/-! ## Entries where requests are pending -/

/-- Every wait entry of a position is that of its pending request (R50, R51). -/
def State.waitsPend (s : State) : Prop := ∀ (p : Pos) (k : Slot) (a : Ant), s.waitsOn p k a = true → s.hold[p].pend k = some a

theorem State.BooksAgree.waitsPend {s : State} (h : s.BooksAgree) : s.waitsPend := by
  obtain ⟨-, -, ⟨waits, -⟩, -⟩ := h
  exact fun p k a => (waits p a k).mp

theorem State.waitsOn_iff (s : State) (p : Pos) (k : Slot) (a : Ant) :
    s.waitsOn p k a = true ↔ ∃ e ∈ s.alloc[a].queue, e.pos = p ∧ e.kind = k := by
  simp [State.waitsOn]

theorem BookAct.keeps_waitsPend {s : State} {x : BookAct} (h : working s x) (w : s.waitsPend) :
    (x.apply s).waitsPend := by
  have any := working_any h
  intro q k b waits
  rw [State.waitsOn_iff, (BookAct.apply_queue any b).1] at waits
  obtain ⟨e, he, rfl, rfl⟩ := waits
  rw [BookAct.apply_pend any]
  have before (he : e ∈ s.alloc[b].queue) : s.hold[e.pos].pend e.kind = some b :=
    w _ _ _ ((s.waitsOn_iff _ _ _).mpr ⟨e, he, rfl, rfl⟩)
  cases x with
  | append a p k o =>
    obtain ⟨-, none, -⟩ := h
    simp only [BookAct.queue, BookAct.pend] at he ⊢
    split at he
    · next hab =>
      subst hab
      rcases List.mem_append.mp he with he | he
      · split
        · rfl
        · exact before he
      · rw [List.mem_singleton.mp he]
        simp
    · split
      · next same =>
        obtain ⟨rfl, rfl⟩ := same
        rw [before he] at none
        cases none
      · exact before he
  | remove a p k =>
    have pending : s.hold[p].pend k = some a := h.elim (w p k a) id
    simp only [BookAct.queue, BookAct.pend] at he ⊢
    split at he
    · obtain ⟨he, kept⟩ := List.mem_filter.mp he
      rw [if_neg (by rintro ⟨rfl, rfl⟩; simp at kept)]
      exact before he
    · next hab =>
      split
      · next same =>
        obtain ⟨rfl, rfl⟩ := same
        exact absurd (Option.some.inj (pending.symm.trans (before he))) hab
      · exact before he
  | _ => exact before he

theorem BookRun.waitsPend {s t : State} (h : BookRun working s t) (w : s.waitsPend) : t.waitsPend :=
  h.keeps (P := State.waitsPend) (fun _ _ hx => BookAct.keeps_waitsPend hx) w

theorem State.waitsPend.waitless {s : State} (w : s.waitsPend) {p : Pos} (h : ∀ k, s.hold[p].pend k = none) :
    s.Waitless p := by
  rintro a e he rfl
  have pending := w e.pos e.kind a ((s.waitsOn_iff _ _ _).mpr ⟨e, he, rfl, rfl⟩)
  rw [h] at pending
  cases pending

/-! ## A segment dwell written (R25) -/

theorem State.dwellEnd_waitsPend {s : State} {p : Pos} (out : s.inSpan p = false) (w : s.waitsPend) (side : Side) :
    (s.dwellEnd p side).waitsPend := by
  rcases s.dwellEnd_eq p side with h | ⟨-, h⟩ <;> rw [h]
  · exact w
  · rw [State.settleSide, State.allocSegmentChange_outside (by exact out)]
    exact (State.segmentWork_run (by exact out) _).waitsPend w

theorem UnitFrame.inSpan {s t : State} {p : Pos} (h : UnitFrame s t p) (q : Pos) : t.inSpan q = s.inSpan q :=
  h.rest.inSpan q

theorem State.newDwell_waitsPend {s : State} {p : Pos} (out : s.inSpan p = false) (w : s.waitsPend) :
    (s.newDwell p).waitsPend :=
  State.dwellEnd_waitsPend (((s.dwellEnd_unitFrame p .tx).inSpan p).trans out)
    (State.dwellEnd_waitsPend out w .tx) .rx

/-! ## Allocation at parking (R71) -/

/-- A release empties its slot and leaves the rest of the record. -/
theorem State.releaseSlot_hold (s : State) (p : Pos) (k : Slot) (a : Ant) (n : Option Notice) :
    (s.releaseSlot p k a n).hold[p].blind = (s.hold[p].setHolding k none).blind := by
  have released (u : State) (h : u.hold = upd s.hold p (s.hold[p].setHolding k none)) :
      ((u.handChangeSet p [⟨a, .opened⟩]).notifyOpt p n).hold[p].blind = (s.hold[p].setHolding k none).blind := by
    rw [((u.handChangeSet_same p _).trans (State.notifyOpt_same _ p n)).hold, h, upd_get_same]
  cases k with
  | main => exact released _ rfl
  | listen => exact released _ rfl

/-- A slot released if it is held. -/
def State.releaseHeld (s : State) (p : Pos) (k : Slot) (old : Option Ant) : State :=
  old.elim s fun a => s.releaseSlot p k a (some (.released k a .edit))

/-- The hand-over of a slot that was held. -/
def State.handHeld (s : State) (k : Slot) (old : Option Ant) : State := old.elim s fun a => s.handSlot k a

/-- The books of a parking, without the hand-overs that follow (R71). -/
def State.parkBooks (s : State) (p : Pos) : State :=
  (((s.releaseHeld p .main (s.heldAnt p .main)).releaseHeld p .listen (s.heldAnt p .listen)).removePending p
    .main).removePending p .listen

theorem State.allocPark_eq (s : State) (p : Pos) : s.allocPark p =
    ((s.parkBooks p).handHeld .main (s.heldAnt p .main)).handHeld .listen (s.heldAnt p .listen) := rfl

theorem State.releaseHeld_hold {s : State} {p : Pos} {k : Slot} {old : Option Ant} (h : old = none → s.heldAnt p k = none) :
    (s.releaseHeld p k old).hold[p].blind = (s.hold[p].setHolding k none).blind := by
  cases old with
  | none => rw [HoldRecord.setHolding_self (State.heldAnt_none.mp (h rfl))]; rfl
  | some a => exact s.releaseSlot_hold p k a _

theorem State.releaseHeld_run {s : State} {p : Pos} (out : s.inSpan p = false) (k : Slot) (old : Option Ant) :
    BookRun handing s (s.releaseHeld p k old) := by
  cases old with
  | none => exact .refl
  | some a =>
    rw [State.releaseHeld, Option.elim_some]
    cases k with
    | main => exact State.releaseMain_run id (.inr out) a (some (.released .main a .edit))
    | listen => exact State.releaseListen_run listening_handing s p a (some (.released .listen a .edit))

theorem HoldRecord.blind_setPend (h : HoldRecord) (k : Slot) (x : Option Ant) :
    (h.setPend k x).blind = h.blind.setPend k x := by cases k <;> rfl

theorem HoldRecord.blind_setHolding (h : HoldRecord) (k : Slot) :
    (h.setHolding k none).blind = h.blind.setHolding k none := by cases k <;> rfl

/-- After the releases of a parking the position holds and awaits nothing. -/
theorem State.parkBooks_hold (s : State) (p : Pos) (k : Slot) :
    (s.parkBooks p).heldAnt p k = none ∧ (s.parkBooks p).hold[p].pend k = none := by
  have main := s.releaseHeld_hold (p := p) (k := .main) (old := s.heldAnt p .main) id
  have kept : (s.releaseHeld p .main (s.heldAnt p .main)).hold[p].blind.holding .listen =
      s.hold[p].blind.holding .listen := by rw [main]; rfl
  simp only [HoldRecord.blind_holding] at kept
  have listen := (s.releaseHeld p .main (s.heldAnt p .main)).releaseHeld_hold (p := p) (k := .listen)
    (old := s.heldAnt p .listen) fun h => by
      rw [State.heldAnt_none] at h ⊢
      rw [h] at kept
      simpa using kept
  rw [HoldRecord.blind_setHolding, main, HoldRecord.blind_setHolding] at listen
  have all : (s.parkBooks p).hold[p].blind =
      (((s.hold[p].blind.setHolding .main none).setHolding .listen none).setPend .main none).setPend .listen none := by
    rw [State.parkBooks, State.removePending_hold, HoldRecord.blind_setPend, State.removePending_hold,
      HoldRecord.blind_setPend, listen]
  rw [State.heldAnt_none, ← HoldRecord.blind_pend]
  have holding := (s.parkBooks p).hold[p].blind_holding k
  rw [all] at holding ⊢
  cases k
  · exact ⟨by simpa using holding.symm, rfl⟩
  · exact ⟨by simpa using holding.symm, rfl⟩

theorem State.parkBooks_run {s : State} {p : Pos} (out : s.inSpan p = false) : BookRun handing s (s.parkBooks p) := by
  have main := State.releaseHeld_run out .main (s.heldAnt p .main)
  have outside := ((main.frame handing_any).inSpan p).trans out
  exact ((main.trans (State.releaseHeld_run outside .listen _)).trans
    (State.removePending_run _ p .main fun _ h => .inr h)).trans (State.removePending_run _ p .listen fun _ h => .inr h)

theorem State.handHeld_keeps {s : State} {p : Pos} (w : s.Waitless p) (k : Slot) (old : Option Ant) :
    KeepsHold id p s (s.handHeld k old) := by
  cases old with
  | none => exact .refl id p s
  | some a => exact State.handSlot_keeps k a w

/-- At parking a position outside key span loses all that it holds and awaits (R71). -/
theorem State.allocPark_hold {s : State} {p : Pos} (out : s.inSpan p = false) (w : s.waitsPend) (k : Slot) :
    (s.allocPark p).heldAnt p k = none ∧ (s.allocPark p).hold[p].pend k = none := by
  have waitless : (s.parkBooks p).Waitless p :=
    (((State.parkBooks_run out).mono handing_working).waitsPend w).waitless fun k => (s.parkBooks_hold p k).2
  have main := State.handHeld_keeps waitless .main (s.heldAnt p .main)
  have hold := (main.trans (State.handHeld_keeps (main.waits waitless) .listen (s.heldAnt p .listen))).hold
  rw [← State.allocPark_eq] at hold
  have same : (s.allocPark p).hold[p] = (s.parkBooks p).hold[p] := hold
  rw [State.heldAnt, same]
  exact s.parkBooks_hold p k

/-! ## A parked position -/

/-- What parking makes of a position (R29, R71, R113, R118, R130, R161). -/
structure ParkedAt (s : State) (p : Pos) : Prop where
  seq : s.seqs[p] = .parked
  unit : s.bands[p] = BandUnit.initial
  held : ∀ k, s.heldAnt p k = none
  pend : ∀ k, s.hold[p].pend k = none
  causes : s.prot[p] = Protection.initial
  outs : s.outs[p] = ⟨false, false, true, false⟩
  filter : s.drv.filters[p].selected = none

/-- Parking without the filter: band unit, allocation, sequencer, receiver protection (log entry 27). -/
def State.parkBlocks (s : State) (p : Pos) : State :=
  (((s.setBandUnit p BandUnit.initial).allocPark p).enter p .parked).setCauses p Protection.initial

theorem State.park_eq (s : State) (p : Pos) : s.park p = (s.parkBlocks p).reselect p := rfl

/-- A selection leaves everything but the filter, and a position without a band selects THRU (R113). -/
theorem State.reselect_parkedAt {s : State} {p : Pos} (seq : s.seqs[p] = .parked) (unit : s.bands[p] = BandUnit.initial)
    (held : ∀ k, s.heldAnt p k = none) (pend : ∀ k, s.hold[p].pend k = none)
    (causes : s.prot[p] = Protection.initial) (outs : s.outs[p] = ⟨false, false, true, false⟩) :
    ParkedAt (s.reselect p) p := by
  obtain ⟨f, e, selected, -⟩ := s.reselect_eq p
  rw [e]
  refine ⟨seq, unit, held, pend, causes, outs, ?_⟩
  have thru : s.selectedFilter p = none := by rw [State.selectedFilter, State.bandOf, unit]; rfl
  rw [← thru, ← selected]
  exact congrArg FilterState.selected (upd_get_same _ _ _)

theorem State.park_parkedAt {s : State} {p : Pos} (out : s.inSpan p = false) (w : s.waitsPend) :
    ParkedAt (s.park p) p := by
  have frame := (s.setBandUnit p BandUnit.initial).allocPark_frame p
  have hold (k : Slot) := State.allocPark_hold (s := s.setBandUnit p BandUnit.initial) (p := p) out w k
  rw [State.park_eq, State.parkBlocks]
  generalize (s.setBandUnit p BandUnit.initial).allocPark p = a at frame hold
  refine State.reselect_parkedAt ?_ ?_ (fun k => (hold k).1) (fun k => (hold k).2) (upd_get_same _ _ _) ?_
  · exact upd_get_same _ _ _
  · exact (congrArg (fun v : Vector BandUnit 6 => v[p]) frame.bands).trans (upd_get_same _ _ _)
  · rw [State.setCauses, State.setOut_outs, upd_get_same]
    dsimp only [State.setProt_outs]
    rw [State.enter_out]
    rfl

theorem State.redetermineAll_parkedAt {s : State} {p : Pos} (h : ParkedAt s p) : ParkedAt s.redetermineAll p := by
  have frame := s.redetermineAll_frame
  have hold : s.redetermineAll.hold = s.hold :=
    State.each_same State.hold allAnts (fun a t => t.redetermine a) (fun _ _ => rfl) s
  obtain ⟨seq, outs⟩ := frame.seq_kept (p := p) fun n => by rw [h.seq]; nofun
  refine ⟨seq.trans h.seq, by rw [frame.bands, h.unit], fun k => ?_, fun k => ?_, by rw [frame.prot, h.causes],
    outs.trans h.outs, by rw [frame.drv, h.filter]⟩
  · rw [State.heldAnt, hold]; exact h.held k
  · rw [hold]; exact h.pend k

/-- What a change of position settings does after the mode: class, filter, sequencer (log entry 28). -/
def State.posRest (s : State) (p : Pos) (x y : PosSettings) : State :=
  ((s.onChange (x.cls != y.cls) State.redetermineAll).onChange
    (x.filterThru != y.filterThru || x.installed != y.installed) fun t => t.reselect p).onChange
    (x.ampSettle != y.ampSettle || x.tail != y.tail || x.keyLimit != y.keyLimit) fun t => t.seqSettings p

theorem State.posChanged_eq (s : State) (p : Pos) (x y : PosSettings) :
    s.posChanged p x y = ((s.onChange (x.dwell != y.dwell) fun t => t.newDwell p).modeChanged p x y).posRest p x y := rfl

theorem State.posRest_parkedAt {s : State} {p : Pos} (h : ParkedAt s p) (x y : PosSettings) :
    ParkedAt (s.posRest p x y) p := by
  have settings (t : State) (ht : ParkedAt t p) : ParkedAt (t.seqSettings p) p := by
    have still : t.seqSettings p = t := by simp only [State.seqSettings, ht.seq]
    rwa [still]
  have cls := State.onChange_keeps (P := (ParkedAt · p)) (x.cls != y.cls) State.redetermineAll_parkedAt h
  have filter := State.onChange_keeps (P := (ParkedAt · p)) (x.filterThru != y.filterThru || x.installed != y.installed)
    (f := fun t => t.reselect p) (fun ht =>
      State.reselect_parkedAt ht.seq ht.unit ht.held ht.pend ht.causes ht.outs) cls
  exact State.onChange_keeps (P := (ParkedAt · p)) _ (settings _) filter

theorem State.modeChanged_parks {s : State} {p : Pos} {x y : PosSettings} (hx : x.parked = false) (hy : y.parked = true) :
    s.modeChanged p x y = s.park p := by
  rw [State.modeChanged, State.onChange_of (by rw [hx, hy]; rfl), hy]
  rfl

/-- A write of settings that park a position outside key span. -/
theorem State.posChanged_parks {s : State} {p : Pos} {x y : PosSettings} (out : s.inSpan p = false) (w : s.waitsPend)
    (hx : x.parked = false) (hy : y.parked = true) : ParkedAt (s.posChanged p x y) p := by
  rw [State.posChanged_eq, State.modeChanged_parks hx hy]
  refine State.posRest_parkedAt ?_ x y
  unfold State.onChange
  split
  · exact State.park_parkedAt (((s.newDwell_unitFrame p).inSpan p).trans out) (State.newDwell_waitsPend out w)
  · exact State.park_parkedAt out w

/-- Settles O50: the write is accepted, and parking makes the position what `ParkedAt` says. -/
theorem parkingClearsPosition : Obligations.ParkingClearsPosition := by
  intro s n f p v c hs he hc books hv hy hx out
  have changes : s.cfg.holds (.pos p v) = false := by
    rw [Cfg.holds, beq_eq_false_iff_ne]
    rintro rfl
    rw [hx] at hy
    cases hy
  have written := exec_write (w := .pos n f) hs he hc hv (by rfl) (by simp [State.inUse, hy, out])
  rw [changes] at written
  let u := (s.onlyAnswers stationLink 17 (writeResult c)).written (.pos p v)
  have parked : ParkedAt (u.deliver s.cfg (.pos p v)) p :=
    State.posChanged_parks (s := u) (x := s.cfg.pos[p]) (by exact out) (by exact books.waitsPend) hx hy
  refine ⟨u.deliver s.cfg (.pos p v), written, (State.isParked_iff _ p).mpr parked.seq, parked.unit, parked.held .main,
    parked.held .listen, parked.pend .main, parked.pend .listen, parked.causes, parked.outs, parked.filter, ?_⟩
  obtain ⟨-, -, cfg, -⟩ := u.deliver_restKept s.cfg (.pos p v)
  exact cfg

end Sys2Proof.Machine
end

section
/-! SUPPORT. What a write of an antenna record or of a segment map entry does to the books (R35, R71, R158, R179). -/

namespace Sys2Proof.Machine

/-! ## Runs over a list that give each member something -/

/-- A run in which each update gives its member a property, which the other updates keep, under an invariant of the run. -/
theorem State.each_gives {α : Type} {inv : State → Prop} {P : α → State → Prop} (xs : List α) (f : α → State → State)
    (keepInv : ∀ x t, inv t → inv (f x t)) (give : ∀ x t, inv t → P x (f x t))
    (keep : ∀ x y t, inv t → P y t → P y (f x t)) {s : State} (hs : inv s) :
    inv (s.each xs f) ∧ ∀ x ∈ xs, P x (s.each xs f) := by
  have run (ys : List α) (t : State) (ht : inv t) : inv (t.each ys f) ∧
      (∀ x, P x t → P x (t.each ys f)) ∧ ∀ x ∈ ys, P x (t.each ys f) := by
    induction ys generalizing t with
    | nil => exact ⟨ht, fun _ h => h, nofun⟩
    | cons y ys ih =>
      obtain ⟨inv', kept, given⟩ := ih (f y t) (keepInv y t ht)
      refine ⟨inv', fun x hx => kept x (keep y x t ht hx), fun x hx => ?_⟩
      rcases List.mem_cons.mp hx with rfl | hx
      · exact kept x (give x t ht)
      · exact given x hx
  obtain ⟨inv', -, given⟩ := run xs s hs
  exact ⟨inv', given⟩

/-! ## Entries removed -/

theorem State.expire_queue (s : State) (a : Ant) (p : Pos) (k : Slot) (c : Cause) :
    (s.expire a p k c).alloc[a].queue = s.alloc[a].queue.filter fun e => !(e.pos == p && e.kind == k) := by
  rw [State.expire, (State.notify_grow _ p _).same.alloc]
  exact (BookAct.apply_queue (x := .remove a p k) trivial a).1.trans (by simp [BookAct.queue])

/-- A run that removes the bad ones of a list of entries from a queue, and puts none in. -/
theorem State.each_expires {s : State} {a : Ant} {xs : List WaitEntry} {f : WaitEntry → State → State}
    {bad : WaitEntry → Bool} (cause : WaitEntry → Cause)
    (hf : ∀ e ∈ xs, ∀ t, AllocFrame s t → f e t = if bad e then t.expire a e.pos e.kind (cause e) else t) :
    ∀ e ∈ (s.each xs f).alloc[a].queue, e ∈ s.alloc[a].queue ∧ (e ∈ xs → bad e = false) := by
  have run (ys : List WaitEntry) (hy : ∀ e ∈ ys, e ∈ xs) (t : State) (ht : AllocFrame s t) :
      ∀ e ∈ (t.each ys f).alloc[a].queue, e ∈ t.alloc[a].queue ∧ (e ∈ ys → bad e = false) := by
    induction ys generalizing t with
    | nil => exact fun e he => ⟨he, nofun⟩
    | cons y ys ih =>
      intro e he
      rw [State.each_cons, hf y (hy y List.mem_cons_self) t ht] at he
      have rest := fun u hu => ih (fun e he => hy e (List.mem_cons_of_mem y he)) u hu e
      cases hb : bad y with
      | false =>
        rw [hb] at he
        obtain ⟨mem, good⟩ := rest t ht he
        refine ⟨mem, fun hey => ?_⟩
        rcases List.mem_cons.mp hey with rfl | hey
        · exact hb
        · exact good hey
      | true =>
        rw [hb, if_pos rfl] at he
        obtain ⟨mem, good⟩ := rest _ (ht.trans (t.expire_frame a y.pos y.kind (cause y))) he
        rw [State.expire_queue] at mem
        obtain ⟨mem, other⟩ := List.mem_filter.mp mem
        refine ⟨mem, fun hey => ?_⟩
        rcases List.mem_cons.mp hey with rfl | hey
        · simp at other
        · exact good hey
  exact run xs (fun _ h => h) s (.refl s)

/-! ## A revalidation (R179) -/

/-- Every entry of an antenna's queue is eligible. -/
def State.queueGood (s : State) (a : Ant) : Prop := ∀ e ∈ s.alloc[a].queue, s.elig e.kind a e.pos = true

theorem BookRun.queueGood {s t : State} (h : BookRun revising s t) {a : Ant} (good : s.queueGood a) :
    t.queueGood a := by
  refine h.keeps (P := fun u => u.queueGood a) (fun u x hx hu e he => ?_) good
  have any := revising_any hx
  rw [(BookAct.apply_queue any a).1] at he
  rw [(BookAct.frame any).elig]
  cases x with
  | append b p k o =>
    simp only [BookAct.queue] at he
    split at he
    · next hab =>
      subst hab
      rcases List.mem_append.mp he with he | he
      · exact hu e he
      · rw [List.mem_singleton.mp he]
        exact hx.1
    · exact hu e he
  | remove b p k =>
    simp only [BookAct.queue] at he
    split at he
    · exact hu e (List.mem_of_mem_filter he)
    · exact hu e he
  | _ => exact hu e he

/-- Step 1 of a revalidation leaves eligible entries alone. -/
theorem State.dropIneligible_good (s : State) (a : Ant) : (s.dropIneligible a).queueGood a := by
  have left := State.each_expires (s := s) (a := a) (xs := s.alloc[a].queue)
    (f := fun e t => if t.elig e.kind a e.pos then t else t.expire a e.pos e.kind .edit)
    (bad := fun e => !s.elig e.kind a e.pos) (fun _ => .edit) fun e _ t ht => by
      rw [ht.elig]
      cases s.elig e.kind a e.pos <;> rfl
  intro e he
  obtain ⟨mem, good⟩ := left e he
  rw [(s.dropIneligible_frame a).elig]
  simpa using good mem

theorem State.dropAll_good (s : State) (a : Ant) : s.dropAll.queueGood a :=
  (State.each_gives (inv := fun _ => True) (P := fun b t => t.queueGood b) allAnts (fun b t => t.dropIneligible b)
    (fun _ _ _ => trivial) (fun b t _ => t.dropIneligible_good b)
    (fun b _ t _ good => (t.dropIneligible_run b).queueGood good) trivial).2 a (mem_allAnts a)

/-- Step 2 of a revalidation makes its slot good. -/
theorem State.revalidateSlot_good (s : State) (p : Pos) (k : Slot) : (s.revalidateSlot p k).slotGood p k := by
  unfold State.revalidateSlot
  split
  · next bad =>
    split
    · next inside =>
      refine fun a _ => .inr ⟨((s.mark_frame p k (some .edit)).inSpan p).trans inside, ?_⟩
      exact (BookAct.apply_mark (x := .mark p k (some .edit)) trivial p k).trans (by simp [BookAct.marked])
    · next out =>
      have lost : s.editWork p k = (s.loseFor p k .edit).followOne p k := if_pos bad
      have outside : (s.loseFor p k .edit).inSpan p = false :=
        ((s.loseFor_frame p k .edit).inSpan p).trans (by simpa using out)
      rw [lost]
      exact ((State.followOne_run outside k).mono working_revising).slotGood (s.lose_slotGood p k _)
  · next good => exact State.slotGood_of_eligible (by simpa using good)

theorem State.revalidateSlots_good (s : State) (p : Pos) (k : Slot) : s.revalidateSlots.slotGood p k := by
  have all := (State.each_gives (inv := fun _ => True) (P := fun q t => t.slotGood q .main ∧ t.slotGood q .listen) allPos
    (fun q t => (t.revalidateSlot q .main).revalidateSlot q .listen) (s := s) (fun _ _ _ => trivial)
    (fun q t _ => ⟨(State.revalidateSlot_run _ q .listen).slotGood (t.revalidateSlot_good q .main),
      State.revalidateSlot_good _ q .listen⟩)
    (fun q r t _ ⟨main, listen⟩ =>
      have run := (t.revalidateSlot_run q .main).trans (State.revalidateSlot_run _ q .listen)
      ⟨run.slotGood main, run.slotGood listen⟩) trivial).2 p (mem_allPos p)
  cases k with
  | main => exact all.1
  | listen => exact all.2

/-- After a revalidation every entry and every holding is as R179 leaves it. -/
theorem State.revalidate_revalidated (s : State) : s.revalidate.Revalidated := by
  refine ⟨fun a => ?_, fun p k => ?_⟩
  · exact ((State.revalidateSlots_run _).trans (State.revalidateHands_run _)).queueGood (s.dropAll_good a)
  · exact (State.revalidateHands_run _).slotGood (State.revalidateSlots_good _ p k)

/-! ## The blanking through a revalidation (R153, R154) -/

/-- A revalidation leaves the mains of positions in key span. -/
theorem BookRun.spanMain {s t : State} (h : BookRun revising s t) {p : Pos} (inside : s.inSpan p = true) :
    t.heldAnt p .main = s.heldAnt p .main := by
  suffices kept : t.inSpan p = true ∧ t.heldAnt p .main = s.heldAnt p .main from kept.2
  refine h.keeps (P := fun u => u.inSpan p = true ∧ u.heldAnt p .main = s.heldAnt p .main)
    (fun u x hx ⟨inside, same⟩ => ?_) ⟨inside, rfl⟩
  have any := revising_any hx
  refine ⟨((BookAct.frame any).inSpan p).trans inside, (BookAct.apply_heldAnt any p .main).trans ?_⟩
  cases x with
  | main q b o =>
    simp only [BookAct.held]
    split
    · next e => obtain ⟨-, out⟩ := hx; rw [e.1, inside] at out; cases out
    · exact same
  | drop q k =>
    simp only [BookAct.held]
    split
    · next e =>
      rcases hx with rfl | out
      · cases e.2
      · rw [e.1, inside] at out; cases out
    · exact same
  | listen q b o => simpa [BookAct.held] using same
  | _ => exact same

/-- What is due reads nothing that allocation changes but the mains of the sources, which are in key span. -/
theorem AllocFrame.due {s t : State} (h : AllocFrame s t)
    (mains : ∀ p, s.inSpan p = true → t.heldAnt p .main = s.heldAnt p .main) (u v : Pos) :
    t.harmonicDue u v = s.harmonicDue u v ∧ t.coupledDue u v = s.coupledDue u v ∧ t.sharedDue u v = s.sharedDue u v := by
  have pair : t.mayPair u v = s.mayPair u v := by rw [State.mayPair, State.mayPair, h.inSpan, h.isParked]
  have contact (a : Ant) : t.hasXp v a = s.hasXp v a := by rw [State.hasXp, State.hasXp, State.xp, State.xp, h.drv]
  have conflict : t.inConflict u v = s.inConflict u v := by
    simp only [State.inConflict, State.txFreq, State.rxFreq, h.isParked, h.bandOf, h.bands, h.cfg]
  have policy : t.policyBlanks v = s.policyBlanks v := by rw [State.policyBlanks, State.policyBlanks, h.bandOf, h.cfg]
  refine ⟨by rw [State.harmonicDue, State.harmonicDue, pair, conflict, policy], ?_⟩
  rw [State.coupledDue, State.coupledDue, State.sharedDue, State.sharedDue, pair]
  cases inside : s.inSpan u with
  | false => simp [State.mayPair, inside]
  | true => simp only [mains u inside, contact, h.cfg, and_self]

theorem AllocFrame.blankingDue {s t : State} (h : AllocFrame s t)
    (mains : ∀ p, s.inSpan p = true → t.heldAnt p .main = s.heldAnt p .main) (due : s.BlankingDue) : t.BlankingDue := by
  intro v u
  obtain ⟨harmonic, coupled, shared⟩ := h.due mains u v
  rw [h.prot, harmonic, coupled, shared]
  exact due v u

theorem State.revalidate_blankingDue {s : State} (due : s.BlankingDue) : s.revalidate.BlankingDue :=
  s.revalidate_frame.blankingDue (fun _ inside => s.revalidate_run.spanMain inside) due

/-! ## No LISTEN entry on an antenna of share capacity 0 (R71) -/

theorem BookRun.listenless {s t : State} (h : BookRun revising s t) {a : Ant} (zero : s.cfg.ants[a].capacity = 0)
    (hs : ∀ e ∈ s.alloc[a].queue, e.kind ≠ .listen) : ∀ e ∈ t.alloc[a].queue, e.kind ≠ .listen := by
  suffices kept : t.cfg.ants[a].capacity = 0 ∧ ∀ e ∈ t.alloc[a].queue, e.kind ≠ .listen from kept.2
  refine h.keeps (P := fun u => u.cfg.ants[a].capacity = 0 ∧ ∀ e ∈ u.alloc[a].queue, e.kind ≠ .listen)
    (fun u x hx ⟨zero, hu⟩ => ?_) ⟨zero, hs⟩
  have any := revising_any hx
  refine ⟨by rw [(BookAct.frame any).cfg]; exact zero, fun e he => ?_⟩
  rw [(BookAct.apply_queue any a).1] at he
  cases x with
  | append b p k o =>
    simp only [BookAct.queue] at he
    split at he
    · next hab =>
      subst hab
      rcases List.mem_append.mp he with he | he
      · exact hu e he
      · rw [List.mem_singleton.mp he]
        rintro rfl
        exact (hx.2.2 rfl).1 zero
    · exact hu e he
  | remove b p k =>
    simp only [BookAct.queue] at he
    split at he
    · exact hu e (List.mem_of_mem_filter he)
    · exact hu e he
  | _ => exact hu e he

/-- A share capacity lowered to 0 leaves no LISTEN entry (R71). -/
theorem State.allocCapacity_zero (s : State) (a : Ant) {old : Nat} :
    ∀ e ∈ (s.allocCapacity a old 0).alloc[a].queue, e.kind ≠ .listen := by
  have left := State.each_expires (s := s) (a := a) (xs := s.alloc[a].queue.filter fun e => e.kind == .listen)
    (f := fun e t => t.expire a e.pos .listen .ineligible) (bad := fun _ => true) (fun _ => .ineligible)
    fun e he t _ => by
      have kind := (List.mem_filter.mp he).2
      rw [if_pos rfl, beq_iff_eq.mp kind]
  intro e he
  have none : s.allocCapacity a old 0 = s.each (s.alloc[a].queue.filter fun e => e.kind == .listen) fun e t =>
      t.expire a e.pos .listen .ineligible := by
    rw [State.allocCapacity, if_neg (Nat.not_lt_zero old), if_pos (beq_self_eq_true 0)]
  rw [none] at he
  obtain ⟨mem, listen⟩ := left e he
  exact fun kind => by simpa using listen (List.mem_filter.mpr ⟨mem, by rw [kind]; rfl⟩)

end Sys2Proof.Machine
end

section
/-! SUPPORT. Where a listener list has room, no LISTEN entry waits: what a hand-over makes so, and what every operation of
allocation keeps so (R35, R65, R67, R71). -/

namespace Sys2Proof.Machine

/-! ## The number of wait entries -/

theorem State.entriesTotal_le {s t : State} (h : ∀ a : Ant, t.alloc[a].queue.length ≤ s.alloc[a].queue.length) :
    t.entriesTotal ≤ s.entriesTotal := List.sum_le_sum fun a _ => h a

/-- Only an act that appends an entry makes a queue longer. -/
theorem BookRun.queue_le {s t : State} (h : BookRun granting s t) (a : Ant) :
    t.alloc[a].queue.length ≤ s.alloc[a].queue.length := by
  refine h.keeps (P := fun u => u.alloc[a].queue.length ≤ s.alloc[a].queue.length) (fun u x hx hu => ?_) le_rfl
  rw [(BookAct.apply_queue (granting_any hx) a).1]
  cases x with
  | append b p k o => exact hx.elim
  | remove b p k =>
    simp only [BookAct.queue]
    split
    · exact (List.length_filter_le _ _).trans hu
    · exact hu
  | _ => exact hu

theorem BookRun.entriesTotal_le {s t : State} (h : BookRun granting s t) : t.entriesTotal ≤ s.entriesTotal :=
  State.entriesTotal_le h.queue_le

/-- A removal of an entry that waits makes the entries fewer. -/
theorem State.removeEntry_fewer {s : State} {a : Ant} {p : Pos} {k : Slot} (h : s.waitsOn p k a = true) :
    (s.removeEntry a p k).entriesTotal < s.entriesTotal := by
  have any : anyAct s (.remove a p k) := trivial
  obtain ⟨e, he, hp, hk⟩ := (s.waitsOn_iff p k a).mp h
  refine List.sum_lt_sum _ _ (fun b _ => (BookRun.one (c := granting) (x := .remove a p k) any).queue_le b) ⟨a, mem_allAnts a, ?_⟩
  have queue := (BookAct.apply_queue any a).1
  rw [BookAct.queue, if_pos rfl] at queue
  refine (congrArg List.length queue).trans_lt (List.length_filter_lt_length_iff_exists.mpr ⟨e, he, ?_⟩)
  simp [hp, hk]

theorem State.expire_fewer {s : State} {a : Ant} {p : Pos} {k : Slot} (h : s.waitsOn p k a = true) (c : Cause) :
    (s.expire a p k c).entriesTotal < s.entriesTotal := by
  refine lt_of_eq_of_lt ?_ (State.removeEntry_fewer h)
  rw [State.expire, State.entriesTotal, (State.notify_grow _ p _).same.alloc, State.entriesTotal]

/-! ## Served antennas -/

/-- Where the antenna has room for a listener, no LISTEN entry waits on it. -/
def State.served (s : State) (b : Ant) : Prop :=
  s.hasListenRoom b = true → ∀ e ∈ s.alloc[b].queue, e.kind ≠ .listen

/-- Every antenna served stays served. -/
def ServesKept (s t : State) : Prop := ∀ b, s.served b → t.served b

theorem ServesKept.refl (s : State) : ServesKept s s := fun _ h => h

theorem ServesKept.trans {s t u : State} (h : ServesKept s t) (k : ServesKept t u) : ServesKept s u :=
  fun b hb => k b (h b hb)

/-- An act that makes no room on the antenna, and puts no LISTEN entry where there is room. -/
def keepsRoom (b : Ant) (s : State) (x : BookAct) : Prop :=
  match x with
  | .leave _ a => a ≠ b
  | .append a _ k _ => k = .listen → s.hasListenRoom a = false
  | x => anyAct s x

theorem keepsRoom_any {b : Ant} {s : State} {x : BookAct} (h : keepsRoom b s x) : anyAct s x := by
  cases x with
  | still t => exact h
  | _ => trivial

/-- The listener list of the antenna does not get shorter under such an act. -/
theorem BookAct.room_le {b : Ant} {s : State} {x : BookAct} (h : keepsRoom b s x)
    (room : (x.apply s).hasListenRoom b = true) : s.hasListenRoom b = true := by
  have any := keepsRoom_any h
  simp only [State.hasListenRoom, (BookAct.frame any).cfg, (BookAct.apply_queue any b).2, decide_eq_true_eq] at room ⊢
  refine lt_of_le_of_lt ?_ room
  cases x with
  | listen p a o =>
    simp only [BookAct.listeners]
    split
    · simp
    · exact le_rfl
  | leave p a => rw [BookAct.listeners, if_neg h]
  | _ => exact le_rfl

theorem BookRun.served {b : Ant} {s t : State} (h : BookRun (keepsRoom b) s t) (hs : s.served b) : t.served b := by
  refine h.keeps (P := fun u => u.served b) (fun u x hx hu room e he => ?_) hs
  have before := hu (BookAct.room_le hx room)
  rw [(BookAct.apply_queue (keepsRoom_any hx) b).1] at he
  cases x with
  | append a p k o =>
    simp only [BookAct.queue] at he
    split at he
    · next hab =>
      subst hab
      rcases List.mem_append.mp he with he | he
      · exact before e he
      · rw [List.mem_singleton.mp he]
        intro listen
        have full := hx listen
        rw [BookAct.room_le hx room] at full
        cases full
    · exact before e he
  | remove a p k =>
    simp only [BookAct.queue] at he
    split at he
    · exact before e (List.mem_of_mem_filter he)
    · exact before e he
  | _ => exact before e he

section Runs

variable {b : Ant}

theorem SameBooks.roomRun {s t : State} (h : SameBooks s t) : BookRun (keepsRoom b) s t := BookRun.one (x := .still t) h

theorem State.expire_roomRun (s : State) (a : Ant) (p : Pos) (k : Slot) (c : Cause) :
    BookRun (keepsRoom b) s (s.expire a p k c) :=
  (State.removeEntry_run (by trivial)).trans (State.notify_grow _ p _).same.roomRun

theorem State.removePending_roomRun (s : State) (p : Pos) (k : Slot) : BookRun (keepsRoom b) s (s.removePending p k) :=
  s.removePending_run p k fun _ _ => trivial

/-- The books of a listen grant make room on no antenna but the one given up. -/
theorem State.grantListenBooks_roomRun {s : State} {p : Pos} (other : s.heldAnt p .listen ≠ some b) (a : Ant) (o : Origin) :
    BookRun (keepsRoom b) s (s.grantListenBooks p a o) := by
  have left (t : State) : BookRun (keepsRoom b) t (t.unbookOld p .listen (s.heldAnt p .listen)) := by
    cases h : s.heldAnt p .listen with
    | none => exact .refl
    | some m => exact BookRun.one (x := .leave p m) fun e => other (h.trans (congrArg some e))
  exact (((BookRun.one (x := .listen p a o) (by trivial)).trans (left _)).trans
    (State.removePending_roomRun _ p .listen)).trans (State.handChangeSet_same _ p _).roomRun

/-- The books of a main grant make room on no antenna but its own, where its position listened. -/
theorem State.grantMainBooks_roomRun {s : State} {p : Pos} {a : Ant}
    (other : a ≠ b ∨ s.alloc[a].listeners.contains p = false) (o : Origin) :
    BookRun (keepsRoom b) s (s.grantMainBooks p a o) := by
  have taken (t : State) : BookRun (keepsRoom b) t (t.takeUpListen p a (s.alloc[a].listeners.contains p)) := by
    rcases other with other | other
    · unfold State.takeUpListen
      split
      · exact (BookRun.one (x := .drop p .listen) (by trivial)).trans (BookRun.one (x := .leave p a) other)
      · exact .refl
    · rw [other]
      exact .refl
  have freed (t : State) : BookRun (keepsRoom b) t (t.unbookOld p .main (s.heldAnt p .main)) := by
    cases s.heldAnt p .main with
    | none => exact .refl
    | some m => exact BookRun.one (x := .free m) (by trivial)
  have pendListen (t : State) :
      BookRun (keepsRoom b) t (if t.hold[p].pendListen == some a then t.expire a p .listen .ineligible else t) := by
    split
    · exact t.expire_roomRun a p .listen _
    · exact .refl
  unfold State.grantMainBooks
  dsimp only
  exact (((((BookRun.one (x := .main p a o) (by trivial)).trans (taken _)).trans (freed _)).trans
    (State.removePending_roomRun _ p .main)).trans (pendListen _)).trans (State.handChangeSet_same _ p _).roomRun

end Runs

/-! ## Hand-overs and grants -/

/-- A listen grant keeps the antennas served if its hand-over serves the antenna given up. -/
theorem State.grantListenWith_serves {hand : Ant → State → State} {s : State} (p : Pos) (a : Ant) (o : Origin)
    (hh : ∀ m, (hand m (s.grantListenBooks p a o)).served m ∧
      ServesKept (s.grantListenBooks p a o) (hand m (s.grantListenBooks p a o))) :
    ServesKept s (State.grantListenWith hand p a o s) := by
  intro b hb
  rw [State.grantListenWith_eq]
  cases h : s.heldAnt p .listen with
  | none => exact (State.grantListenBooks_roomRun (by rw [h]; nofun) a o).served hb
  | some m =>
    rw [State.handOld]
    by_cases e : m = b
    · subst e
      exact (hh m).1
    · exact (hh m).2 b ((State.grantListenBooks_roomRun (by rw [h]; exact fun x => e (Option.some.inj x)) a o).served hb)

/-- A listen hand-over with fuel above the number of entries serves its antenna and keeps the others served (R67). -/
theorem State.handListenFuel_serves (n : Nat) (a : Ant) (s : State) (fuel : s.entriesTotal < n) :
    (State.handListenFuel n a s).served a ∧ ServesKept s (State.handListenFuel n a s) := by
  induction n generalizing a s with
  | zero => exact absurd fuel (Nat.not_lt_zero _)
  | succ n ih =>
    rcases s.handListenFuel_cases n a with ⟨ends, same⟩ | ⟨e, he, ⟨elig, grants⟩ | expires⟩
    · rw [same]
      refine ⟨fun room f hf listen => ?_, .refl s⟩
      rcases ends with full | none
      · rw [full] at room; cases room
      · refine List.not_mem_nil (a := f) ?_
        rw [← none, State.arbitration, List.mem_append]
        simp only [List.mem_filter, listen, beq_self_eq_true, hf, true_and, Bool.not_eq_true']
        cases s.isRun f.pos <;> simp
    · have removed : BookRun listening s (s.removeEntry a e.pos .listen) :=
        State.removeEntry_run ⟨rfl, .inl (State.waitsOn_of_arbitration he)⟩
      have fewer := State.removeEntry_fewer (State.waitsOn_of_arbitration he)
      have elig' := ((removed.frame fun hx => handing_any (listening_handing hx)).elig .listen a e.pos).trans elig
      have books := ((State.grantListenBooks_run elig' e.origin).mono fun hx =>
        handing_granting (listening_handing hx)).entriesTotal_le
      have granted := ((State.grantListenWith_run (fun m t => State.handListenFuel_run n m t) elig' e.origin).mono fun hx =>
        handing_granting (listening_handing hx)).entriesTotal_le
      have grant := State.grantListenWith_serves (s := s.removeEntry a e.pos .listen) e.pos a e.origin fun m =>
        ih m _ (by omega)
      obtain ⟨given, kept⟩ := ih a _ (show State.entriesTotal _ < n from lt_of_le_of_lt granted (by omega))
      rw [grants]
      exact ⟨given, fun b hb => kept b (grant b ((State.removeEntry_run (c := keepsRoom b) (by trivial)).served hb))⟩
    · have fewer := State.expire_fewer (State.waitsOn_of_arbitration he) .ineligible
      obtain ⟨given, kept⟩ := ih a (s.expire a e.pos .listen .ineligible) (by omega)
      rw [expires]
      exact ⟨given, fun b hb => kept b ((s.expire_roomRun a e.pos .listen _).served hb)⟩

theorem State.handListen_serves (a : Ant) (s : State) :
    (State.handListen a s).served a ∧ ServesKept s (State.handListen a s) :=
  State.handListenFuel_serves _ a s (Nat.lt_succ_self _)

theorem State.grantListen_serves (s : State) (p : Pos) (a : Ant) (o : Origin) : ServesKept s (s.grantListen p a o) :=
  State.grantListenWith_serves p a o fun m => State.handListen_serves m _

/-- A main grant that takes up a listen serves its antenna at the end (R56). -/
theorem State.grantMainWith_serves {hand : Ant → State → State} (hh : ∀ m t, ServesKept t (hand m t)) (s : State) (p : Pos)
    (a : Ant) (o : Origin) : ServesKept s (State.grantMainWith hand p a o s) := by
  have old (t : State) : ServesKept t (t.handOld hand (s.heldAnt p .main)) := by
    cases s.heldAnt p .main with
    | none => exact .refl t
    | some m => exact hh m t
  intro b hb
  rw [State.grantMainWith_eq]
  split
  · obtain ⟨given, kept⟩ := State.handListen_serves a ((s.grantMainBooks p a o).handOld hand (s.heldAnt p .main))
    by_cases e : a = b
    · exact e ▸ given
    · exact kept b (old _ b ((State.grantMainBooks_roomRun (.inl e) o).served hb))
  · next still => exact old _ b ((State.grantMainBooks_roomRun (.inr (by simpa using still)) o).served hb)

theorem State.handMainFuel_serves (n : Nat) (a : Ant) (s : State) : ServesKept s (State.handMainFuel n a s) := by
  induction n generalizing a s with
  | zero => exact .refl s
  | succ n ih =>
    rcases s.handMainFuel_cases n a with same | ⟨e, -, ⟨-, -, grants⟩ | expires⟩
    · rw [same]
      exact .refl s
    · rw [grants]
      exact fun b hb => State.grantMainWith_serves ih _ e.pos a e.origin b
        ((State.removeEntry_run (c := keepsRoom b) (by trivial)).served hb)
    · rw [expires]
      exact fun b hb => ih a _ b ((s.expire_roomRun a e.pos .main _).served hb)

theorem State.handMain_serves (a : Ant) (s : State) : ServesKept s (State.handMain a s) := State.handMainFuel_serves _ a s

theorem State.grantMain_serves (s : State) (p : Pos) (a : Ant) (o : Origin) : ServesKept s (s.grantMain p a o) :=
  State.grantMainWith_serves State.handMain_serves s p a o

/-! ## Releases, follows, revalidations -/

theorem State.lose_serves (s : State) (p : Pos) (k : Slot) (n : Ant → Option Notice) : ServesKept s (s.lose p k n) := by
  intro b hb
  cases h : s.heldAnt p k with
  | none =>
    rw [State.lose, h]
    exact hb
  | some a =>
    rw [State.lose_of_held h]
    have told (u : State) : BookRun (keepsRoom b) u ((u.handChangeSet p [⟨a, .opened⟩]).notifyOpt p (n a)) :=
      ((u.handChangeSet_same p _).trans (State.notifyOpt_same _ p (n a))).roomRun
    cases k with
    | main =>
      exact State.handMain_serves a _ b ((((BookRun.one (x := .drop p .main) (by trivial)).trans
        (BookRun.one (x := .free a) (by trivial))).trans (told _)).served hb)
    | listen =>
      obtain ⟨given, kept⟩ := State.handListen_serves a (s.releaseListen p a (n a))
      by_cases e : a = b
      · exact e ▸ given
      · exact kept b ((((BookRun.one (x := .drop p .listen) (by trivial)).trans
          (BookRun.one (x := .leave p a) e)).trans (told _)).served hb)

theorem State.withdraw_roomRun {b : Ant} (s : State) (p : Pos) (k : Slot) :
    BookRun (keepsRoom b) s (s.withdraw p k) := by
  unfold State.withdraw
  split
  · exact .refl
  · exact (State.removeEntry_run (by trivial)).trans (State.notify_grow _ p _).same.roomRun

/-- A queue pass on a list that has no free candidate puts no LISTEN entry where there is room. -/
theorem State.queuePass_serves {s : State} {p : Pos} {k : Slot} {c : Band}
    (full : ∀ a ∈ s.prefList p c k, s.candidate k p a = true → s.slotFree k a = false) :
    ServesKept s (s.queuePass p k c) := by
  intro b hb
  cases found : (s.prefList p c k).find? fun a => s.candidate k p a && s.mayQueue k p a with
  | none =>
    rw [State.queuePass_none found]
    exact (s.notify_grow p _).same.roomRun.served hb
  | some a =>
    have ok := List.find?_some found
    obtain ⟨good, -⟩ := Bool.and_eq_true_iff.mp ok
    rw [State.queuePass_some found]
    refine ((s.withdraw_roomRun p k).trans (BookRun.one (x := .append a p k .follow) fun listen => ?_)).served hb
    subst listen
    exact ((s.withdraw_frees p .listen).2 a).trans (full a (List.mem_of_find?_eq_some found) good)

theorem State.followSlot_serves (s : State) (p : Pos) (k : Slot) : ServesKept s (s.followSlot p k) := by
  rcases s.followSlot_acts p k with e | ⟨-, c, -, ⟨a, -, -, -, e⟩ | ⟨full, e⟩⟩
  · rw [e]
    exact .refl s
  · rw [e]
    cases k with
    | main => exact s.grantMain_serves p a .follow
    | listen => exact s.grantListen_serves p a .follow
  · rw [e]
    exact State.queuePass_serves full

theorem State.followOne_serves (s : State) (p : Pos) (k : Slot) : ServesKept s (s.followOne p k) := by
  have main := s.followSlot_serves p .main
  cases k with
  | main =>
    unfold State.followOne State.followMain
    dsimp only
    split
    · exact main.trans (State.followSlot_serves _ p .listen)
    · exact main
  | listen => exact s.followSlot_serves p .listen

/-- Updates that each keep the antennas served keep them served. -/
theorem State.each_serves {α : Type} (xs : List α) (f : α → State → State) (h : ∀ x t, ServesKept t (f x t)) (s : State) :
    ServesKept s (s.each xs f) := State.each_rel ServesKept .refl (fun a b => a.trans b) xs f h s

theorem State.revalidateSlot_serves (s : State) (p : Pos) (k : Slot) : ServesKept s (s.revalidateSlot p k) := by
  have edit : ServesKept s (s.editWork p k) := by
    unfold State.editWork
    split
    · exact (s.lose_serves p k _).trans (State.followOne_serves _ p k)
    · exact .refl s
  unfold State.revalidateSlot
  split
  · split
    · exact fun b hb => (BookRun.one (x := .mark p k (some .edit)) (by trivial)).served hb
    · exact edit
  · exact .refl s

theorem State.revalidateHand_serves (s : State) (a : Ant) : ServesKept s (s.revalidateHand a) := by
  have main : ServesKept s
      (if s.alloc[a].holder.isNone && !(s.arbitration a .main).isEmpty then State.handMain a s else s) := by
    split
    · exact State.handMain_serves a s
    · exact .refl s
  have listen (t : State) : ServesKept t
      (if t.hasListenRoom a && !(t.arbitration a .listen).isEmpty then State.handListen a t else t) := by
    split
    · exact (State.handListen_serves a t).2
    · exact .refl t
  exact main.trans (listen _)

theorem State.revalidate_serves (s : State) : ServesKept s s.revalidate := by
  have dropped (a : Ant) (t : State) : ServesKept t (t.dropIneligible a) :=
    State.each_serves _ _ (fun e u => by
      split
      · exact .refl u
      · exact fun b hb => (u.expire_roomRun a e.pos e.kind _).served hb) t
  rw [State.revalidate_eq]
  exact ((State.each_serves allAnts _ dropped s).trans
    (State.each_serves allPos (fun p t => (t.revalidateSlot p .main).revalidateSlot p .listen)
      (fun p t => (t.revalidateSlot_serves p .main).trans (State.revalidateSlot_serves _ p .listen)) _)).trans
    (State.each_serves allAnts (fun a t => t.revalidateHand a) (fun a t => t.revalidateHand_serves a) _)

/-- A share capacity raised leaves no LISTEN entry where there is room (R35). -/
theorem State.allocCapacity_serves (s : State) (a : Ant) {old new : Nat} (raised : old < new) :
    (s.allocCapacity a old new).served a := by
  rw [State.allocCapacity, if_pos raised]
  exact (State.handListen_serves a s).1

end Sys2Proof.Machine
end

section
/-! SUPPORT. What a write of an antenna record, a segment map entry or band settings has done (R23, R35, R71, R158,
R179). -/

namespace Sys2Proof.Machine

/-! ## Antenna records -/

theorem State.recomputeBlank_alloc (s : State) : s.recomputeBlank.alloc = s.alloc := by rw [State.recomputeBlank_eq]

theorem State.recomputeBlank_cfg (s : State) : s.recomputeBlank.cfg = s.cfg := s.recomputeBlank_quiet.cfg

/-- No LISTEN entry waits on the antenna. -/
def State.listenless (s : State) (a : Ant) : Prop := ∀ e ∈ s.alloc[a].queue, e.kind ≠ .listen

theorem State.recomputeBlank_listenless {s : State} {a : Ant} (h : s.listenless a) : s.recomputeBlank.listenless a := by
  rw [State.listenless, State.recomputeBlank_alloc]
  exact h

theorem State.recomputeBlank_served {s : State} {a : Ant} (h : s.served a) : s.recomputeBlank.served a := by
  rw [State.served, State.hasListenRoom, State.recomputeBlank_alloc, State.recomputeBlank_cfg]
  exact h

/-- The three effects of a changed antenna record, each read at its end. -/
theorem State.antennaChanged_taken {s u : State} {a : Ant} {v : AntennaRecord} (hv : u.cfg.ants[a] = v) :
    AntennaTaken s (u.antennaChanged a s.cfg.ants[a] v) a v := by
  let x := s.cfg.ants[a]
  let t := u.onChange (x.capacity != v.capacity) fun t => t.allocCapacity a x.capacity v.capacity
  let w := t.onChange (x.group != v.group) State.recomputeBlank
  have shared (changed : x.capacity ≠ v.capacity) : t = u.allocCapacity a x.capacity v.capacity :=
    State.onChange_of (bne_iff_ne.mpr changed) _
  have frame : t.cfg = u.cfg := State.onChange_keeps (P := fun t => t.cfg = u.cfg) _
    (fun _ => (u.allocCapacity_frame a _ _).cfg) rfl
  have cfg : w.cfg = u.cfg := State.onChange_keeps (P := fun t => t.cfg = u.cfg) _
    (fun h => (t.recomputeBlank_cfg).trans h) frame
  have result : u.antennaChanged a s.cfg.ants[a] v =
      w.onChange (x.present != v.present || x.bands != v.bands || x.role != v.role) State.revalidate := rfl
  rw [result]
  refine ⟨fun some zero => ?_, fun raised => ?_, fun group => ?_, fun fields => ?_⟩
  · have emptied : t.listenless a := by
      rw [shared fun e => some (e.trans zero), zero]
      exact u.allocCapacity_zero a
    refine State.onChange_keeps (P := (State.listenless · a)) _ (fun h => ?_)
      (State.onChange_keeps (P := (State.listenless · a)) _ State.recomputeBlank_listenless emptied)
    exact w.revalidate_run.listenless (by rw [cfg, hv]; exact zero) h
  · have served : t.served a := by
      rw [shared (Nat.ne_of_lt raised)]
      exact u.allocCapacity_serves a raised
    exact State.onChange_keeps (P := (State.served · a)) _ (w.revalidate_serves a)
      (State.onChange_keeps (P := (State.served · a)) _ State.recomputeBlank_served served)
  · refine State.onChange_keeps _ State.revalidate_blankingDue ?_
    have recomputed : w = t.recomputeBlank := State.onChange_of (bne_iff_ne.mpr group.symm) _
    rw [recomputed]
    exact t.recomputeBlank_blanked.1
  · rw [State.onChange_of (by
      simp only [Bool.or_eq_true, bne_iff_ne]
      exact fields.elim (fun h => .inl (.inl h.symm)) fun h => h.elim (fun h => .inl (.inr h.symm)) fun h => .inr h.symm)]
    exact w.revalidate_revalidated

/-! ## Segment map entries -/

theorem State.mapChanged_taken (s : State) {x y : MapEntry} (h : y.txSet ≠ x.txSet ∨ y.rxSet ≠ x.rxSet) :
    (s.mapChanged x y).Revalidated := by
  rw [State.mapChanged, State.onChange_of (by
    simp only [Bool.or_eq_true, bne_iff_ne]
    exact h.imp Ne.symm Ne.symm)]
  exact s.revalidate_revalidated

/-! ## Band settings -/

/-- The current segments of a position on the band are those of R23. -/
def State.segNow (s : State) (b : Band) (p : Pos) : Prop :=
  s.bandOf p = some b → (s.bands[p].curTx, s.bands[p].curRx) = s.currentNow p

theorem State.segNow_of_same {s t : State} {b : Band} {p : Pos} (cfg : t.cfg = s.cfg) (unit : t.bands[p] = s.bands[p])
    (h : s.segNow b p) : t.segNow b p := by
  have seg (c : Band) : t.defaultSeg c = s.defaultSeg c := by rw [State.defaultSeg, cfg]; rfl
  rw [State.segNow, State.bandOf, State.currentNow, unit, show t.defaultSeg = s.defaultSeg from funext seg]
  exact h

theorem State.recomputeSegs_segNow (s : State) (b : Band) (p : Pos) : (s.recomputeSegs p).segNow b p := by
  obtain ⟨frame, reading⟩ := s.recomputeSegs_eq p
  simp only [BandUnit.reading, Prod.mk.injEq] at reading
  obtain ⟨-, state, report, curTx, curRx⟩ := reading
  have seg (c : Band) : (s.recomputeSegs p).defaultSeg c = s.defaultSeg c := by
    rw [State.defaultSeg, frame.cfg]; rfl
  intro _
  rw [State.currentNow, state, report, curTx, curRx, show (s.recomputeSegs p).defaultSeg = s.defaultSeg from funext seg]
  rfl

/-- A default segment written gives the positions on its band their current segments (R23). -/
theorem State.newDefaultSeg_taken (s : State) (b : Band) (p : Pos) : (s.newDefaultSeg b).segNow b p := by
  let f (p : Pos) (t : State) : State := if t.bandOf p == some b then t.recomputeSegs p else t
  have give (q : Pos) (t : State) : (f q t).segNow b q := by
    by_cases h : t.bandOf q = some b
    · rw [show f q t = t.recomputeSegs q from if_pos (beq_iff_eq.mpr h)]
      exact t.recomputeSegs_segNow b q
    · rw [show f q t = t from if_neg (by simpa using h)]
      exact fun e => absurd e h
  have frame (q : Pos) (t : State) : UnitFrame t (f q t) q := by
    dsimp only [f]
    split
    · exact (t.recomputeSegs_eq q).1
    · exact .refl t q
  exact (State.each_gives (inv := fun _ => True) (P := fun q t => t.segNow b q) allPos f (s := s) (fun _ _ _ => trivial)
    (fun q t _ => give q t)
    (fun q r t _ h => by
      by_cases e : r = q
      · rw [e]; exact give q t
      · exact State.segNow_of_same (frame q t).cfg ((frame q t).others r e) h) trivial).2 p (mem_allPos p)

/-- The two effects of changed band settings. -/
theorem State.bandChanged_taken (u : State) (b : Band) (x v : BandSettings) :
    (v.defaultSeg ≠ x.defaultSeg → ∀ p : Pos, (u.bandChanged b x v).segNow b p) ∧
      (v.policy ≠ x.policy ∨ v.guardBase ≠ x.guardBase → (u.bandChanged b x v).BlankingDue) := by
  refine ⟨fun changed p => ?_, fun changed => ?_⟩
  · rw [State.bandChanged, State.onChange_of (b := x.defaultSeg != v.defaultSeg) (bne_iff_ne.mpr changed.symm)]
    exact State.onChange_keeps (P := fun t => t.segNow b p) _
      (fun h => State.segNow_of_same (State.recomputeBlank_cfg _) (by rw [State.recomputeBlank_eq]) h)
      (u.newDefaultSeg_taken b p)
  · rw [State.bandChanged, State.onChange_of (b := x.policy != v.policy || x.guardBase != v.guardBase) (by
      simp only [Bool.or_eq_true, bne_iff_ne]
      exact changed.imp Ne.symm Ne.symm)]
    exact (State.recomputeBlank_blanked _).1

end Sys2Proof.Machine
end

section
/-! SUPPORT. The yield timers as R77 to R79 rule them through every act on the books, and what a write of the station
settings has done (R75, R85). -/

namespace Sys2Proof.Machine

/-! ## What a re-determination gives (R77 to R79) -/

/-- The state that R79 gives a yield timer: STOPPED without a claim, otherwise HOLDING or RUNNING for the holder and the
head main-waiter, with the time counted for those two kept. -/
theorem State.yieldNow_cases (s : State) (a : Ant) :
    (s.yieldNow a = .stopped ∧ ∀ h w, s.alloc[a].holder = some h → s.headWaiter a = some w → s.claim h w = false) ∨
      ∃ h w, s.alloc[a].holder = some h ∧ s.headWaiter a = some w ∧ s.claim h w = true ∧
        (((s.inSpan h = true ∨ s.inSpan w = true) ∧ ∃ n, s.yieldNow a = .holding h w n) ∨
          (s.inSpan h = false ∧ s.inSpan w = false ∧ ∃ n since, s.yieldNow a = .running h w n since ∧
            n + (s.now - since) = if s.alloc[a].yieldT.isFor h w then s.yieldCounted s.alloc[a].yieldT else 0)) := by
  unfold State.yieldNow
  dsimp only
  cases holder : s.alloc[a].holder with
  | none => exact .inl ⟨rfl, fun _ _ h => by cases h⟩
  | some h =>
    cases head : s.headWaiter a with
    | none => exact .inl ⟨rfl, fun _ _ _ h => by cases h⟩
    | some w =>
      dsimp only
      cases claim : s.claim h w with
      | false =>
        refine .inl ⟨rfl, fun h' w' e e' => ?_⟩
        cases e
        cases e'
        exact claim
      | true =>
        refine .inr ⟨h, w, rfl, rfl, claim, ?_⟩
        rw [if_pos rfl]
        cases span : s.inSpan h || s.inSpan w with
        | true => exact .inl ⟨by simpa using span, _, rfl⟩
        | false =>
          obtain ⟨outH, outW⟩ := Bool.or_eq_false_iff.mp span
          refine .inr ⟨outH, outW, ?_⟩
          rw [if_neg (by simp)]
          cases s.alloc[a].yieldT with
          | stopped => exact ⟨_, _, rfl, by simp⟩
          | holding h' w' n => exact ⟨_, _, rfl, by simp⟩
          | running h' w' n since =>
            dsimp only
            split
            · next same =>
              obtain ⟨rfl, rfl⟩ : h' = h ∧ w' = w := by simpa [Yield.isFor] using same
              exact ⟨n, since, rfl, rfl⟩
            · exact ⟨0, s.now, rfl, by simp⟩

theorem State.claim_iff (s : State) (h w : Pos) :
    s.claim h w = true ↔ s.cfg.station.yieldTime ≠ 0 ∧ (s.isRun w = true ∨ s.isRun h = false) := by
  simp [State.claim]

/-- What the rule of a yield timer reads is the same. -/
structure YieldSame (s t : State) (a : Ant) : Prop where
  holder : t.alloc[a].holder = s.alloc[a].holder
  queue : t.alloc[a].queue = s.alloc[a].queue
  timer : t.alloc[a].yieldT = s.alloc[a].yieldT

theorem YieldSame.refl (s : State) (a : Ant) : YieldSame s s a := ⟨rfl, rfl, rfl⟩

theorem YieldSame.of_alloc {s t : State} {a : Ant} (h : t.alloc[a] = s.alloc[a]) : YieldSame s t a := by
  constructor <;> rw [h]

theorem headWaiter_congr {s t : State} {a : Ant} (cfg : t.cfg = s.cfg) (queue : t.alloc[a].queue = s.alloc[a].queue) :
    t.headWaiter a = s.headWaiter a := by
  have run (p : Pos) : t.isRun p = s.isRun p := by rw [State.isRun, State.isRun, cfg]
  simp only [State.headWaiter, State.arbitration, queue, run]

/-- A timer ruled stays ruled where nothing that the rule reads changes. -/
theorem YieldSame.byRule {s t : State} {a : Ant} (h : YieldSame s t a) (cfg : t.cfg = s.cfg)
    (span : ∀ p, t.inSpan p = s.inSpan p) (rule : s.YieldByRule a) : t.YieldByRule a := by
  have run (p : Pos) : t.isRun p = s.isRun p := by rw [State.isRun, State.isRun, cfg]
  simpa only [State.YieldByRule, h.holder, h.timer, headWaiter_congr cfg h.queue, cfg, run, span] using rule

theorem YieldSame.due {s t : State} {a : Ant} (h : YieldSame s t a) (cfg : t.cfg = s.cfg) (now : t.now = s.now) :
    t.yieldDue a = s.yieldDue a := by
  rw [State.yieldDue, State.yieldDue, h.timer]
  cases s.alloc[a].yieldT with
  | running h w n since => exact decide_eq_decide.mpr (by rw [State.yieldCounted, State.yieldCounted, cfg, now])
  | stopped | holding h w n => rfl

/-- A re-determination reads and changes the timer alone. -/
theorem State.redetermine_self (s : State) (a : Ant) :
    (s.redetermine a).alloc[a] = { s.alloc[a] with yieldT := s.yieldNow a } := upd_get_same _ _ _

theorem State.redetermine_head (s : State) (a : Ant) : (s.redetermine a).headWaiter a = s.headWaiter a :=
  headWaiter_congr rfl (by rw [State.redetermine_self])

/-- A timer re-determined is as R77 rules it. -/
theorem State.redetermine_byRule (s : State) (a : Ant) : (s.redetermine a).YieldByRule a := by
  have frame := s.redetermine_frame a
  have run (p : Pos) : (s.redetermine a).isRun p = s.isRun p := rfl
  rw [State.YieldByRule, State.redetermine_self, State.redetermine_head, frame.cfg]
  simp only [run, frame.inSpan]
  rcases s.yieldNow_cases a with ⟨stopped, none⟩ | ⟨h, w, holder, head, claim, timer⟩
  · rw [stopped]
    refine ⟨⟨fun h => absurd rfl h, ?_⟩, nofun, nofun⟩
    rintro ⟨time, h, w, holder, head, classes⟩
    have claim := (s.claim_iff h w).mpr ⟨time, classes⟩
    rw [none h w holder head] at claim
    cases claim
  · obtain ⟨time, classes⟩ := (s.claim_iff h w).mp claim
    rcases timer with ⟨span, n, e⟩ | ⟨outH, outW, n, since, e, -⟩
    · rw [e]
      refine ⟨⟨fun _ => ⟨time, h, w, holder, head, classes⟩, fun _ => nofun⟩, nofun, fun h' w' n' e' => ?_⟩
      cases e'
      exact ⟨holder, head, span⟩
    · rw [e]
      refine ⟨⟨fun _ => ⟨time, h, w, holder, head, classes⟩, fun _ => nofun⟩, fun h' w' n' since' e' => ?_, nofun⟩
      cases e'
      exact ⟨holder, head, outH, outW⟩

/-- A timer that a re-determination finds due has counted to the yield time for the present holder and head main-waiter,
both outside key span. -/
theorem State.redetermine_due {s : State} {a : Ant} (due : (s.redetermine a).yieldDue a = true) :
    ∃ h w, s.alloc[a].holder = some h ∧ s.headWaiter a = some w ∧ s.inSpan h = false ∧ s.inSpan w = false ∧
      s.alloc[a].yieldT.isFor h w = true ∧
      s.cfg.station.yieldTime * 1000 ≤ s.yieldCounted s.alloc[a].yieldT := by
  rw [State.yieldDue, State.redetermine_self] at due
  rcases s.yieldNow_cases a with ⟨e, -⟩ | ⟨h, w, holder, head, claim, ⟨-, n, e⟩ | ⟨outH, outW, n, since, e, counted⟩⟩
  · rw [e] at due; cases due
  · rw [e] at due; cases due
  · rw [e] at due
    obtain ⟨time, -⟩ := (s.claim_iff h w).mp claim
    have reached : s.cfg.station.yieldTime * 1000 ≤ n + (s.now - since) := of_decide_eq_true due
    rw [counted] at reached
    refine ⟨h, w, holder, head, outH, outW, ?_⟩
    split at reached
    · next same => exact ⟨same, reached⟩
    · omega

/-! ## Acts and runs -/

/-- The timer of an antenna is ruled, and has not reached the yield time. -/
def State.yieldQuiet (s : State) (a : Ant) : Prop := s.YieldByRule a ∧ s.yieldDue a = false

/-- A timer that is ruled and not due is not found due by a re-determination after its holder or its queue changed. -/
theorem State.yieldQuiet.redetermined {s t : State} {a : Ant} (h : s.yieldQuiet a) (cfg : t.cfg = s.cfg)
    (now : t.now = s.now) (span : ∀ p, t.inSpan p = s.inSpan p) (timer : t.alloc[a].yieldT = s.alloc[a].yieldT) :
    (t.redetermine a).yieldQuiet a := by
  obtain ⟨⟨-, -, holds⟩, notDue⟩ := h
  refine ⟨t.redetermine_byRule a, Bool.eq_false_iff.mpr fun due => ?_⟩
  obtain ⟨h, w, -, -, outH, outW, same, counted⟩ := State.redetermine_due due
  rw [timer] at same counted
  rw [span] at outH outW
  cases e : s.alloc[a].yieldT with
  | stopped => rw [e] at same; cases same
  | running h' w' n since =>
    rw [State.yieldDue, e] at notDue
    rw [e, cfg, State.yieldCounted, now] at counted
    exact absurd counted (of_decide_eq_false notDue)
  | holding h' w' n =>
    obtain ⟨-, -, inside⟩ := holds h' w' n e
    rw [e] at same
    obtain ⟨rfl, rfl⟩ : h' = h ∧ w' = w := by simpa [Yield.isFor] using same
    rw [outH, outW] at inside
    exact inside.elim nofun nofun

/-- An act leaves what the rule of a timer reads, or re-determines the timer. -/
theorem BookAct.yield_cases {s : State} {x : BookAct} (h : anyAct s x) (a : Ant) :
    YieldSame s (x.apply s) a ∨ ∃ t, x.apply s = t.redetermine a ∧ AllocFrame s t ∧
      t.alloc[a].yieldT = s.alloc[a].yieldT := by
  have written (b : Ant) (u : State) (z : AllocRecord) (frame : AllocFrame s u) (alloc : u.alloc = s.alloc)
      (timer : z.yieldT = s.alloc[b].yieldT) :
      YieldSame s ((u.setAlloc b z).redetermine b) a ∨ ∃ t, (u.setAlloc b z).redetermine b = t.redetermine a ∧
        AllocFrame s t ∧ t.alloc[a].yieldT = s.alloc[a].yieldT := by
    by_cases e : b = a
    · subst e
      refine .inr ⟨_, rfl, frame.trans (u.setAlloc_frame b z), ?_⟩
      rw [State.setAlloc_alloc, upd_get_same, timer]
    · refine .inl (.of_alloc ?_)
      rw [State.redetermine_get, if_neg e, alloc]
  have shared (b : Ant) (z : AllocRecord) (u : State) (alloc : u.alloc = upd s.alloc b z)
      (holder : z.holder = s.alloc[b].holder) (queue : z.queue = s.alloc[b].queue)
      (timer : z.yieldT = s.alloc[b].yieldT) : YieldSame s u a := by
    by_cases e : b = a
    · subst e
      constructor <;> rw [alloc, upd_get_same] <;> assumption
    · exact .of_alloc (by rw [alloc, upd_get, if_neg e])
  cases x with
  | still t => exact .inl (.of_alloc (by rw [BookAct.apply, h.alloc]))
  | main p b o => exact written b _ _ (s.setHold_frame p _) rfl rfl
  | listen p b o => exact .inl (shared b _ _ rfl rfl rfl rfl)
  | drop p k => exact .inl (.of_alloc rfl)
  | free b => exact written b s _ (.refl s) rfl rfl
  | leave p b => exact .inl (shared b _ _ rfl rfl rfl rfl)
  | append b p k o => exact written b _ _ (s.setHold_frame p _) rfl rfl
  | remove b p k => exact written b _ _ (s.setHold_frame p _) rfl rfl
  | mark p k m => exact .inl (.of_alloc rfl)
  | redetermine b =>
    by_cases e : b = a
    · subst e
      exact .inr ⟨s, rfl, .refl s, rfl⟩
    · exact .inl (.of_alloc ((upd_get _ _ _ _).trans (if_neg e)))

namespace BookRun

variable {s t : State} {a : Ant}

theorem byRule (h : BookRun anyAct s t) (rule : s.YieldByRule a) : t.YieldByRule a := by
  refine h.keeps (P := fun u => u.YieldByRule a) (fun u x hx hu => ?_) rule
  have frame := BookAct.frame hx
  rcases BookAct.yield_cases hx a with same | ⟨v, e, -, -⟩
  · exact same.byRule frame.cfg frame.inSpan hu
  · rw [e]
    exact v.redetermine_byRule a

theorem yieldQuiet (h : BookRun anyAct s t) (quiet : s.yieldQuiet a) : t.yieldQuiet a := by
  refine h.keeps (P := fun u => u.yieldQuiet a) (fun u x hx hu => ?_) quiet
  have frame := BookAct.frame hx
  rcases BookAct.yield_cases hx a with same | ⟨v, e, into, timer⟩
  · exact ⟨same.byRule frame.cfg frame.inSpan hu.1, (same.due frame.cfg frame.now).trans hu.2⟩
  · rw [e]
    exact hu.redetermined into.cfg into.now into.inSpan timer

/-- A timer that is ruled, or that a key-span report of a position concerns, is so after a run. -/
theorem byRule_or_concerns (h : BookRun anyAct s t) {p : Pos} (hs : s.YieldByRule a ∨ s.yieldConcerns p a = true) :
    t.YieldByRule a ∨ t.yieldConcerns p a = true := by
  refine h.keeps (P := fun u => u.YieldByRule a ∨ u.yieldConcerns p a = true) (fun u x hx hu => ?_) hs
  have frame := BookAct.frame hx
  rcases BookAct.yield_cases hx a with same | ⟨v, e, -, -⟩
  · refine hu.imp (same.byRule frame.cfg frame.inSpan) fun concerns => ?_
    rw [State.yieldConcerns, same.holder, headWaiter_congr frame.cfg same.queue]
    exact concerns
  · rw [e]
    exact .inl (v.redetermine_byRule a)

/-- Only an act that appends an entry puts one into a queue. -/
theorem queue_subset (h : BookRun granting s t) (a : Ant) : ∀ e ∈ t.alloc[a].queue, e ∈ s.alloc[a].queue := by
  refine h.keeps (P := fun u => ∀ e ∈ u.alloc[a].queue, e ∈ s.alloc[a].queue) (fun u x hx hu => ?_) fun _ he => he
  rw [(BookAct.apply_queue (granting_any hx) a).1]
  cases x with
  | append b p k o => exact hx.elim
  | remove b p k =>
    simp only [BookAct.queue]
    split
    · exact fun e he => hu e (List.mem_of_mem_filter he)
    · exact hu
  | _ => exact hu

end BookRun

theorem State.redetermineAll_run (s : State) : BookRun granting s s.redetermineAll :=
  BookRun.each allAnts _ fun a _ _ _ => BookRun.one (x := .redetermine a) (by trivial)

/-- All timers re-determined are as ruled (R79). -/
theorem State.redetermineAll_byRule (s : State) (a : Ant) : s.redetermineAll.YieldByRule a :=
  (State.each_gives (inv := fun _ => True) (P := fun a t => t.YieldByRule a) allAnts (fun a t => t.redetermine a)
    (fun _ _ _ => trivial) (fun a t _ => t.redetermine_byRule a)
    (fun b a t _ rule => (BookRun.one (c := anyAct) (x := .redetermine b) (by trivial)).byRule rule) trivial).2 a
    (mem_allAnts a)

/-! ## The expiry of a timer (R78, R80, R81) -/

/-- A head main-waiter removed is not the head main-waiter. -/
theorem State.head_of_filtered {s : State} {a : Ant} {w : Pos} {xs : List WaitEntry}
    (h : s.alloc[a].queue = xs.filter fun e => !(e.pos == w && e.kind == .main)) : s.headWaiter a ≠ some w := by
  intro head
  obtain ⟨e, first, rfl⟩ := Option.map_eq_some_iff.mp head
  have mem := List.mem_of_mem_head? first
  have queued := State.mem_queue_of_arbitration mem
  have kind : e.kind = .main := by
    simp only [State.arbitration, List.mem_append, List.mem_filter, beq_iff_eq] at mem
    rcases mem with mem | mem <;> exact mem.1.2
  rw [h] at queued
  simpa [kind] using (List.mem_filter.mp queued).2

/-- An expiry of the head main-waiter stops or reloads the timer. -/
theorem State.expire_yieldQuiet {s : State} {a : Ant} {h w : Pos} {n since : Nat}
    (timer : s.alloc[a].yieldT = .running h w n since) (c : Cause) : (s.expire a w .main c).yieldQuiet a := by
  refine BookRun.yieldQuiet (s := s.removeEntry a w .main)
    ((State.notify_grow _ w _).same.run fun hx => handing_any (listening_handing hx)) ?_
  refine ⟨State.redetermine_byRule _ a, Bool.eq_false_iff.mpr fun due => ?_⟩
  obtain ⟨h', w', -, head, -, -, same, -⟩ := State.redetermine_due due
  rw [State.setAlloc_alloc, upd_get_same] at same
  have kept : (Yield.running h w n since).isFor h' w' = true := timer ▸ same
  obtain ⟨rfl, rfl⟩ : h = h' ∧ w = w' := by simpa [Yield.isFor] using kept
  exact State.head_of_filtered (by rw [State.setAlloc_alloc, upd_get_same]) head

/-- A pre-emption frees the antenna, which stops its timer, before it grants it again. -/
theorem State.preempt_yieldQuiet (s : State) (a : Ant) (h w : Pos) : (s.preempt a h w).yieldQuiet a := by
  have freed (u : State) : (u.unbookHolder a).yieldQuiet a := by
    refine ⟨State.redetermine_byRule _ a, Bool.eq_false_iff.mpr fun due => ?_⟩
    obtain ⟨h', -, holder, -⟩ := State.redetermine_due due
    rw [State.setAlloc_alloc, upd_get_same] at holder
    cases holder
  have rest := (((State.handChangeSet_same (s.unbookMain h a) h [⟨a, .opened⟩]).trans
    (State.notifyOpt_same _ h (some (.preempted .main a w)))).run (c := granting) fun hx =>
      handing_granting (listening_handing hx)).trans
    ((State.removeEntry_run (a := a) (p := w) (k := .main) (by trivial)).trans
      (State.grantMain_run handing_granting (p := w) (a := a)
        (o := ((s.arbitration a .main).head?).elim Origin.operator (·.origin)) (by trivial)))
  exact (rest.mono granting_any).yieldQuiet (freed _)

/-- An expiry taken leaves the timer quiet. -/
theorem State.yieldIfDue_yieldQuiet {s : State} {a : Ant} (rule : s.YieldByRule a) : (s.yieldIfDue a).yieldQuiet a := by
  unfold State.yieldIfDue
  split
  · next due =>
    rw [State.yieldDue] at due
    cases timer : s.alloc[a].yieldT with
    | running h w n since =>
      obtain ⟨holder, head, -, -⟩ := rule.2.1 h w n since timer
      rw [State.yieldExpire, holder, head]
      dsimp only
      split
      · exact s.preempt_yieldQuiet a h w
      · exact State.expire_yieldQuiet timer .ineligible
    | stopped | holding h w n => rw [timer] at due; cases due
  · next due => exact ⟨rule, by simpa using due⟩

/-- A write of the yield time leaves every timer as ruled and below the yield time (R85). -/
theorem State.allocYieldTime_yieldQuiet (s : State) (a : Ant) : s.allocYieldTime.yieldQuiet a :=
  have run (b : Ant) (t : State) := (t.yieldIfDue_run b).mono granting_any
  (State.each_gives (inv := fun t => ∀ a, t.YieldByRule a) (P := fun a t => t.yieldQuiet a) allAnts
    (fun a t => t.yieldIfDue a) (fun b t rule c => (run b t).byRule (rule c))
    (fun b _ rule => State.yieldIfDue_yieldQuiet (rule b)) (fun b _ t _ quiet => (run b t).yieldQuiet quiet)
    s.redetermineAll_byRule).2 a (mem_allAnts a)

/-! ## The station settings -/

theorem State.allocYieldTime_run (s : State) : BookRun granting s s.allocYieldTime :=
  s.redetermineAll_run.trans (BookRun.each allAnts _ fun a t _ _ => t.yieldIfDue_run a)

theorem AllocFrame.waitDue {s t : State} (h : AllocFrame s t) (e : WaitEntry) : t.waitDue e = s.waitDue e := by
  rw [State.waitDue, State.waitDue, h.cfg, h.now]

/-- No entry of an antenna's queue has reached the wait limit. -/
def State.waitQuiet (s : State) (a : Ant) : Prop := ∀ e ∈ s.alloc[a].queue, s.waitDue e = false

theorem BookRun.waitQuiet {s t : State} (h : BookRun granting s t) {a : Ant} (quiet : s.waitQuiet a) : t.waitQuiet a :=
  fun e he => ((h.frame granting_any).waitDue e).trans (quiet e (h.queue_subset a e he))

theorem State.expireWaits_run (s : State) (a : Ant) : BookRun granting s (s.expireWaits a) :=
  BookRun.each _ _ fun _ _ _ _ => State.expire_run (fun hx => handing_granting (listening_handing hx)) (by trivial) _

theorem State.expireWaits_waitQuiet (s : State) (a : Ant) : (s.expireWaits a).waitQuiet a := by
  have left := State.each_expires (s := s) (a := a) (xs := s.alloc[a].queue.filter s.waitDue)
    (f := fun e t => t.expire a e.pos e.kind .wait) (bad := fun _ => true) (fun _ => .wait) fun _ _ _ _ =>
      (if_pos rfl).symm
  intro e he
  obtain ⟨mem, notDue⟩ := left e he
  rw [((s.expireWaits_run a).frame granting_any).waitDue]
  cases due : s.waitDue e with
  | false => rfl
  | true => exact absurd (notDue (List.mem_filter.mpr ⟨mem, due⟩)) nofun

/-- A write of the wait limit leaves no entry that has reached it (R75). -/
theorem State.allocWaitLimit_waitQuiet (s : State) (a : Ant) : s.allocWaitLimit.waitQuiet a :=
  (State.each_gives (inv := fun _ => True) (P := fun a t => t.waitQuiet a) allAnts (fun a t => t.expireWaits a)
    (fun _ _ _ => trivial) (fun a t _ => t.expireWaits_waitQuiet a)
    (fun b _ t _ quiet => (t.expireWaits_run b).waitQuiet quiet) trivial).2 a (mem_allAnts a)

/-- The two effects of changed station settings. -/
theorem State.stationChanged_taken {u : State} {x v : StationSettings} (hv : u.cfg.station = v) :
    (v.waitLimit ≠ x.waitLimit → ∀ a, (u.stationChanged x v).waitQuiet a) ∧
      (v.yieldTime ≠ x.yieldTime → ∀ a, (u.stationChanged x v).yieldDue a = false ∧
        (v.yieldTime = 0 → (u.stationChanged x v).alloc[a].yieldT = .stopped)) := by
  refine ⟨fun changed a => ?_, fun changed a => ?_⟩
  · rw [State.stationChanged, State.onChange_of (b := x.waitLimit != v.waitLimit) (bne_iff_ne.mpr changed.symm)]
    exact State.onChange_keeps (P := fun t => t.waitQuiet a) _ (State.allocYieldTime_run _).waitQuiet
      (u.allocWaitLimit_waitQuiet a)
  · have cfg : (u.onChange (x.waitLimit != v.waitLimit) State.allocWaitLimit).cfg = u.cfg :=
      State.onChange_keeps (P := fun t => t.cfg = u.cfg) _ (fun _ => u.allocWaitLimit_frame.cfg) rfl
    rw [State.stationChanged, State.onChange_of (b := x.yieldTime != v.yieldTime) (bne_iff_ne.mpr changed.symm)]
    generalize u.onChange (x.waitLimit != v.waitLimit) State.allocWaitLimit = w at cfg
    obtain ⟨⟨⟨counts, -⟩, -, -⟩, notDue⟩ := w.allocYieldTime_yieldQuiet a
    refine ⟨notDue, fun zero => ?_⟩
    by_contra going
    refine (counts going).1 ?_
    rw [w.allocYieldTime_frame.cfg, cfg, hv]
    exact zero

end Sys2Proof.Machine
end

section
/-! SUPPORT. What a change of a sequencer setting keeps: the yield timers as ruled, and the selected filter (R70, R78, R113,
R124, R125, R131). -/

namespace Sys2Proof.Machine

/-! ## The yield timers at the leaving of TAIL (R70, R78) -/

/-- A sequencer state entered leaves the timers ruled that no report of its position concerns. -/
theorem State.enter_byRule_or_concerns {s : State} {a : Ant} (rule : s.YieldByRule a) (p : Pos) (q : SeqState) :
    (s.enter p q).YieldByRule a ∨ (s.enter p q).yieldConcerns p a = true := by
  cases concerns : s.yieldConcerns p a with
  | true => exact .inr concerns
  | false =>
    obtain ⟨holder, head⟩ : s.alloc[a].holder ≠ some p ∧ s.headWaiter a ≠ some p := by
      simpa [State.yieldConcerns] using concerns
    obtain ⟨counts, runs, holds⟩ := rule
    have other {h w : Pos} (eh : s.alloc[a].holder = some h) (ew : s.headWaiter a = some w) :
        (s.enter p q).inSpan h = s.inSpan h ∧ (s.enter p q).inSpan w = s.inSpan w :=
      ⟨s.enter_inSpan_ne q fun e => holder (e ▸ eh), s.enter_inSpan_ne q fun e => head (e ▸ ew)⟩
    refine .inl ⟨counts, fun h w n since e => ?_, fun h w n e => ?_⟩
    · obtain ⟨eh, ew, outH, outW⟩ := runs h w n since e
      obtain ⟨sameH, sameW⟩ := other eh ew
      exact ⟨eh, ew, sameH.trans outH, sameW.trans outW⟩
    · obtain ⟨eh, ew, inside⟩ := holds h w n e
      obtain ⟨sameH, sameW⟩ := other eh ew
      refine ⟨eh, ew, ?_⟩
      rw [sameH, sameW]
      exact inside

/-- The leaving of TAIL re-determines the timers that it concerns, so that all are ruled after it. -/
theorem State.allocLeaving_byRule {s : State} {p : Pos} (out : s.inSpan p = false)
    (h : ∀ a, s.YieldByRule a ∨ s.yieldConcerns p a = true) (a : Ant) : (s.allocLeaving p).YieldByRule a := by
  have main := State.tailSlotWork_run out .main
  have outside := ((main.frame id).inSpan p).trans out
  have work := (main.trans (State.tailSlotWork_run outside .listen)).trans
    ((State.tailHandOver_run _ p).mono handing_any)
  let f (a : Ant) (t : State) : State := if t.yieldConcerns p a then (t.redetermine a).yieldIfDue a else t
  have expires (a : Ant) (t : State) : BookRun anyAct (t.redetermine a) ((t.redetermine a).yieldIfDue a) :=
    (State.yieldIfDue_run _ a).mono granting_any
  have run (a : Ant) (t : State) : BookRun anyAct t (f a t) := by
    dsimp only [f]
    split
    · exact (BookRun.one (x := .redetermine a) (by trivial)).trans (expires a t)
    · exact .refl
  have give (a : Ant) (t : State) (rest : ∀ a, t.YieldByRule a ∨ t.yieldConcerns p a = true) : (f a t).YieldByRule a := by
    dsimp only [f]
    split
    · exact (expires a t).byRule (t.redetermine_byRule a)
    · next still => exact (rest a).resolve_right still
  exact (State.each_gives (inv := fun t => ∀ a, t.YieldByRule a ∨ t.yieldConcerns p a = true)
    (P := fun a t => t.YieldByRule a) allAnts f (fun b t rest c => (run b t).byRule_or_concerns (rest c)) give
    (fun b _ t _ rule => (run b t).byRule rule) fun b => work.byRule_or_concerns (h b)).2 a (mem_allAnts a)

/-- The rule of a timer reads allocation, the configuration and the key spans alone. -/
theorem State.byRule_of_alloc {s t : State} {a : Ant} (rule : s.YieldByRule a) (alloc : t.alloc = s.alloc)
    (cfg : t.cfg = s.cfg) (span : ∀ p, t.inSpan p = s.inSpan p) : t.YieldByRule a :=
  (YieldSame.of_alloc (by rw [alloc])).byRule cfg span rule

theorem State.leaving_byRule {s : State} {p : Pos} (out : s.inSpan p = false)
    (h : ∀ a, s.YieldByRule a ∨ s.yieldConcerns p a = true) (a : Ant) : (s.leaving p).YieldByRule a := by
  have left := State.allocLeaving_byRule (s := s.setSpan p none) out h a
  unfold State.leaving
  generalize (s.setSpan p none).allocLeaving p = t at left ⊢
  obtain ⟨d, hd⟩ := t.beginPending_drv p
  rw [hd, State.recomputeBlank_eq]
  exact left

/-- The end of a key span leaves every timer ruled. -/
theorem State.endSpan_byRule {s : State} (rule : ∀ a, s.YieldByRule a) (p : Pos) (c : EndCause) (kt : Nat) {q : SeqState}
    (out : q.inSpan = false) (a : Ant) : (s.endSpan p c kt q).YieldByRule a :=
  ((s.endSpan_grow p c kt q).same.run (c := anyAct) fun hx => handing_any (listening_handing hx)).byRule
    (State.leaving_byRule (by rw [State.inSpan, State.enter_seq, out]) (fun b => (s.enter_byRule_or_concerns (rule b) p q)) a)

/-! ## The selected filter (R113, R114) -/

theorem State.beginPending_selected (s : State) (p : Pos) :
    (s.beginPending p).drv.filters[p].selected = s.drv.filters[p].selected := by
  unfold State.beginPending
  split
  · exact (congrArg FilterState.selected (upd_get_same s.drv.filters p
      { s.drv.filters[p] with commanded := s.drv.filters[p].selected, sw := .switching s.now })).trans rfl
  · rfl

/-- The end of a key span leaves the selection of the filter. -/
theorem State.endSpan_selected (s : State) (p : Pos) (c : EndCause) (kt : Nat) (q : SeqState) :
    (s.endSpan p c kt q).drv.filters[p].selected = s.drv.filters[p].selected := by
  have frame := ((s.enter p q).setSpan p none).allocLeaving_frame p
  rw [(s.endSpan_grow p c kt q).frame.drv]
  unfold State.leaving
  generalize ((s.enter p q).setSpan p none).allocLeaving p = t at frame ⊢
  rw [State.recomputeBlank_eq]
  exact (t.beginPending_selected p).trans (by rw [frame.drv]; rfl)

/-- The filter selected for a position is that of R113. -/
def State.filterRight (s : State) (p : Pos) : Prop := s.drv.filters[p].selected = s.selectedFilter p

theorem State.filterRight_of_same {s t : State} {p : Pos} (h : s.filterRight p)
    (selected : t.drv.filters[p].selected = s.drv.filters[p].selected) (cfg : t.cfg = s.cfg) (bands : t.bands = s.bands)
    (parked : t.isParked p = s.isParked p) : t.filterRight p := by
  rw [State.filterRight, selected, State.selectedFilter, State.bandOf, bands, cfg, parked]
  exact h

theorem State.reselect_filterRight (s : State) (p : Pos) : (s.reselect p).filterRight p := by
  obtain ⟨f, e, selected, -⟩ := s.reselect_eq p
  rw [e]
  exact (congrArg FilterState.selected (upd_get_same _ _ _)).trans selected

theorem State.isParked_of_inSpan {s : State} {p : Pos} (h : s.inSpan p = true) : s.isParked p = false := by
  rw [Bool.eq_false_iff, Ne, State.isParked_iff]
  intro e
  rw [State.inSpan, e] at h
  cases h

/-! ## The settings of a sequencer (R131) -/

/-- What the entry to KEYED, the entry to TAIL and the end of TAIL keep, a change of a sequencer setting keeps. -/
theorem State.seqSettings_keeps {Q : State → Prop} {p : Pos} (settle : ∀ t, Q t → Q (t.trySettle p))
    (tail : ∀ t c pend kt since, t.inSpan p = true → Q t → Q (t.enter p (.tail c pend kt since)))
    (ends : ∀ t c kt pend, t.inSpan p = true → Q t → Q (t.endSpan p c kt (t.afterTail p pend)))
    {s : State} (hs : Q s) : Q (s.seqSettings p) := by
  cases h : s.seqs[p] with
  | settling since =>
    rw [show s.seqSettings p = s.trySettle p by simp only [State.seqSettings, h]]
    exact settle s hs
  | keyed since =>
    rw [show s.seqSettings p = s.keyLimit p by simp only [State.seqSettings, h], State.keyLimit, h]
    dsimp only
    have inside : s.inSpan p = true := by rw [State.inSpan, h]; rfl
    split
    · have entered := tail s .timeout none (s.keyTime p) s.now inside hs
      unfold State.enterTail
      dsimp only
      split
      · exact ends _ _ _ _ (by rw [State.inSpan, State.enter_seq]; rfl) entered
      · exact entered
    · exact hs
  | tail c pend kt since =>
    rw [show s.seqSettings p = s.tailLimit p by simp only [State.seqSettings, h], State.tailLimit, h]
    dsimp only
    split
    · exact ends s _ _ _ (by rw [State.inSpan, h]; rfl) hs
    · exact hs
  | idle | denied | lockout c | parked =>
    rw [show s.seqSettings p = s by simp only [State.seqSettings, h]]
    exact hs

theorem State.seqSettings_byRule {s : State} (rule : ∀ a, s.YieldByRule a) (p : Pos) :
    ∀ a, (s.seqSettings p).YieldByRule a := by
  refine State.seqSettings_keeps (Q := fun t => ∀ a, t.YieldByRule a) (fun t ht a => ?_) (fun t c pend kt since inside ht a => ?_)
    (fun t c kt pend _ ht => t.endSpan_byRule ht p c kt (t.afterTail_inSpan p pend)) rule
  · exact State.byRule_of_alloc (ht a) (t.trySettle_alloc p) (t.trySettle_frame p).cfg (t.trySettle_frame p).inSpan
  · refine State.byRule_of_alloc (ht a) rfl rfl fun r => ?_
    by_cases e : r = p
    · rw [e, inside, State.inSpan, State.enter_seq]
      rfl
    · exact t.enter_inSpan_ne _ e

theorem State.seqSettings_filterRight {s : State} {p : Pos} (h : s.filterRight p) : (s.seqSettings p).filterRight p := by
  refine State.seqSettings_keeps (Q := (State.filterRight · p)) (fun t ht => ?_) (fun t c pend kt since inside ht => ?_)
    (fun t c kt pend inside ht => ?_) h
  · refine State.filterRight_of_same ht (by rw [(t.trySettle_frame p).drv]) (t.trySettle_frame p).cfg
      (t.trySettle_frame p).bands ((t.trySettle_frame p).isParked p)
  · refine State.filterRight_of_same ht rfl rfl rfl ?_
    rw [State.isParked_of_inSpan inside, State.isParked_of_inSpan]
    rw [State.inSpan, State.enter_seq]
    rfl
  · have quiet := t.endSpan_quiet p c kt (t.afterTail p pend)
    refine State.filterRight_of_same ht (t.endSpan_selected p c kt _) quiet.cfg quiet.bands ?_
    rw [State.isParked_of_inSpan inside, Bool.eq_false_iff, Ne, State.isParked_iff]
    have ended : ∀ n, t.afterTail p pend ≠ .settling n := by
      rcases t.afterTail_cases p pend with e | e | ⟨_, e⟩ <;> rw [e] <;> exact fun _ => nofun
    rw [(t.endSpan_leftSpan p c kt ended).seq, State.enter_seq]
    rcases t.afterTail_cases p pend with e | e | ⟨_, e⟩ <;> rw [e] <;> nofun

end Sys2Proof.Machine
end

section
/-! SUPPORT. What a write of position settings has done (R8, R25, R79, R113, R130, R131), and accepted writes of every item
(R177, R178). -/

namespace Sys2Proof.Machine

/-! ## The segment dwell (R25) -/

/-- No dwell of the position has run out. -/
def State.dwellQuiet (s : State) (p : Pos) : Prop := ∀ side, s.dwellDue p side = false

theorem State.dwellQuiet_of_same {s t : State} {p : Pos} (h : s.dwellQuiet p) (bands : t.bands[p] = s.bands[p])
    (cfg : t.cfg = s.cfg) (now : t.now = s.now) : t.dwellQuiet p := by
  intro side
  rw [State.dwellDue, bands, cfg, now]
  exact h side

/-- A dwell ended is not due, and the other side's stays as it is. -/
theorem State.dwellEnd_due (s : State) (p : Pos) (side other : Side) :
    (s.dwellEnd p side).dwellDue p other = (decide (other ≠ side) && s.dwellDue p other) := by
  by_cases due : s.dwellDue p side = true
  · obtain ⟨frame, unit⟩ := s.settleSide_eq p side
    rw [State.dwellEnd, if_pos due, State.dwellDue, unit, frame.cfg, frame.rest.now]
    cases side <;> cases other <;> rfl
  · rw [State.dwellEnd, if_neg due]
    by_cases e : other = side
    · rw [e, Bool.eq_false_iff.mpr due, Bool.and_false]
    · simp [e]

theorem State.newDwell_dwellQuiet (s : State) (p : Pos) : (s.newDwell p).dwellQuiet p := by
  intro side
  rw [State.newDwell, State.dwellEnd_due, State.dwellEnd_due]
  cases side <;> rfl

/-- Parking puts the band unit into its reset state (R29). -/
theorem State.park_bands (s : State) (p : Pos) : (s.park p).bands[p] = BandUnit.initial := by
  have quiet := (s.parkBlocks p).reselect_quiet p
  have frame := (s.setBandUnit p BandUnit.initial).allocPark_frame p
  rw [State.park_eq, quiet.bands, State.parkBlocks]
  generalize (s.setBandUnit p BandUnit.initial).allocPark p = t at frame ⊢
  exact (congrArg (fun v : Vector BandUnit 6 => v[p]) frame.bands).trans (upd_get_same _ _ _)

theorem State.unpark_bands (s : State) (p : Pos) : (s.unpark p).bands = s.bands := by
  let t := (s.setLines p s.sam.pos[p].afresh).enter p .idle
  exact (t.recomputeBlank.reselect_quiet p).bands.trans t.recomputeBlank_quiet.bands

theorem State.modeChanged_dwellQuiet {s : State} {p : Pos} (h : s.dwellQuiet p) (x y : PosSettings) :
    (s.modeChanged p x y).dwellQuiet p := by
  refine State.onChange_keeps (P := (State.dwellQuiet · p)) _ (fun h => ?_) h
  split
  · intro side
    rw [State.dwellDue, s.park_bands p]
    cases side <;> rfl
  · obtain ⟨-, now, cfg, -⟩ := s.unpark_restKept p
    exact State.dwellQuiet_of_same h (by rw [s.unpark_bands p]) cfg now

theorem State.onChange_quiet (s : State) (b : Bool) {f : State → State} (h : ∀ t, QuietFrame t (f t)) :
    QuietFrame s (s.onChange b f) := State.onChange_keeps (P := QuietFrame s) b (fun hs => hs.trans (h s)) (.refl s)

theorem State.posRest_quiet (s : State) (p : Pos) (x y : PosSettings) : QuietFrame s (s.posRest p x y) :=
  ((s.onChange_quiet _ fun t => t.redetermineAll_frame.quiet).trans
    (State.onChange_quiet _ _ fun t => t.reselect_quiet p)).trans
    (State.onChange_quiet _ _ fun t => t.seqSettings_quiet p)

/-! ## Un-parking (R8, R130) -/

/-- A position un-parked stands in IDLE with its lines taken afresh (R8, R118, R130). -/
structure UnparkedAt (s : State) (p : Pos) : Prop where
  seq : s.seqs[p] = .idle
  ptt : s.sam.pos[p].ptt = Line.fresh
  rfs : s.sam.pos[p].rfs = Line.fresh
  code : s.sam.pos[p].code = none
  candidate : s.sam.pos[p].candidate = none
  key : s.outs[p].key = false
  amp : s.outs[p].amp = false
  inh : s.outs[p].inh = true

/-- A selection of the filter leaves everything but the filter (R113). -/
theorem State.reselect_unparkedAt {s : State} {p : Pos} (h : UnparkedAt s p) (q : Pos) : UnparkedAt (s.reselect q) p := by
  obtain ⟨f, e, -⟩ := s.reselect_eq q
  rw [e]
  exact ⟨h.seq, h.ptt, h.rfs, h.code, h.candidate, h.key, h.amp, h.inh⟩

theorem State.unpark_unparkedAt (s : State) (p : Pos) : UnparkedAt (s.unpark p) p := by
  let t := (s.setLines p s.sam.pos[p].afresh).enter p .idle
  have sam : t.sam.pos[p] = s.sam.pos[p].afresh := upd_get_same _ _ _
  have out : t.outs[p] = SeqState.idle.outputs s.outs[p] := State.enter_out _ p _
  refine State.reselect_unparkedAt (s := t.recomputeBlank) ?_ p
  obtain ⟨b, outs⟩ := t.recomputeBlank_outs p
  have lines : t.recomputeBlank.sam.pos[p] = s.sam.pos[p].afresh := by rw [t.recomputeBlank_quiet.sam, sam]
  have seq : t.recomputeBlank.seqs[p] = .idle := by
    rw [State.recomputeBlank_eq]
    exact State.enter_seq _ p _
  rw [out] at outs
  exact ⟨seq, by rw [lines]; rfl, by rw [lines]; rfl, by rw [lines]; rfl, by rw [lines]; rfl, by rw [outs]; rfl,
    by rw [outs]; rfl, by rw [outs]; rfl⟩

/-- The effects after the mode leave a position in IDLE and its lines. -/
theorem State.posRest_unparkedAt {s : State} {p : Pos} (h : UnparkedAt s p) (x y : PosSettings) :
    UnparkedAt (s.posRest p x y) p := by
  have redetermined (t : State) (ht : UnparkedAt t p) : UnparkedAt t.redetermineAll p := by
    have frame := t.redetermineAll_frame
    obtain ⟨seq, outs⟩ := frame.seq_kept (p := p) fun n => by rw [ht.seq]; nofun
    refine ⟨seq.trans ht.seq, ?_, ?_, ?_, ?_, by rw [outs]; exact ht.key, by rw [outs]; exact ht.amp,
      by rw [outs]; exact ht.inh⟩ <;> rw [frame.sam]
    exacts [ht.ptt, ht.rfs, ht.code, ht.candidate]
  have settings (t : State) (ht : UnparkedAt t p) : UnparkedAt (t.seqSettings p) p := by
    have still : t.seqSettings p = t := by simp only [State.seqSettings, ht.seq]
    rwa [still]
  have cls := State.onChange_keeps (P := (UnparkedAt · p)) (x.cls != y.cls) (redetermined s) h
  have filter := State.onChange_keeps (P := (UnparkedAt · p)) (x.filterThru != y.filterThru || x.installed != y.installed)
    (f := fun t => t.reselect p) (fun ht => State.reselect_unparkedAt ht p) cls
  exact State.onChange_keeps (P := (UnparkedAt · p)) _ (settings _) filter

/-! ## The class (R79) and the filter (R113) -/

theorem State.reselect_byRule {s : State} (rule : ∀ a, s.YieldByRule a) (p : Pos) (a : Ant) : (s.reselect p).YieldByRule a := by
  obtain ⟨f, e, -⟩ := s.reselect_eq p
  rw [e]
  exact rule a

theorem State.posRest_byRule {s : State} {p : Pos} {x y : PosSettings} (changed : y.cls ≠ x.cls) (a : Ant) :
    (s.posRest p x y).YieldByRule a := by
  let Q (t : State) : Prop := ∀ a, t.YieldByRule a
  have cls : Q (s.onChange (x.cls != y.cls) State.redetermineAll) := by
    rw [State.onChange_of (bne_iff_ne.mpr changed.symm)]
    exact s.redetermineAll_byRule
  have filter := State.onChange_keeps (P := Q) (x.filterThru != y.filterThru || x.installed != y.installed)
    (f := fun t => t.reselect p) (fun ht => State.reselect_byRule ht p) cls
  exact State.onChange_keeps (P := Q) _ (fun ht => State.seqSettings_byRule ht p) filter a

theorem State.posRest_filterRight {s : State} {p : Pos} {x y : PosSettings}
    (changed : y.filterThru ≠ x.filterThru ∨ y.installed ≠ x.installed) : (s.posRest p x y).filterRight p := by
  refine State.onChange_keeps (P := (State.filterRight · p)) _ State.seqSettings_filterRight ?_
  rw [State.onChange_of (by
    simp only [Bool.or_eq_true, bne_iff_ne]
    exact changed.imp Ne.symm Ne.symm)]
  exact State.reselect_filterRight _ p

/-! ## The sequencer's settings (R131) -/

/-- The timers that run act on the settings as they now are. -/
theorem State.seqSettings_timers (s : State) (p : Pos) : TimersTaken s (s.seqSettings p) p s.cfg.pos[p] := by
  refine ⟨fun since h => ?_, fun since h => ?_, fun c pend n since h => ?_⟩
  · rw [show s.seqSettings p = s.trySettle p by simp only [State.seqSettings, h], State.trySettle, State.settleReached, h]
    dsimp only
    have met : (decide (since + s.cfg.pos[p].ampSettle ≤ s.now) && s.settleCond p) = true ↔
        since + s.cfg.pos[p].ampSettle ≤ s.now ∧ s.settleCond p = true := by rw [Bool.and_eq_true, decide_eq_true_iff]
    by_cases both : since + s.cfg.pos[p].ampSettle ≤ s.now ∧ s.settleCond p = true
    · rw [if_pos (met.mpr both), State.enter_seq]
      exact (if_pos both).symm
    · rw [if_neg fun h => both (met.mp h), if_neg both, h]
  · have limit : s.seqSettings p =
        if since + s.cfg.pos[p].keyLimit * 1000 ≤ s.now then s.enterTail p .timeout none else s := by
      simp only [State.seqSettings, State.keyLimit, h]
    have time : s.keyTime p = s.now - since := by rw [State.keyTime, h]
    refine ⟨fun early => ?_, fun reached tail => ?_, fun reached tail => ?_⟩
    · rw [limit, if_neg (by omega), h]
    · rw [limit, if_pos reached, State.enterTail_stays tail, State.enter_seq, time]
    · rw [limit, if_pos reached, (State.enterTail_ends tail _ _).inSpan, State.inSpan, State.enter_seq,
        State.afterTail_inSpan]
  · have limit : s.seqSettings p = if since + s.cfg.pos[p].tail ≤ s.now then s.endTail p c pend n else s := by
      simp only [State.seqSettings, State.tailLimit, h]
    refine ⟨fun early => ?_, fun reached => ?_⟩
    · rw [limit, if_neg (by omega)]
    · have ended : ∀ m, s.afterTail p pend ≠ .settling m := by
        rcases s.afterTail_cases p pend with e | e | ⟨_, e⟩ <;> rw [e] <;> exact fun _ => nofun
      rw [limit, if_pos reached, State.endTail, (s.endSpan_leftSpan p _ n ended).inSpan, State.inSpan, State.enter_seq,
        State.afterTail_inSpan]

/-! ## Position settings (R178) -/

/-- A dwell that ends in key span marks its slot, so every sequencer stays (R96). -/
theorem State.dwellEnd_seqs {s : State} {p : Pos} (inside : s.inSpan p = true) (side : Side) :
    (s.dwellEnd p side).seqs = s.seqs := by
  rcases s.dwellEnd_eq p side with e | ⟨-, e⟩ <;> rw [e]
  rw [State.settleSide, State.allocSegmentChange_inSpan (by exact inside)]
  rfl

theorem State.newDwell_seqs {s : State} {p : Pos} (inside : s.inSpan p = true) : (s.newDwell p).seqs = s.seqs :=
  (State.dwellEnd_seqs (((s.dwellEnd_unitFrame p .tx).inSpan p).trans inside) .rx).trans (s.dwellEnd_seqs inside .tx)

theorem State.redetermineAll_seqs (s : State) : s.redetermineAll.seqs = s.seqs :=
  State.each_same State.seqs allAnts (fun a t => t.redetermine a) (fun _ _ => rfl) s

theorem State.reselect_seqs (s : State) (p : Pos) : (s.reselect p).seqs = s.seqs := by
  obtain ⟨f, e, -⟩ := s.reselect_eq p
  rw [e]

/-- The timers that run act on the new settings, where class and filter may change too (log entry 28). -/
theorem State.posRest_timers {s : State} {p : Pos} {x y : PosSettings}
    (changed : y.ampSettle ≠ x.ampSettle ∨ y.tail ≠ x.tail ∨ y.keyLimit ≠ x.keyLimit) :
    TimersTaken s (s.posRest p x y) p s.cfg.pos[p] := by
  let same (t : State) : Prop := t.seqs = s.seqs ∧ t.now = s.now ∧ t.cfg = s.cfg
  let w := (s.onChange (x.cls != y.cls) State.redetermineAll).onChange
    (x.filterThru != y.filterThru || x.installed != y.installed) fun t => t.reselect p
  have kept : same w := State.onChange_keeps (P := same) _
    (fun ⟨seqs, now, cfg⟩ => ⟨(State.reselect_seqs _ p).trans seqs, (State.reselect_quiet _ p).now.trans now,
      (State.reselect_quiet _ p).cfg.trans cfg⟩)
    (State.onChange_keeps (P := same) _ (fun _ => ⟨s.redetermineAll_seqs, s.redetermineAll_frame.now,
      s.redetermineAll_frame.cfg⟩) ⟨rfl, rfl, rfl⟩)
  have result : s.posRest p x y = w.seqSettings p := State.onChange_of (by
    simp only [Bool.or_eq_true, bne_iff_ne]
    exact changed.elim (fun h => .inl (.inl h.symm)) fun h => h.elim (fun h => .inl (.inr h.symm)) fun h => .inr h.symm) _
  have timers := w.seqSettings_timers p
  obtain ⟨seqs, now, cfg⟩ := kept
  rw [← result] at timers
  simpa only [TimersTaken, seqs, now, cfg] using timers

/-- Outside key span no timer of a sequencer runs. -/
theorem timersTaken_of_outside {s t : State} {p : Pos} (out : s.inSpan p = false) (v : PosSettings) :
    TimersTaken s t p v := by
  refine ⟨fun _ h => ?_, fun _ h => ?_, fun _ _ _ _ h => ?_⟩ <;> rw [State.inSpan, h] at out <;> cases out

/-- The effects of changed position settings, each read at its end. -/
theorem State.posChanged_taken {s u : State} {p : Pos} {v : PosSettings} (hv : u.cfg.pos[p] = v) (seqs : u.seqs = s.seqs)
    (now : u.now = s.now) : SettingsTaken s (u.posChanged p s.cfg.pos[p] v) p v := by
  let x := s.cfg.pos[p]
  let d := u.onChange (x.dwell != v.dwell) fun t => t.newDwell p
  let m := d.modeChanged p x v
  have result : u.posChanged p s.cfg.pos[p] v = m.posRest p x v := rfl
  obtain ⟨-, -, cfg, -⟩ := u.deliver_restKept s.cfg (.pos p v)
  replace cfg : (m.posRest p x v).cfg = u.cfg := cfg
  rw [result]
  refine ⟨fun changed => ?_, fun parked active => ?_, fun changed _ => State.posRest_byRule changed, fun changed => ?_,
    fun mode changed => ?_⟩
  · have dwells : d.dwellQuiet p := by
      rw [show d = u.newDwell p from State.onChange_of (bne_iff_ne.mpr changed.symm) _]
      exact u.newDwell_dwellQuiet p
    have rest := m.posRest_quiet p x v
    exact State.dwellQuiet_of_same (State.modeChanged_dwellQuiet dwells x v) (by rw [rest.bands]) rest.cfg rest.now
  · have unparked : m = d.unpark p := by
      rw [show m = if v.parked then d.park p else d.unpark p from
        State.onChange_of (by rw [show x.parked = true from parked, active]; rfl) _, active]
      rfl
    have idle := State.posRest_unparkedAt (unparked ▸ d.unpark_unparkedAt p) x v
    exact ⟨idle.seq, idle.ptt, idle.rfs, idle.code, idle.candidate, idle.key, idle.amp, idle.inh⟩
  · have right : (m.posRest p x v).drv.filters[p].selected = (m.posRest p x v).selectedFilter p :=
      State.posRest_filterRight changed
    rw [right, State.selectedFilter, cfg, hv]
    cases (m.posRest p x v).bandOf p with
    | none => rfl
    | some b => simp [and_assoc]
  · have still : m = d := State.onChange_not (by rw [mode]; exact bne_self_eq_false' _) _
    cases inside : s.inSpan p with
    | false => exact timersTaken_of_outside inside v
    | true =>
      have inside' : u.inSpan p = true := by rw [State.inSpan, seqs]; exact inside
      have kept : d.seqs = u.seqs ∧ d.now = u.now ∧ d.cfg = u.cfg :=
        State.onChange_keeps (P := fun t => t.seqs = u.seqs ∧ t.now = u.now ∧ t.cfg = u.cfg) _
          (fun _ => ⟨State.newDwell_seqs inside', (u.newDwell_unitFrame p).rest.now, (u.newDwell_unitFrame p).cfg⟩)
          ⟨rfl, rfl, rfl⟩
      obtain ⟨dSeqs, dNow, dCfg⟩ := kept
      have timers := d.posRest_timers (p := p) (x := x) (y := v) changed
      rw [still]
      simpa only [TimersTaken, dSeqs, dNow, dCfg, seqs, now, hv] using timers

/-! ## Accepted writes (R177, R178, R183) -/

/-- The item put into a configuration is what it then holds in its place. -/
theorem WriteTaken.of_deliver {s u : State} {x : Item} (cfg : u.cfg = s.cfg.put x) (seqs : u.seqs = s.seqs)
    (now : u.now = s.now) : WriteTaken s (u.deliver s.cfg x) x := by
  have holds : u.cfg.holds x = true := by rw [cfg]; exact s.cfg.put_holds x
  cases x with
  | antenna a v => exact State.antennaChanged_taken (by simpa [Cfg.holds] using holds)
  | mapEntry b g v => exact fun changed => u.mapChanged_taken changed
  | pos p v => exact State.posChanged_taken (by simpa [Cfg.holds] using holds) seqs now
  | band b v => exact u.bandChanged_taken b s.cfg.bands[b] v
  | station v => exact State.stationChanged_taken (by simpa [Cfg.holds] using holds)
  | pref _ _ _ _ | rule _ _ | divisor _ _ => trivial

/-- A write whose fields are those held has nothing to deliver. -/
theorem WriteTaken.of_holds {s : State} {x : Item} (h : s.cfg.holds x = true) (t : State) : WriteTaken s t x := by
  cases x with
  | antenna a v =>
    obtain rfl : s.cfg.ants[a] = v := by simpa [Cfg.holds] using h
    refine ⟨fun some zero => absurd zero some, fun raised => absurd raised (Nat.lt_irrefl _), fun changed => absurd rfl changed,
      fun changed => ?_⟩
    simp at changed
  | mapEntry b g v =>
    obtain rfl : s.cfg.segMap[b][g] = v := by simpa [Cfg.holds] using h
    exact fun changed => by simp at changed
  | pos p v =>
    obtain rfl : s.cfg.pos[p] = v := by simpa [Cfg.holds] using h
    refine ⟨fun changed => absurd rfl changed, fun parked active => ?_, fun changed => absurd rfl changed,
      fun changed => ?_, fun _ changed => ?_⟩
    · rw [parked] at active; cases active
    · simp at changed
    · simp at changed
  | band b v =>
    obtain rfl : s.cfg.bands[b] = v := by simpa [Cfg.holds] using h
    exact ⟨fun changed => absurd rfl changed, fun changed => by simp at changed⟩
  | station v =>
    obtain rfl : s.cfg.station = v := by simpa [Cfg.holds] using h
    exact ⟨fun changed => absurd rfl changed, fun changed => absurd rfl changed⟩
  | pref _ _ _ _ | rule _ _ | divisor _ _ => trivial

/-- Settles O48: a write of what is held only answers (`WriteTaken.of_holds`), and any other is taken by the blocks that
read what it changed (`WriteTaken.of_deliver`). -/
theorem acceptedWriteReplacesItem : Obligations.AcceptedWriteReplacesItem := by
  intro s w x clamped hs he hc hv ht hu
  have written := exec_write hs he hc hv ht hu
  let a := s.onlyAnswers stationLink 17 (writeResult clamped)
  refine ⟨_, written, ?_⟩
  cases held : s.cfg.holds x with
  | true =>
    have same : s.cfg.put x = s.cfg := Cfg.put_of_holds held
    rw [if_pos rfl, same]
    have unchanged : decide (a.cfg ≠ s.cfg) = false := decide_eq_false fun changed => changed rfl
    refine ⟨(RestKept.refl a).answered rfl, rfl, held, ?_, rfl, fun _ => rfl, .of_holds held a⟩
    rw [unchanged, Bool.or_false]
    rfl
  | false =>
    have kept := (a.written x).deliver_restKept a.cfg x
    have changed : s.cfg.put x ≠ s.cfg := by
      intro e
      have holds := s.cfg.put_holds x
      rw [e, held] at holds
      cases holds
    rw [if_neg (by simp), State.applyWrite_eq]
    have answered : Answered s ((a.written x).deliver a.cfg x) stationLink 17 (writeResult clamped) := kept.answered rfl
    obtain ⟨-, now, cfg, store, -⟩ := kept
    have cfg' : ((a.written x).deliver a.cfg x).cfg = s.cfg.put x := cfg
    refine ⟨answered, cfg', by rw [cfg']; exact s.cfg.put_holds x, ?_, now, nofun,
      .of_deliver (s := s) rfl rfl rfl⟩
    rw [cfg', decide_eq_true changed, Bool.or_true]
    exact store

end Sys2Proof.Machine
end

section
/-! SUPPORT. The two books of the allocation unit as a value (R48 to R51), what each act on the books makes of it, and
which acts keep the books in agreement. -/

namespace Sys2Proof.Machine

/-! ## The books as a value -/

/-- What the two books say of who holds what and who awaits what. -/
@[ext] structure Books where
  held : Pos → Slot → Option Ant
  pend : Pos → Slot → Option Ant
  holder : Ant → Option Pos
  listeners : Ant → List Pos
  waits : Ant → List (Pos × Slot)

def State.books (s : State) : Books where
  held := s.heldAnt
  pend p k := s.hold[p].pend k
  holder a := s.alloc[a].holder
  listeners a := s.alloc[a].listeners
  waits a := s.alloc[a].queue.map fun e => (e.pos, e.kind)

/-- The two books agree under share capacities. -/
structure Books.Agree (B : Books) (capacity : Ant → Nat) : Prop where
  mains : ∀ p a, B.holder a = some p ↔ B.held p .main = some a
  listens : ∀ p a, p ∈ B.listeners a ↔ B.held p .listen = some a
  listensOnce : ∀ a, (B.listeners a).Nodup
  awaits : ∀ p a k, (p, k) ∈ B.waits a ↔ B.pend p k = some a
  awaitsOnce : ∀ a, (B.waits a).Nodup
  unheld : ∀ p a k, B.pend p k = some a → B.held p k ≠ some a
  slots : ∀ p a, B.held p .main = some a → B.held p .listen ≠ some a
  pends : ∀ p a, B.pend p .main = some a → B.pend p .listen ≠ some a
  own : ∀ p a, B.held p .main = some a → B.pend p .listen ≠ some a
  shares : ∀ a, (B.listeners a).length ≤ capacity a

theorem State.waitsOn_iff_waits (s : State) (p : Pos) (k : Slot) (a : Ant) :
    s.waitsOn p k a = true ↔ (p, k) ∈ s.books.waits a := by
  rw [State.waitsOn_iff]
  simp [State.books]

/-- That the listener lists leave out the main holder follows from the two slots of a position being apart. -/
theorem State.booksAgree_iff (s : State) : s.BooksAgree ↔ s.books.Agree fun a => s.cfg.ants[a].capacity := by
  constructor
  · rintro ⟨mains, ⟨listens, once⟩, ⟨waits, waitsOnce, unheld⟩, ⟨slots, pends, own, -⟩, shares⟩
    exact ⟨mains, listens, once, fun p a k => (s.waitsOn_iff_waits p k a).symm.trans (waits p a k), waitsOnce, unheld,
      slots, pends, own, shares⟩
  · intro h
    exact ⟨h.mains, ⟨h.listens, h.listensOnce⟩,
      ⟨fun p a k => (s.waitsOn_iff_waits p k a).trans (h.awaits p a k), h.awaitsOnce, h.unheld⟩,
      ⟨h.slots, h.pends, h.own,
        fun p a holds lists => h.slots p a ((h.mains p a).mp holds) ((h.listens p a).mp lists)⟩, h.shares⟩

/-! ## Acts on the books as a value -/

/-- The books after an act. -/
def BookAct.on (x : BookAct) (B : Books) : Books :=
  match x with
  | .main p a _ =>
    { B with
      held := fun q k => if p = q ∧ k = .main then some a else B.held q k
      holder := fun b => if a = b then some p else B.holder b }
  | .listen p a _ =>
    { B with
      held := fun q k => if p = q ∧ k = .listen then some a else B.held q k
      listeners := fun b => if a = b then B.listeners b ++ [p] else B.listeners b }
  | .drop p k' => { B with held := fun q k => if p = q ∧ k = k' then none else B.held q k }
  | .free a => { B with holder := fun b => if a = b then none else B.holder b }
  | .leave p a => { B with listeners := fun b => if a = b then (B.listeners b).filter (· != p) else B.listeners b }
  | .append a p k' _ =>
    { B with
      pend := fun q k => if p = q ∧ k = k' then some a else B.pend q k
      waits := fun b => if a = b then B.waits b ++ [(p, k')] else B.waits b }
  | .remove a p k' =>
    { B with
      pend := fun q k => if p = q ∧ k = k' then none else B.pend q k
      waits := fun b => if a = b then (B.waits b).filter (· != (p, k')) else B.waits b }
  | .still _ | .mark _ _ _ | .redetermine _ => B

/-- The main holder of an antenna after an act. -/
def BookAct.holder (s : State) (x : BookAct) (b : Ant) : Option Pos :=
  match x with
  | .main p a _ => if a = b then some p else s.alloc[b].holder
  | .free a => if a = b then none else s.alloc[b].holder
  | _ => s.alloc[b].holder

theorem BookAct.apply_holder {s : State} {x : BookAct} (h : anyAct s x) (b : Ant) :
    (x.apply s).alloc[b].holder = x.holder s b := by
  have plain (t : State) (a : Ant) (y : AllocRecord) : (t.setAlloc a y).alloc[b] = if a = b then y else t.alloc[b] :=
    upd_get _ _ _ _
  cases x with
  | still t => rw [BookAct.apply, h.alloc]; rfl
  | main p a o =>
    rw [BookAct.apply, State.bookMain, State.redetermine_get]
    by_cases e : a = b <;> simp [e, BookAct.holder]
  | free a =>
    rw [BookAct.apply, State.unbookHolder, State.redetermine_get]
    by_cases e : a = b <;> simp [e, BookAct.holder]
  | listen p a o =>
    rw [BookAct.apply, State.bookListen, plain]
    by_cases e : a = b <;> simp [e, BookAct.holder]
  | leave p a =>
    rw [BookAct.apply, State.leaveList, plain]
    by_cases e : a = b <;> simp [e, BookAct.holder]
  | append a p k o =>
    rw [BookAct.apply, State.appendEntry, State.redetermine_get]
    by_cases e : a = b <;> simp [e, BookAct.holder]
  | remove a p k =>
    rw [BookAct.apply, State.removeEntry, State.redetermine_get]
    by_cases e : a = b <;> simp [e, BookAct.holder]
  | redetermine a =>
    rw [BookAct.apply, State.redetermine, plain]
    by_cases e : a = b <;> simp [e, BookAct.holder]
  | drop _ _ | mark _ _ _ => rfl

theorem BookAct.apply_books {s : State} {x : BookAct} (h : anyAct s x) : (x.apply s).books = x.on s.books := by
  ext1
  case held =>
    funext q k
    refine (BookAct.apply_heldAnt h q k).trans ?_
    cases x <;> rfl
  case pend =>
    funext q k
    refine (BookAct.apply_pend h q k).trans ?_
    cases x <;> rfl
  case holder =>
    funext b
    refine (BookAct.apply_holder h b).trans ?_
    cases x <;> rfl
  case listeners =>
    funext b
    refine (BookAct.apply_queue h b).2.trans ?_
    cases x <;> rfl
  case waits =>
    funext b
    refine (congrArg (List.map fun e : WaitEntry => (e.pos, e.kind)) (BookAct.apply_queue h b).1).trans ?_
    cases x with
    | append a p k o =>
      simp only [BookAct.queue, BookAct.on, State.books]
      split
      · exact List.map_append
      · rfl
    | remove a p k =>
      simp only [BookAct.queue, BookAct.on, State.books]
      split
      · rw [List.filter_map]
        rfl
      · rfl
    | _ => rfl

theorem SameBooks.books {s t : State} (h : SameBooks s t) : t.books = s.books :=
  BookAct.apply_books (x := .still t) (s := s) h

/-! ## What keeps the books in agreement -/

/-- A slot of a position emptied in both books. -/
def Books.vacate (B : Books) (p : Pos) (k : Slot) : Books :=
  { B with
    held := fun q j => if p = q ∧ j = k then none else B.held q j
    holder := fun b => if k = .main ∧ B.held p .main = some b then none else B.holder b
    listeners := fun b =>
      if k = .listen ∧ B.held p .listen = some b then (B.listeners b).filter (· != p) else B.listeners b }

/-- A pending request of a position removed from both books. -/
def Books.forget (B : Books) (p : Pos) (k : Slot) : Books :=
  { B with
    pend := fun q j => if p = q ∧ j = k then none else B.pend q j
    waits := fun b => if B.pend p k = some b then (B.waits b).filter (· != (p, k)) else B.waits b }

namespace Books.Agree

variable {B : Books} {capacity : Ant → Nat}

theorem vacate (h : B.Agree capacity) (p : Pos) (k : Slot) : (B.vacate p k).Agree capacity where
  mains q a := by grind [Books.vacate, h.mains q a, h.mains p a]
  listens q a := by grind [Books.vacate, h.listens q a]
  listensOnce a := by grind [Books.vacate, h.listensOnce a]
  awaits := h.awaits
  awaitsOnce := h.awaitsOnce
  unheld q a j := by grind [Books.vacate, h.unheld q a j]
  slots q a := by grind [Books.vacate, h.slots q a]
  pends := h.pends
  own q a := by
    have before := h.own q a
    grind [Books.vacate]
  shares a := by grind [Books.vacate, h.shares a, List.length_filter_le (· != p) (B.listeners a)]

theorem forget (h : B.Agree capacity) (p : Pos) (k : Slot) : (B.forget p k).Agree capacity where
  mains := h.mains
  listens := h.listens
  listensOnce := h.listensOnce
  awaits q a j := by grind [Books.forget, h.awaits q a j]
  awaitsOnce a := by grind [Books.forget, h.awaitsOnce a]
  unheld q a j := by
    have before := h.unheld q a j
    grind [Books.forget]
  slots := h.slots
  pends q a := by grind [Books.forget, h.pends q a]
  own q a := by grind [Books.forget, h.own q a]
  shares := h.shares

/-- A free antenna is granted to a position whose main slot is empty. -/
theorem main (h : B.Agree capacity) {p : Pos} {a : Ant} (o : Origin) (empty : B.held p .main = none)
    (free : B.holder a = none) (apart : B.held p .listen ≠ some a) (forgotten : ∀ k, B.pend p k ≠ some a) :
    ((BookAct.main p a o).on B).Agree capacity where
  mains q b := by grind [BookAct.on, h.mains q b, h.mains p b]
  listens q b := by grind [BookAct.on, h.listens q b]
  listensOnce := h.listensOnce
  awaits := h.awaits
  awaitsOnce := h.awaitsOnce
  unheld q b j := by
    have before := h.unheld q b j
    grind [BookAct.on]
  slots q b := by grind [BookAct.on, h.slots q b]
  pends := h.pends
  own q b := by
    have before := h.own q b
    grind [BookAct.on]
  shares := h.shares

/-- A listen slot of an antenna with room is granted to a position whose listen slot is empty. -/
theorem listen (h : B.Agree capacity) {p : Pos} {a : Ant} (o : Origin) (empty : B.held p .listen = none)
    (room : (B.listeners a).length < capacity a) (apart : B.held p .main ≠ some a)
    (forgotten : B.pend p .listen ≠ some a) : ((BookAct.listen p a o).on B).Agree capacity where
  mains q b := by grind [BookAct.on, h.mains q b]
  listens q b := by grind [BookAct.on, h.listens q b]
  listensOnce b := by grind [BookAct.on, h.listensOnce b, h.listens p b]
  awaits := h.awaits
  awaitsOnce := h.awaitsOnce
  unheld q b j := by grind [BookAct.on, h.unheld q b j]
  slots q b := by grind [BookAct.on, h.slots q b]
  pends := h.pends
  own q b := by
    have before := h.own q b
    grind [BookAct.on]
  shares b := by grind [BookAct.on, h.shares b]

/-- A position that awaits nothing in a slot comes to await an antenna that it neither holds there nor awaits in the
other slot, and not to listen on its own main. -/
theorem append (h : B.Agree capacity) {p : Pos} {k : Slot} {a : Ant} (o : Origin) (empty : B.pend p k = none)
    (other : ∀ j, B.pend p j ≠ some a) (unheld : B.held p k ≠ some a)
    (own : k = .listen → B.held p .main ≠ some a) : ((BookAct.append a p k o).on B).Agree capacity where
  mains := h.mains
  listens := h.listens
  listensOnce := h.listensOnce
  awaits q b j := by grind [BookAct.on, h.awaits q b j]
  awaitsOnce b := by grind [BookAct.on, h.awaitsOnce b, h.awaits p b k]
  unheld q b j := by
    have before := h.unheld q b j
    grind [BookAct.on]
  slots := h.slots
  pends q b := by grind [BookAct.on, h.pends q b]
  own q b := by grind [BookAct.on, h.own q b]
  shares := h.shares

end Books.Agree

/-- An entry removed is the pending request of its slot forgotten. -/
theorem Books.forget_eq_remove {B : Books} {p : Pos} {k : Slot} {a : Ant} (h : B.pend p k = some a) :
    B.forget p k = (BookAct.remove a p k).on B := by
  simp [Books.forget, BookAct.on, h]

theorem Books.forget_of_none {B : Books} {p : Pos} {k : Slot} (h : B.pend p k = none) : B.forget p k = B := by
  ext1
  case pend =>
    funext q j
    simp only [Books.forget]
    split
    · next e => rw [← e.1, e.2, h]
    · rfl
  case waits => simp [Books.forget, h]
  all_goals rfl

/-! ## The books of the operations of allocation -/

theorem State.removePending_books (s : State) (p : Pos) (k : Slot) :
    (s.removePending p k).books = s.books.forget p k := by
  unfold State.removePending
  split
  · next h => exact (Books.forget_of_none h).symm
  · next a h => exact (BookAct.apply_books (x := .remove a p k) trivial).trans (Books.forget_eq_remove h).symm

theorem State.expire_books {s : State} {p : Pos} {k : Slot} {a : Ant} (h : s.hold[p].pend k = some a) (c : Cause) :
    (s.expire a p k c).books = s.books.forget p k := by
  rw [State.expire, (State.notify_grow _ p _).same.books, Books.forget_eq_remove h]
  exact BookAct.apply_books (x := .remove a p k) trivial

/-- The books of a release (R64). -/
theorem State.unbookMain_books {s : State} {p : Pos} {a : Ant} (h : s.heldAnt p .main = some a) :
    (s.unbookMain p a).books = s.books.vacate p .main := by
  have dropped := BookAct.apply_books (s := s) (x := .drop p .main) trivial
  refine (BookAct.apply_books (x := .free a) trivial).trans ((congrArg _ dropped).trans ?_)
  have held : s.books.held p .main = some a := h
  simp [Books.vacate, BookAct.on, held]

/-- The books of a release (R65). -/
theorem State.unbookListen_books {s : State} {p : Pos} {a : Ant} (h : s.heldAnt p .listen = some a) :
    (s.unbookListen p a).books = s.books.vacate p .listen := by
  have dropped := BookAct.apply_books (s := s) (x := .drop p .listen) trivial
  refine (BookAct.apply_books (x := .leave p a) trivial).trans ((congrArg _ dropped).trans ?_)
  have held : s.books.held p .listen = some a := h
  simp [Books.vacate, BookAct.on, held]

/-! ## The books of a grant (R56, R60) -/

/-- The books once a position has given up what a grant of a slot replaces: the holding of the slot and its pending
request, and with a main the listen on its antenna, held or pending. -/
def Books.cleared (B : Books) (p : Pos) (k : Slot) (a : Ant) : Books :=
  let C := if k = .main ∧ B.held p .listen = some a then B.vacate p .listen else B
  let D := (C.vacate p k).forget p k
  if k = .main ∧ B.pend p .listen = some a then D.forget p .listen else D

theorem Books.cleared_held (B : Books) (p : Pos) (k : Slot) (a : Ant) (j : Slot) :
    (B.cleared p k a).held p j =
      if j = k ∨ (k = .main ∧ j = .listen ∧ B.held p .listen = some a) then none else B.held p j := by
  unfold Books.cleared
  dsimp only
  split <;> split <;> simp only [Books.vacate, Books.forget] <;> grind

theorem Books.cleared_pend (B : Books) (p : Pos) (k : Slot) (a : Ant) (j : Slot) :
    (B.cleared p k a).pend p j =
      if j = k ∨ (k = .main ∧ j = .listen ∧ B.pend p .listen = some a) then none else B.pend p j := by
  unfold Books.cleared
  dsimp only
  split <;> split <;> simp only [Books.vacate, Books.forget] <;> grind

theorem Books.cleared_holder {B : Books} {b : Ant} (h : B.holder b = none) (p : Pos) (k : Slot) (a : Ant) :
    (B.cleared p k a).holder b = none := by
  unfold Books.cleared
  dsimp only
  split <;> split <;> simp [Books.vacate, Books.forget, h]

theorem Books.Agree.cleared {B : Books} {capacity : Ant → Nat} (h : B.Agree capacity) (p : Pos) (k : Slot) (a : Ant) :
    (B.cleared p k a).Agree capacity := by
  have taken : (if k = .main ∧ B.held p .listen = some a then B.vacate p .listen else B).Agree capacity := by
    split
    · exact h.vacate p .listen
    · exact h
  have given := (taken.vacate p k).forget p k
  unfold Books.cleared
  dsimp only
  split
  · exact given.forget p .listen
  · exact given

/-- A main booked before a listen on its antenna is taken up comes to the same as a main booked after. -/
theorem Books.main_takeUp {B : Books} {p : Pos} {a : Ant} (o : Origin) (h : B.held p .listen = some a) :
    (BookAct.leave p a).on ((BookAct.drop p .listen).on ((BookAct.main p a o).on B)) =
      (BookAct.main p a o).on (B.vacate p .listen) := by
  ext1
  case held =>
    funext q k
    simp only [Books.vacate, BookAct.on]
    grind
  all_goals simp [Books.vacate, BookAct.on, h]

/-- A main booked before the antenna it replaces is free comes to the same as a main booked after. -/
theorem Books.main_replaces {B : Books} {p : Pos} {a : Ant} (o : Origin) (h : B.held p .main ≠ some a) :
    { (BookAct.main p a o).on B with
      holder := fun b => if B.held p .main = some b then none else ((BookAct.main p a o).on B).holder b } =
      (BookAct.main p a o).on (B.vacate p .main) := by
  ext1
  case held =>
    funext q k
    simp only [Books.vacate, BookAct.on]
    grind
  case holder =>
    funext b
    simp only [Books.vacate, BookAct.on]
    grind
  all_goals simp [Books.vacate, BookAct.on]

/-- A listen booked before the list of the antenna it replaces is left comes to the same as a listen booked after. -/
theorem Books.listen_replaces {B : Books} {p : Pos} {a : Ant} (o : Origin) (h : B.held p .listen ≠ some a) :
    { (BookAct.listen p a o).on B with
      listeners := fun b =>
        if B.held p .listen = some b then (((BookAct.listen p a o).on B).listeners b).filter (· != p)
        else ((BookAct.listen p a o).on B).listeners b } =
      (BookAct.listen p a o).on (B.vacate p .listen) := by
  ext1
  case held =>
    funext q k
    simp only [Books.vacate, BookAct.on]
    grind
  case listeners =>
    funext b
    simp only [Books.vacate, BookAct.on]
    grind
  all_goals simp [Books.vacate, BookAct.on]

theorem State.unbookOldMain_books (s : State) (p : Pos) (old : Option Ant) :
    (s.unbookOld p .main old).books =
      { s.books with holder := fun b => if old = some b then none else s.books.holder b } := by
  cases old with
  | none => simp [State.unbookOld]
  | some m =>
    refine (BookAct.apply_books (x := .free m) trivial).trans ?_
    simp [BookAct.on]

theorem State.unbookOldListen_books (s : State) (p : Pos) (old : Option Ant) :
    (s.unbookOld p .listen old).books = { s.books with
      listeners := fun b => if old = some b then (s.books.listeners b).filter (· != p) else s.books.listeners b } := by
  cases old with
  | none => simp [State.unbookOld]
  | some m =>
    refine (BookAct.apply_books (x := .leave p m) trivial).trans ?_
    simp [BookAct.on]

/-- The books of a main booked and its antenna's listen taken up (R56, steps 1 and 2). -/
theorem State.bookMain_takeUpListen_books {s : State} {p : Pos} {a : Ant} (o : Origin) {b : Bool}
    (h : b = true ↔ s.heldAnt p .listen = some a) : ((s.bookMain p a o).takeUpListen p a b).books =
      (BookAct.main p a o).on (if s.books.held p .listen = some a then s.books.vacate p .listen else s.books) := by
  have booked : (s.bookMain p a o).books = (BookAct.main p a o).on s.books :=
    BookAct.apply_books (x := .main p a o) trivial
  change b = true ↔ s.books.held p .listen = some a at h
  cases b with
  | false => rw [if_neg (by simpa using h)]; exact booked
  | true =>
    have listens := h.mp rfl
    rw [if_pos listens, ← Books.main_takeUp o listens, ← booked]
    exact (BookAct.apply_books (x := .leave p a) trivial).trans
      (congrArg _ (BookAct.apply_books (x := .drop p .listen) trivial))

/-- A grant books its antenna before it clears what it replaces, and comes to the books of the other order. -/
theorem State.grantMainBooks_books {s : State} (h : s.BooksAgree) {p : Pos} {a : Ant} (free : s.alloc[a].holder = none)
    (o : Origin) : (s.grantMainBooks p a o).books = (BookAct.main p a o).on (s.books.cleared p .main a) := by
  have agree := s.booksAgree_iff.mp h
  have listening : s.alloc[a].listeners.contains p = true ↔ s.heldAnt p .listen = some a :=
    List.contains_iff_mem.trans (agree.listens p a)
  have other : s.books.held p .main ≠ some a := fun e => by
    have held := (agree.mains p a).mpr e
    rw [show s.books.holder a = none from free] at held
    cases held
  have up := State.bookMain_takeUpListen_books o listening
  unfold State.grantMainBooks Books.cleared
  simp only [true_and]
  generalize hC : (if s.books.held p .listen = some a then s.books.vacate p .listen else s.books) = C at up ⊢
  have same : C.held p .main = s.heldAnt p .main ∧ C.pend = s.books.pend := by
    rw [← hC]
    split
    · exact ⟨by simp [Books.vacate, State.books], rfl⟩
    · exact ⟨rfl, rfl⟩
  generalize ht : State.removePending _ p .main = t
  have books : t.books = (BookAct.main p a o).on ((C.vacate p .main).forget p .main) := by
    rw [← ht, State.removePending_books, State.unbookOldMain_books, up, ← same.1,
      Books.main_replaces o (by rw [same.1]; exact other)]
    rfl
  have pend : t.hold[p].pendListen = s.books.pend p .listen := by
    refine (congrArg (fun B : Books => B.pend p .listen) books).trans ?_
    simp [Books.forget, Books.vacate, BookAct.on, same.2]
  rw [(State.handChangeSet_same _ p _).books, pend]
  split
  · next e =>
    rw [beq_iff_eq] at e
    rw [if_pos e, State.expire_books (show t.hold[p].pend .listen = some a from pend.trans e), books]
    rfl
  · next e => rw [if_neg (by simpa using e), books]

theorem State.grantListenBooks_books {s : State} {p : Pos} {a : Ant} (other : s.heldAnt p .listen ≠ some a)
    (o : Origin) : (s.grantListenBooks p a o).books = (BookAct.listen p a o).on (s.books.cleared p .listen a) := by
  have booked : (s.bookListen p a o).books = (BookAct.listen p a o).on s.books :=
    BookAct.apply_books (x := .listen p a o) trivial
  rw [State.grantListenBooks, (State.handChangeSet_same _ p _).books, State.removePending_books,
    State.unbookOldListen_books, booked, show s.heldAnt p .listen = s.books.held p .listen from rfl,
    Books.listen_replaces o other]
  rfl

/-- A main grant of a free antenna keeps the books in agreement (R56). -/
theorem State.grantMainBooks_agree {s : State} (h : s.BooksAgree) {p : Pos} {a : Ant} (free : s.alloc[a].holder = none)
    (o : Origin) : (s.grantMainBooks p a o).books.Agree fun b => s.cfg.ants[b].capacity := by
  rw [State.grantMainBooks_books h free]
  refine ((s.booksAgree_iff.mp h).cleared p .main a).main o ?_ (Books.cleared_holder free p .main a) ?_ fun k => ?_
  · simp [Books.cleared_held]
  · rw [Books.cleared_held]
    grind
  · rw [Books.cleared_pend]
    cases k with
    | main => simp
    | listen => grind

/-- A listen grant of an antenna with room keeps the books in agreement (R60). -/
theorem State.grantListenBooks_agree {s : State} (h : s.BooksAgree) {p : Pos} {a : Ant}
    (room : s.hasListenRoom a = true)
    (other : s.heldAnt p .listen ≠ some a) (own : s.heldAnt p .main ≠ some a) (o : Origin) :
    (s.grantListenBooks p a o).books.Agree fun b => s.cfg.ants[b].capacity := by
  rw [State.grantListenBooks_books other]
  change s.books.held p .main ≠ some a at own
  refine ((s.booksAgree_iff.mp h).cleared p .listen a).listen o ?_ ?_ ?_ ?_
  · simp [Books.cleared_held]
  · have fits : (s.books.listeners a).length < s.cfg.ants[a].capacity := of_decide_eq_true room
    change s.books.held p .listen ≠ some a at other
    simpa [Books.cleared, Books.vacate, Books.forget, other] using fits
  · simpa [Books.cleared_held] using own
  · simp [Books.cleared_pend]

end Sys2Proof.Machine
end

section
/-! SUPPORT. What allocation keeps in order (O58, O59): the two books, the pending list and the working configuration,
through every operation of Books, PendingList, Allocation and Follow. -/

namespace Sys2Proof.Machine

/-! ## What every step keeps -/

/-- From `s` to `t` the two books stay in agreement, the pending list stays in order, and the configuration stays one
that writes can make. -/
structure OrderKept (s t : State) : Prop where
  books : s.BooksAgree → t.BooksAgree
  list : s.ListOrder → t.ListOrder
  cfg : s.CfgValid → t.CfgValid

namespace OrderKept

variable {s t u : State}

theorem refl (s : State) : OrderKept s s := ⟨id, id, id⟩

theorem trans (h : OrderKept s t) (k : OrderKept t u) : OrderKept s u :=
  ⟨fun b => k.books (h.books b), fun l => k.list (h.list l), fun c => k.cfg (h.cfg c)⟩

/-- After `h` a change of the books alone, that keeps them in agreement where they were so in `s`. -/
theorem books_change (h : OrderKept s t) (drv : u.drv = t.drv) (cfg : u.cfg = t.cfg)
    (books : s.BooksAgree → t.books.Agree (fun a => t.cfg.ants[a].capacity) →
      u.books.Agree fun a => t.cfg.ants[a].capacity) : OrderKept s u where
  books hs := u.booksAgree_iff.mpr (by rw [cfg]; exact books hs (t.booksAgree_iff.mp (h.books hs)))
  list hs := by rw [State.ListOrder, drv]; exact h.list hs
  cfg hs := by rw [State.CfgValid, cfg]; exact h.cfg hs

/-- A change that shows in none of the three. -/
theorem of_same (books : t.books = s.books) (cfg : t.cfg = s.cfg) (list : t.drv.list = s.drv.list)
    (inProg : t.drv.inProg = s.drv.inProg) : OrderKept s t where
  books h := t.booksAgree_iff.mpr (by rw [books, cfg]; exact s.booksAgree_iff.mp h)
  list h := by rwa [State.ListOrder, list, inProg]
  cfg h := by rwa [State.CfgValid, cfg]

theorem each {α : Type} (xs : List α) (f : α → State → State) (h : ∀ x t, OrderKept t (f x t)) (s : State) :
    OrderKept s (s.each xs f) := State.each_rel OrderKept .refl (fun a b => a.trans b) xs f h s

end OrderKept

theorem LinksGrow.kept {s t : State} (h : LinksGrow s t) : OrderKept s t :=
  .of_same h.same.books h.frame.cfg (by rw [h.eq]) (by rw [h.eq])

theorem State.notify_kept (s : State) (p : Pos) (n : Notice) : OrderKept s (s.notify p n) := (s.notify_grow p n).kept

theorem State.enter_kept (s : State) (p : Pos) (q : SeqState) : OrderKept s (s.enter p q) := .of_same rfl rfl rfl rfl

theorem State.trySettle_kept (s : State) (p : Pos) : OrderKept s (s.trySettle p) := by
  rcases s.trySettle_cases p with h | ⟨_, _, _, _, h⟩ <;> rw [h]
  · exact .refl s
  · exact s.enter_kept p _

/-! ## Switch states of holdings -/

theorem State.moveHolding_same (s : State) (p : Pos) (k : Slot) (a : Ant) (x y : SwitchState) :
    SameBooks s (s.moveHolding p k a x y) :=
  ⟨s.moveHolding_frame p k a x y, s.moveHolding_alloc p k a x y, fun _ =>
    (s.moveHolding_keeps (v := HoldRecord.blind) p k a x y fun _ => HoldRecord.blind_switchBlind k).hold⟩

theorem State.moveHolding_kept (s : State) (p : Pos) (k : Slot) (a : Ant) (x y : SwitchState) :
    OrderKept s (s.moveHolding p k a x y) := by
  have same := s.moveHolding_same p k a x y
  have drv : (s.moveHolding p k a x y).drv = s.drv := by
    unfold State.moveHolding
    split
    · split <;> rfl
    · rfl
  exact .of_same same.books same.frame.cfg (by rw [drv]) (by rw [drv])

theorem State.moveServed_kept (s : State) (p : Pos) (t : Target) (x y : SwitchState) :
    OrderKept s (s.moveServed p t x y) := by
  unfold State.moveServed
  split
  · exact s.moveHolding_kept p _ _ _ _
  · exact .refl s

theorem State.completeHolding_kept (s : State) (p : Pos) (k : Slot) (a : Ant) (x : SwitchState) :
    OrderKept s (s.completeHolding p k a x) := by
  unfold State.completeHolding
  split
  · next c _ =>
    split
    · have told := (s.moveHolding_kept p k a x .set).trans (State.notify_kept _ p (.granted k a c.origin))
      cases k with
      | main => exact told.trans (State.trySettle_kept _ p)
      | listen => exact told
    · exact .refl s
  · exact .refl s

/-! ## The pending list (R103) -/

/-- At most one entry for each position, none of them empty, with one target for a crosspoint (R103). -/
def EntriesOk (xs : List PendEntry) : Prop :=
  (xs.map (·.pos)).Nodup ∧ ∀ e ∈ xs, e.targets ≠ [] ∧ (e.targets.map (·.ant)).Nodup

/-- At most two change sets, of two positions, each with one target for a crosspoint (R104). -/
def SetsOk (cs : List ChangeSet) : Prop :=
  cs.length ≤ 2 ∧ (cs.map (·.pos)).Nodup ∧ ∀ c ∈ cs, (c.targets.map (·.ant)).Nodup

theorem State.listOrder_iff (s : State) : s.ListOrder ↔ EntriesOk s.drv.list ∧ SetsOk s.drv.inProg := by
  simp [State.ListOrder, EntriesOk, SetsOk, and_assoc]

theorem State.setList_kept (s : State) {xs : List PendEntry} (h : EntriesOk s.drv.list → EntriesOk xs) :
    OrderKept s (s.setList xs) where
  books := id
  list order := by
    rw [State.listOrder_iff] at order ⊢
    exact ⟨h order.1, order.2⟩
  cfg := id

/-- The change sets in progress are replaced after `h`. -/
theorem State.setProgress_kept {s t : State} (h : OrderKept s t) {cs : List ChangeSet}
    (ok : s.ListOrder → SetsOk t.drv.inProg → SetsOk cs) : OrderKept s (t.setProgress cs) where
  books := h.books
  list order := by
    have before := t.listOrder_iff.mp (h.list order)
    exact (State.listOrder_iff _).mpr ⟨before.1, ok order before.2⟩
  cfg := h.cfg

/-- A target put into a list replaces that of its antenna, or is one for an antenna that has none. -/
theorem putTarget_nodup {ts : List Target} (h : (ts.map (·.ant)).Nodup) (t : Target) :
    putTarget ts t ≠ [] ∧ ((putTarget ts t).map (·.ant)).Nodup := by
  unfold putTarget
  split
  · next has =>
    have ants : (ts.map fun x => if x.ant == t.ant then t else x).map (·.ant) = ts.map (·.ant) := by
      rw [List.map_map]
      refine List.map_congr_left fun x _ => ?_
      simp only [Function.comp_apply]
      split
      · next e => exact (beq_iff_eq.mp e).symm
      · rfl
    refine ⟨fun empty => ?_, ants ▸ h⟩
    obtain ⟨x, hx, -⟩ := List.any_eq_true.mp has
    exact List.ne_nil_of_mem hx (List.map_eq_nil_iff.mp empty)
  · next new =>
    refine ⟨by simp, ?_⟩
    rw [List.map_append, List.map_singleton, List.nodup_append]
    refine ⟨h, by simp, fun a ha b hb e => new ?_⟩
    obtain ⟨x, hx, rfl⟩ := List.mem_map.mp ha
    rw [List.mem_singleton] at hb
    exact List.any_eq_true.mpr ⟨x, hx, beq_iff_eq.mpr (e.trans hb)⟩

theorem EntriesOk.put {xs : List PendEntry} (h : EntriesOk xs) (p : Pos) (t : Target) :
    EntriesOk (if xs.any fun e => e.pos == p then
      xs.map fun e => if e.pos == p then { e with targets := putTarget e.targets t } else e
    else xs ++ [⟨p, [t]⟩]) := by
  obtain ⟨once, entries⟩ := h
  split
  · refine ⟨?_, fun e he => ?_⟩
    · have pos : (xs.map fun e => if e.pos == p then { e with targets := putTarget e.targets t } else e).map (·.pos) =
          xs.map (·.pos) := by
        rw [List.map_map]
        refine List.map_congr_left fun e _ => ?_
        simp only [Function.comp_apply]
        split <;> rfl
      exact pos ▸ once
    · obtain ⟨f, hf, rfl⟩ := List.mem_map.mp he
      split
      · exact putTarget_nodup (entries f hf).2 t
      · exact entries f hf
  · next new =>
    refine ⟨?_, fun e he => ?_⟩
    · rw [List.map_append, List.map_singleton, List.nodup_append]
      refine ⟨once, by simp, fun q hq r hr same => new ?_⟩
      obtain ⟨e, he, rfl⟩ := List.mem_map.mp hq
      rw [List.mem_singleton] at hr
      exact List.any_eq_true.mpr ⟨e, he, beq_iff_eq.mpr (same.trans hr)⟩
    · rcases List.mem_append.mp he with he | he
      · exact entries e he
      · rw [List.mem_singleton.mp he]
        simp

theorem EntriesOk.drop {xs : List PendEntry} (h : EntriesOk xs) (f : PendEntry → Target → Bool) :
    EntriesOk (dropTargets xs f) := by
  obtain ⟨once, entries⟩ := h
  refine ⟨?_, fun e he => ?_⟩
  · refine List.Nodup.sublist (List.Sublist.map _ List.filter_sublist) ?_
    rw [List.map_map]
    exact once
  · obtain ⟨he, some⟩ := List.mem_filter.mp he
    obtain ⟨g, hg, rfl⟩ := List.mem_map.mp he
    exact ⟨by simpa using some, (entries g hg).2.sublist (List.Sublist.map _ List.filter_sublist)⟩

theorem State.listPut_kept (s : State) (p : Pos) (t : Target) : OrderKept s (s.listPut p t) := by
  have put : s.listPut p t = s.setList (if s.drv.list.any fun e => e.pos == p then
      s.drv.list.map fun e => if e.pos == p then { e with targets := putTarget e.targets t } else e
    else s.drv.list ++ [⟨p, [t]⟩]) := by
    unfold State.listPut
    split <;> rfl
  rw [put]
  exact s.setList_kept fun h => h.put p t

theorem State.listRemove_kept (s : State) (p : Pos) (a : Ant) : OrderKept s (s.listRemove p a) :=
  s.setList_kept fun h => h.drop _

theorem State.reportAlready_kept (s : State) (p : Pos) (t : Target) : OrderKept s (s.reportAlready p t) := by
  unfold State.reportAlready
  split
  · exact .refl s
  · split
    · exact s.moveHolding_kept p _ _ _ _
    · exact s.completeHolding_kept p _ _ _

theorem State.addTargets_kept (s : State) (p : Pos) (ts : List Target) : OrderKept s (s.addTargets p ts) :=
  ((OrderKept.each _ _ (fun x t => t.listPut_kept p x) s).trans
    (OrderKept.each _ (fun (x : Target) t => t.listRemove p x.ant) (fun x t => t.listRemove_kept p x.ant) _)).trans
    (OrderKept.each _ _ (fun x t => t.reportAlready_kept p x) _)

theorem State.handChangeSet_kept (s : State) (p : Pos) (ts : List Target) : OrderKept s (s.handChangeSet p ts) := by
  unfold State.handChangeSet
  split
  · exact .refl s
  · exact s.addTargets_kept p ts

/-! ## Single acts on the books -/

theorem State.redetermine_kept (s : State) (a : Ant) : OrderKept s (s.redetermine a) :=
  .of_same (BookAct.apply_books (x := .redetermine a) trivial) rfl rfl rfl

theorem State.mark_kept (s : State) (p : Pos) (k : Slot) (m : Option Mark) : OrderKept s (s.mark p k m) :=
  .of_same (BookAct.apply_books (x := .mark p k m) trivial) rfl rfl rfl

theorem State.keepFaulted_kept (s : State) (p : Pos) (k : Slot) : OrderKept s (s.keepFaulted p k) := by
  refine .of_same ?_ rfl rfl rfl
  ext1
  case held =>
    funext q j
    exact s.keepFaulted_heldAnt p q k j
  case pend =>
    funext q j
    simp only [State.books, State.keepFaulted, State.setHold_hold, upd_get]
    split
    · next e => rw [HoldRecord.setHolding_pend, e]
    · rfl
  all_goals rfl

/-- An entry that becomes one of origin OPERATOR stays in its place. -/
theorem State.claimEntry_kept (s : State) (a : Ant) (p : Pos) (k : Slot) : OrderKept s (s.claimEntry a p k) := by
  have alloc (b : Ant) : (s.claimEntry a p k).alloc[b] = if a = b then _ else s.alloc[b] := upd_get _ _ _ _
  refine .of_same ?_ rfl rfl rfl
  ext1
  case holder => funext b; simp only [State.books, alloc]; split <;> simp [*]
  case listeners => funext b; simp only [State.books, alloc]; split <;> simp [*]
  case waits =>
    funext b
    simp only [State.books, alloc]
    split
    · next e =>
      subst e
      rw [List.map_map]
      refine List.map_congr_left fun e _ => ?_
      simp only [Function.comp_apply]
      split <;> rfl
    · rfl
  all_goals rfl

/-- A wait entry is removed whose antenna the pending request of its position names. -/
theorem State.removeEntry_kept {s t : State} (h : OrderKept s t) {a : Ant} {p : Pos} {k : Slot}
    (pending : s.BooksAgree → t.hold[p].pend k = some a) : OrderKept s (t.removeEntry a p k) := by
  refine h.books_change rfl rfl fun hs ht => ?_
  rw [show (t.removeEntry a p k).books = _ from BookAct.apply_books (x := .remove a p k) trivial,
    ← Books.forget_eq_remove (pending hs)]
  exact ht.forget p k

theorem State.expire_kept {s t : State} (h : OrderKept s t) {a : Ant} {p : Pos} {k : Slot}
    (pending : s.BooksAgree → t.hold[p].pend k = some a) (c : Cause) : OrderKept s (t.expire a p k c) :=
  (State.removeEntry_kept h pending).trans (State.notify_kept _ p _)

theorem State.removePending_kept (s : State) (p : Pos) (k : Slot) : OrderKept s (s.removePending p k) := by
  unfold State.removePending
  split
  · exact .refl s
  · next a ha => exact State.removeEntry_kept (.refl s) fun _ => ha

/-- An antenna that a position may come to await in a slot: it awaits nothing there and not this antenna in the other
slot, does not hold it there, and does not ask to listen on its own main (R57, R59, R60). -/
structure Books.MayAwait (B : Books) (p : Pos) (k : Slot) (a : Ant) : Prop where
  empty : B.pend p k = none
  other : ∀ j, B.pend p j ≠ some a
  unheld : B.held p k ≠ some a
  own : k = .listen → B.held p .main ≠ some a

theorem State.appendEntry_kept {s t : State} (h : OrderKept s t) {a : Ant} {p : Pos} {k : Slot} (o : Origin)
    (may : s.BooksAgree → t.books.MayAwait p k a) : OrderKept s (t.appendEntry a p k o) := by
  refine h.books_change rfl rfl fun hs ht => ?_
  obtain ⟨empty, other, unheld, own⟩ := may hs
  rw [show (t.appendEntry a p k o).books = _ from BookAct.apply_books (x := .append a p k o) trivial]
  exact ht.append o empty other unheld own

/-! ## Releases (R64, R65) -/

theorem State.notifyOpt_kept (s : State) (p : Pos) (n : Option Notice) : OrderKept s (s.notifyOpt p n) := by
  cases n with
  | none => exact .refl s
  | some x => exact s.notify_kept p x

theorem State.releaseSlot_books {s : State} {p : Pos} {k : Slot} {a : Ant} (h : s.heldAnt p k = some a)
    (n : Option Notice) : (s.releaseSlot p k a n).books = s.books.vacate p k := by
  have told (u : State) : ((u.handChangeSet p [⟨a, .opened⟩]).notifyOpt p n).books = u.books :=
    ((u.handChangeSet_same p _).trans (State.notifyOpt_same _ p n)).books
  cases k with
  | main => exact (told _).trans (State.unbookMain_books h)
  | listen => exact (told _).trans (State.unbookListen_books h)

theorem State.releaseSlot_kept {s t : State} (h : OrderKept s t) {p : Pos} {k : Slot} {a : Ant}
    (held : s.BooksAgree → t.heldAnt p k = some a) (n : Option Notice) : OrderKept s (t.releaseSlot p k a n) := by
  have told (u : State) : OrderKept u ((u.handChangeSet p [⟨a, .opened⟩]).notifyOpt p n) :=
    (u.handChangeSet_kept p _).trans (State.notifyOpt_kept _ p n)
  cases k with
  | main =>
    refine OrderKept.trans (t := t.unbookMain p a) (h.books_change rfl rfl fun hs ht => ?_) (told _)
    rw [State.unbookMain_books (held hs)]
    exact ht.vacate p .main
  | listen =>
    refine OrderKept.trans (t := t.unbookListen p a) (h.books_change rfl rfl fun hs ht => ?_) (told _)
    rw [State.unbookListen_books (held hs)]
    exact ht.vacate p .listen

end Sys2Proof.Machine
end

section
/-! SUPPORT. What grants, hand-overs, preemption, follow and the events of the allocation unit keep in order (O58,
O59). -/

namespace Sys2Proof.Machine

/-! ## Grants (R56, R60) -/

theorem State.removePending_drv (s : State) (p : Pos) (k : Slot) : (s.removePending p k).drv = s.drv := by
  unfold State.removePending
  split <;> rfl

theorem State.unbookOld_drv (s : State) (p : Pos) (k : Slot) (old : Option Ant) :
    (s.unbookOld p k old).drv = s.drv := by
  unfold State.unbookOld
  split
  · rfl
  · split <;> rfl

theorem State.takeUpListen_drv (s : State) (p : Pos) (a : Ant) (b : Bool) : (s.takeUpListen p a b).drv = s.drv := by
  unfold State.takeUpListen
  split <;> rfl

/-- Where only the books have changed, the pending list is in order. -/
theorem State.ListOrder.of_drv {s t : State} (h : s.ListOrder) (drv : t.drv = s.drv) : t.ListOrder := by
  rwa [State.ListOrder, drv]

theorem State.expire_list {s : State} (h : s.ListOrder) (a : Ant) (p : Pos) (k : Slot) (c : Cause) :
    (s.expire a p k c).ListOrder :=
  (State.notify_kept (s.removeEntry a p k) p _).list (h.of_drv rfl)

theorem State.grantMainBooks_list {s : State} (h : s.ListOrder) (p : Pos) (a : Ant) (o : Origin) :
    (s.grantMainBooks p a o).ListOrder := by
  unfold State.grantMainBooks
  refine (State.handChangeSet_kept _ p _).list ?_
  have booked : (((s.bookMain p a o).takeUpListen p a (s.alloc[a].listeners.contains p)).unbookOld p .main
      (s.heldAnt p .main) |>.removePending p .main).ListOrder :=
    h.of_drv (by rw [State.removePending_drv, State.unbookOld_drv, State.takeUpListen_drv]; rfl)
  split
  · exact State.expire_list booked a p .listen _
  · exact booked

theorem State.grantListenBooks_list {s : State} (h : s.ListOrder) (p : Pos) (a : Ant) (o : Origin) :
    (s.grantListenBooks p a o).ListOrder := by
  unfold State.grantListenBooks
  exact (State.handChangeSet_kept _ p _).list (h.of_drv (by rw [State.removePending_drv, State.unbookOld_drv]; rfl))

/-- The books of a main grant of a free antenna (R56). -/
theorem State.grantMainBooks_kept {s t : State} (h : OrderKept s t) {p : Pos} {a : Ant}
    (free : s.BooksAgree → t.alloc[a].holder = none) (o : Origin) : OrderKept s (t.grantMainBooks p a o) := by
  have frame : AllocFrame t (t.grantMainBooks p a o) :=
    (State.grantMainBooks_run (c := anyAct) handing_any trivial).frame id
  refine ⟨fun hs => ?_, fun hs => State.grantMainBooks_list (h.list hs) p a o, fun hs => ?_⟩
  · rw [State.booksAgree_iff, frame.cfg]
    exact State.grantMainBooks_agree (h.books hs) (free hs) o
  · rw [State.CfgValid, frame.cfg]
    exact h.cfg hs

/-- An antenna of which a position may be granted a listen slot: it has room, and the position neither listens on it
nor has it as its main (R59, R60). -/
structure State.MayListen (s : State) (p : Pos) (a : Ant) : Prop where
  room : s.hasListenRoom a = true
  other : s.heldAnt p .listen ≠ some a
  own : s.heldAnt p .main ≠ some a

theorem State.grantListenBooks_frame (s : State) (p : Pos) (a : Ant) (o : Origin) :
    AllocFrame s (s.grantListenBooks p a o) := by
  have all : AllocFrame s (State.grantListenWith (fun _ t => t) p a o s) :=
    State.grantListenWith_frame _ (fun _ t => .refl t) p a o s
  rw [State.grantListenWith_eq] at all
  cases h : s.heldAnt p .listen <;> rw [h] at all <;> exact all

/-- The books of a listen grant (R60). -/
theorem State.grantListenBooks_kept {s t : State} (h : OrderKept s t) {p : Pos} {a : Ant}
    (may : s.BooksAgree → t.MayListen p a) (o : Origin) : OrderKept s (t.grantListenBooks p a o) := by
  have frame := t.grantListenBooks_frame p a o
  refine ⟨fun hs => ?_, fun hs => State.grantListenBooks_list (h.list hs) p a o, fun hs => ?_⟩
  · obtain ⟨room, other, own⟩ := may hs
    rw [State.booksAgree_iff, frame.cfg]
    exact State.grantListenBooks_agree (h.books hs) room other own o
  · rw [State.CfgValid, frame.cfg]
    exact h.cfg hs

theorem State.handOld_kept (s : State) {hand : Ant → State → State} (hh : ∀ a t, OrderKept t (hand a t))
    (old : Option Ant) : OrderKept s (s.handOld hand old) := by
  cases old with
  | none => exact .refl s
  | some m => exact hh m s

theorem State.grantListenWith_kept {hand : Ant → State → State} (hh : ∀ a t, OrderKept t (hand a t)) {s t : State}
    (h : OrderKept s t) {p : Pos} {a : Ant} (may : s.BooksAgree → t.MayListen p a) (o : Origin) :
    OrderKept s (State.grantListenWith hand p a o t) :=
  (State.grantListenBooks_kept h may o).trans (State.handOld_kept _ hh _)

/-! ## Hand-overs (R66, R67) -/

/-- The pending request of an entry in arbitration order names its antenna (R50, R51). -/
theorem State.BooksAgree.pend_of_arbitration {s : State} (h : s.BooksAgree) {a : Ant} {k : Slot} {e : WaitEntry}
    (he : e ∈ s.arbitration a k) : s.hold[e.pos].pend k = some a :=
  h.waitsPend e.pos k a (State.waitsOn_of_arbitration he)

theorem State.removeEntry_books (s : State) (a : Ant) (p : Pos) (k : Slot) :
    (s.removeEntry a p k).books = (BookAct.remove a p k).on s.books :=
  BookAct.apply_books (x := .remove a p k) trivial

theorem State.handListenFuel_kept (n : Nat) (a : Ant) (s : State) : OrderKept s (State.handListenFuel n a s) := by
  induction n generalizing a s with
  | zero => exact .refl s
  | succ n ih =>
    rw [State.handListenFuel]
    split
    case isFalse => exact .refl s
    case isTrue room =>
      split
      · exact .refl s
      · next e head =>
        have waits : e ∈ s.arbitration a .listen := List.mem_of_mem_head? head
        have removed : OrderKept s (s.removeEntry a e.pos .listen) :=
          State.removeEntry_kept (.refl s) fun hs => hs.pend_of_arbitration waits
        split
        · next eligible =>
          obtain ⟨-, own⟩ := Bool.and_eq_true_iff.mp eligible
          have books := s.removeEntry_books a e.pos .listen
          refine (State.grantListenWith_kept ih removed (fun hs => ⟨?_, ?_, ?_⟩) e.origin).trans (ih a _)
          · have lists := congrArg (fun B : Books => B.listeners a) books
            exact (congrArg (fun x : List Pos => decide (x.length < s.cfg.ants[a].capacity)) lists).trans room
          · have held := congrArg (fun B : Books => B.held e.pos .listen) books
            exact fun holds => (s.booksAgree_iff.mp hs).unheld e.pos a .listen (hs.pend_of_arbitration waits)
              (held.symm.trans holds)
          · have held := congrArg (fun B : Books => B.held e.pos .main) books
            exact fun holds => by simp [show s.heldAnt e.pos .main = some a from held.symm.trans holds] at own
        · exact (State.expire_kept (.refl s) (fun hs => hs.pend_of_arbitration waits) _).trans (ih a _)

theorem State.handListen_kept (a : Ant) (s : State) : OrderKept s (State.handListen a s) :=
  State.handListenFuel_kept _ a s

theorem State.grantMainWith_kept {hand : Ant → State → State} (hh : ∀ a t, OrderKept t (hand a t)) {s t : State}
    (h : OrderKept s t) {p : Pos} {a : Ant} (free : s.BooksAgree → t.alloc[a].holder = none) (o : Origin) :
    OrderKept s (State.grantMainWith hand p a o t) := by
  have old := (State.grantMainBooks_kept h (p := p) free o).trans (State.handOld_kept _ hh (t.heldAnt p .main))
  rw [State.grantMainWith_eq]
  split
  · exact old.trans (State.handListen_kept a _)
  · exact old

theorem State.handMainFuel_kept (n : Nat) (a : Ant) (s : State) : OrderKept s (State.handMainFuel n a s) := by
  induction n generalizing a s with
  | zero => exact .refl s
  | succ n ih =>
    rw [State.handMainFuel]
    split
    case isTrue => exact .refl s
    case isFalse free =>
      split
      · exact .refl s
      · next e found =>
        have waits : e ∈ s.arbitration a .main := List.mem_of_find?_eq_some found
        have removed : OrderKept s (s.removeEntry a e.pos .main) :=
          State.removeEntry_kept (.refl s) fun hs => hs.pend_of_arbitration waits
        split
        · refine State.grantMainWith_kept ih removed (fun _ => ?_) e.origin
          refine (congrArg (fun B : Books => B.holder a) (s.removeEntry_books a e.pos .main)).trans ?_
          exact Option.not_isSome_iff_eq_none.mp free
        · exact (State.expire_kept (.refl s) (fun hs => hs.pend_of_arbitration waits) _).trans (ih a _)

theorem State.handMain_kept (a : Ant) (s : State) : OrderKept s (State.handMain a s) := State.handMainFuel_kept _ a s

theorem State.handSlot_kept (s : State) (k : Slot) (a : Ant) : OrderKept s (s.handSlot k a) := by
  cases k with
  | main => exact State.handMain_kept a s
  | listen => exact State.handListen_kept a s

theorem State.grantMain_kept {s t : State} (h : OrderKept s t) {p : Pos} {a : Ant}
    (free : s.BooksAgree → t.alloc[a].holder = none) (o : Origin) : OrderKept s (t.grantMain p a o) :=
  State.grantMainWith_kept State.handMain_kept h free o

theorem State.grantListen_kept {s t : State} (h : OrderKept s t) {p : Pos} {a : Ant}
    (may : s.BooksAgree → t.MayListen p a) (o : Origin) : OrderKept s (t.grantListen p a o) :=
  State.grantListenWith_kept State.handListen_kept h may o

theorem State.lose_kept (s : State) (p : Pos) (k : Slot) (n : Ant → Option Notice) : OrderKept s (s.lose p k n) := by
  cases h : s.heldAnt p k with
  | none => rw [State.lose, h]; exact .refl s
  | some a =>
    rw [State.lose_of_held h]
    exact (State.releaseSlot_kept (.refl s) (fun _ => h) _).trans (State.handSlot_kept _ k a)

/-! ## Pre-emption (R80, R81) -/

/-- A holder is pre-empted for a position that awaits its antenna. -/
theorem State.preempt_kept {s : State} {a : Ant} {h w : Pos} (holds : s.alloc[a].holder = some h)
    (waits : s.waitsOn w .main a = true) : OrderKept s (s.preempt a h w) := by
  have held (hs : s.BooksAgree) : s.heldAnt h .main = some a := ((s.booksAgree_iff.mp hs).mains h a).mp holds
  have books (hs : s.BooksAgree) := State.releaseSlot_books (held hs) (some (.preempted .main a w))
  have released := State.releaseSlot_kept (.refl s) held (some (.preempted .main a w))
  have removed := State.removeEntry_kept released (a := a) (p := w) (k := .main) fun hs =>
    (congrArg (fun B : Books => B.pend w .main) (books hs)).trans (hs.waitsPend w .main a waits)
  refine State.grantMain_kept removed (fun hs => ?_) _
  refine (congrArg (fun B : Books => B.holder a) (State.removeEntry_books _ a w .main)).trans ?_
  refine (congrArg (fun B : Books => B.holder a) (books hs)).trans ?_
  exact if_pos ⟨rfl, held hs⟩

theorem State.headWaiter_mem {s : State} {a : Ant} {w : Pos} (h : s.headWaiter a = some w) :
    ∃ e ∈ s.arbitration a .main, e.pos = w := by
  obtain ⟨e, head, pos⟩ := Option.map_eq_some_iff.mp h
  exact ⟨e, List.mem_of_mem_head? head, pos⟩

theorem State.yieldExpire_kept (s : State) (a : Ant) : OrderKept s (s.yieldExpire a) := by
  unfold State.yieldExpire
  split
  · next h w holds head =>
    obtain ⟨e, waits, rfl⟩ := State.headWaiter_mem head
    split
    · exact State.preempt_kept holds (State.waitsOn_of_arbitration waits)
    · exact State.expire_kept (.refl s) (fun hs => hs.pend_of_arbitration waits) _
  · exact .refl s

theorem State.yieldIfDue_kept (s : State) (a : Ant) : OrderKept s (s.yieldIfDue a) := by
  unfold State.yieldIfDue
  split
  · exact s.yieldExpire_kept a
  · exact .refl s

/-! ## Requests (R57 to R63) -/

theorem State.dropMainEffect_kept (s : State) (p : Pos) : OrderKept s (s.dropMainEffect p) := by
  unfold State.dropMainEffect
  split
  · exact s.removePending_kept p .main
  · next a held =>
    exact ((State.releaseSlot_kept (k := .main) (.refl s) (fun _ => held) none).trans
      (State.removePending_kept _ p .main)).trans (State.handSlot_kept _ .main a)

theorem State.cancelEffect_kept (s : State) (p : Pos) (x : CancelSlot) : OrderKept s (s.cancelEffect p x) := by
  cases x with
  | main => exact s.removePending_kept p .main
  | listen => exact s.removePending_kept p .listen
  | both => exact (s.removePending_kept p .main).trans (State.removePending_kept _ p .listen)

/-! ## Follow (R89 to R92) -/

theorem State.withdraw_books (s : State) (p : Pos) (k : Slot) : (s.withdraw p k).books = s.books.forget p k := by
  unfold State.withdraw
  split
  · next h => exact (Books.forget_of_none h).symm
  · next a h => rw [(State.notify_grow _ p _).same.books, State.removeEntry_books, Books.forget_eq_remove h]

theorem State.withdraw_kept (s : State) (p : Pos) (k : Slot) : OrderKept s (s.withdraw p k) := by
  unfold State.withdraw
  split
  · exact .refl s
  · next a h => exact (State.removeEntry_kept (.refl s) fun _ => h).trans (State.notify_kept _ p _)

/-- A queue pass for an empty slot. -/
theorem State.queuePass_kept {s : State} {p : Pos} {k : Slot} (empty : s.heldAnt p k = none) (b : Band) :
    OrderKept s (s.queuePass p k b) := by
  cases found : (s.prefList p b k).find? fun a => s.candidate k p a && s.mayQueue k p a with
  | none =>
    rw [State.queuePass_none found]
    exact s.notify_kept p _
  | some a =>
    have ok := List.find?_some found
    obtain ⟨good, may⟩ := Bool.and_eq_true_iff.mp ok
    rw [State.queuePass_some found]
    refine State.appendEntry_kept (s.withdraw_kept p k) .follow fun hs => ?_
    have agree := s.booksAgree_iff.mp hs
    have free (j : Slot) (h : s.waitsOn p j a = false) : s.books.pend p j ≠ some a := fun pending => by
      rw [(s.waitsOn_iff_waits p j a).mpr ((agree.awaits p a j).mpr pending)] at h
      cases h
    rw [s.withdraw_books p k]
    refine ⟨by simp [Books.forget], fun j => ?_, fun held => ?_, fun listen held => ?_⟩
    · simp only [Books.forget, true_and]
      split
      · nofun
      · next other =>
        refine free j ?_
        cases k <;> cases j <;> simp_all [State.mayQueue]
    · have still : s.heldAnt p k = some a := held
      rw [empty] at still
      cases still
    · subst listen
      have own := (Bool.and_eq_true_iff.mp good).2
      simp [show s.heldAnt p .main = some a from held] at own

theorem State.followGrant_kept {s : State} {p : Pos} {k : Slot} {a : Ant} (empty : s.heldAnt p k = none)
    (good : s.candidate k p a = true) (free : s.slotFree k a = true) : OrderKept s (s.followGrant p k a) := by
  cases k with
  | main => exact State.grantMain_kept (.refl s) (fun _ => Option.isNone_iff_eq_none.mp free) _
  | listen =>
    have own := (Bool.and_eq_true_iff.mp good).2
    exact State.grantListen_kept (.refl s) (fun _ => ⟨free, by rw [empty]; nofun, by simpa using own⟩) _

theorem State.followSlot_kept (s : State) (p : Pos) (k : Slot) : OrderKept s (s.followSlot p k) := by
  rcases s.followSlot_acts p k with e | ⟨empty, b, -, ⟨a, -, good, free, e⟩ | ⟨-, e⟩⟩
  · rw [e]; exact .refl s
  · rw [e]; exact State.followGrant_kept empty good free
  · rw [e]; exact State.queuePass_kept empty b

theorem State.followOne_kept (s : State) (p : Pos) (k : Slot) : OrderKept s (s.followOne p k) := by
  have main := s.followSlot_kept p .main
  cases k with
  | main =>
    unfold State.followOne State.followMain
    dsimp only
    split
    · exact main.trans (State.followSlot_kept _ p .listen)
    · exact main
  | listen => exact s.followSlot_kept p .listen

/-! ## Judging a slot again (R94 to R97, R111, R179) -/

/-- A slot is released for a cause, or left. -/
theorem State.loseIf_kept (s : State) (b : Bool) (p : Pos) (k : Slot) (c : Cause) :
    OrderKept s (if b then s.loseFor p k c else s) := by
  split
  · exact s.lose_kept p k _
  · exact .refl s

theorem State.segmentWork_kept (s : State) (p : Pos) (k : Slot) : OrderKept s (s.segmentWork p k) :=
  (s.loseIf_kept (s.slotIneligible p k) p k .segment).trans (State.followOne_kept _ p k)

theorem State.bandRelease_kept (s : State) (p : Pos) (k : Slot) : OrderKept s (s.bandRelease p k) := by
  unfold State.bandRelease
  split
  · exact s.loseIf_kept (s.slotIneligible p k) p k .band
  · exact s.lose_kept p k _

theorem State.editWork_kept (s : State) (p : Pos) (k : Slot) : OrderKept s (s.editWork p k) := by
  unfold State.editWork
  split
  · exact (s.lose_kept p k _).trans (State.followOne_kept _ p k)
  · exact .refl s

theorem State.faultWork_kept (s : State) (p : Pos) (k : Slot) (a : Ant) : OrderKept s (s.faultWork p k a) :=
  (s.loseIf_kept (s.heldAnt p k == some a || s.slotIneligible p k) p k .fault).trans (State.followOne_kept _ p k)

theorem State.markWork_kept (s : State) (p : Pos) (k : Slot) (m : Mark) : OrderKept s (s.markWork p k m) := by
  cases m with
  | band => exact (s.bandRelease_kept p k).trans (State.followOne_kept _ p k)
  | segment => exact s.segmentWork_kept p k
  | fault a => exact s.faultWork_kept p k a
  | edit => exact s.editWork_kept p k

/-! ## Events from other blocks -/

theorem State.allocBandChange_kept (s : State) (p : Pos) : OrderKept s (s.allocBandChange p) := by
  have withdrawn := (s.withdraw_kept p .main).trans (State.withdraw_kept _ p .listen)
  unfold State.allocBandChange
  dsimp only
  split
  · exact (withdrawn.trans (State.mark_kept _ p .main _)).trans (State.mark_kept _ p .listen _)
  · exact (((withdrawn.trans (State.bandRelease_kept _ p .main)).trans (State.bandRelease_kept _ p .listen)).trans
      (State.followSlot_kept _ p .main)).trans (State.followSlot_kept _ p .listen)

theorem State.allocSegmentChange_kept (s : State) (p : Pos) (side : Side) :
    OrderKept s (s.allocSegmentChange p side) := by
  unfold State.allocSegmentChange
  split
  · exact s.mark_kept p _ _
  · exact s.segmentWork_kept p _

theorem State.faultLoss_kept (s : State) (p : Pos) (k : Slot) (a : Ant) : OrderKept s (s.faultLoss p k a) := by
  unfold State.faultLoss
  split
  · split
    · exact (s.mark_kept p k _).trans (State.keepFaulted_kept _ p k)
    · exact s.faultWork_kept p k a
  · exact .refl s

/-- A run over entries of one antenna's queue in which each expires or stays. No entry stands twice, so one that expires
leaves the others in the queue. -/
theorem State.eachEntry_kept (s : State) (a : Ant) {xs : List WaitEntry} (sub : xs.Sublist s.alloc[a].queue)
    {f : WaitEntry → State → State} (hf : ∀ e ∈ xs, ∀ t, f e t = t ∨ ∃ c, f e t = t.expire a e.pos e.kind c) :
    OrderKept s (s.each xs f) := by
  have run (ys : List WaitEntry) (hy : ys ⊆ xs) (t : State) (h : OrderKept s t)
      (left : s.BooksAgree → (ys.map fun e => (e.pos, e.kind)).Nodup ∧ ∀ e ∈ ys, (e.pos, e.kind) ∈ t.books.waits a) :
      OrderKept s (t.each ys f) := by
    induction ys generalizing t with
    | nil => exact h
    | cons y ys ih =>
      rw [State.each_cons]
      have hys : ys ⊆ xs := fun e he => hy (List.mem_cons_of_mem y he)
      rcases hf y (hy List.mem_cons_self) t with stays | ⟨c, expires⟩
      · rw [stays]
        exact ih hys t h fun hs => by
          obtain ⟨once, waits⟩ := left hs
          exact ⟨(List.nodup_cons.mp once).2, fun e he => waits e (List.mem_cons_of_mem y he)⟩
      · rw [expires]
        have pending (hs : s.BooksAgree) : t.hold[y.pos].pend y.kind = some a :=
          ((t.booksAgree_iff.mp (h.books hs)).awaits y.pos a y.kind).mp ((left hs).2 y List.mem_cons_self)
        refine ih hys _ (State.expire_kept h pending c) fun hs => ?_
        obtain ⟨once, waits⟩ := left hs
        obtain ⟨new, once⟩ := List.nodup_cons.mp once
        refine ⟨once, fun e he => ?_⟩
        rw [State.expire_books (pending hs)]
        have other : (e.pos, e.kind) ≠ (y.pos, y.kind) := fun same =>
          new (List.mem_map.mpr ⟨e, he, same⟩)
        have kept := waits e (List.mem_cons_of_mem y he)
        simp only [Books.forget]
        split
        · exact List.mem_filter.mpr ⟨kept, by simpa using other⟩
        · exact kept
  refine run xs (List.Subset.refl xs) s (.refl s) fun hs => ⟨?_, fun e he => ?_⟩
  · exact ((s.booksAgree_iff.mp hs).awaitsOnce a).sublist (sub.map _)
  · exact List.mem_map_of_mem (sub.subset he)

theorem State.allocFault_kept (s : State) (a : Ant) : OrderKept s (s.allocFault a) := by
  have expired := s.eachEntry_kept a (List.Sublist.refl _) (f := fun e t => t.expire a e.pos e.kind .fault)
    fun _ _ _ => .inr ⟨_, rfl⟩
  unfold State.allocFault
  refine (expired.trans ?_).trans (OrderKept.each _ _ (fun q t => t.faultLoss_kept q .listen a) _)
  split
  · exact State.faultLoss_kept _ _ .main a
  · exact .refl _

theorem State.takeFault_kept (s : State) (a : Ant) : OrderKept s (s.takeFault a) := by
  have moved : OrderKept s { s with freeIx := s.freeIx + 1 } := .of_same rfl rfl rfl rfl
  obtain ⟨-, h⟩ | ⟨-, h | h⟩ := s.takeFault_cases a <;> rw [h]
  · exact s.allocFault_kept a
  · exact moved.trans (State.allocFault_kept _ a)
  · exact moved.trans ((State.yieldExpire_kept _ a).trans (State.allocFault_kept _ a))

theorem State.tailSlotWork_kept (s : State) (p : Pos) (k : Slot) : OrderKept s (s.tailSlotWork p k) := by
  unfold State.tailSlotWork
  split
  · exact .refl s
  · exact (s.markWork_kept p k _).trans (State.mark_kept _ p k none)

theorem State.tailHandOver_kept (s : State) (p : Pos) : OrderKept s (s.tailHandOver p) := by
  unfold State.tailHandOver
  split
  · split
    · exact State.handMain_kept _ s
    · exact .refl s
  · exact .refl s

theorem State.allocEntry_kept (s : State) (p : Pos) : OrderKept s (s.allocEntry p) := by
  refine OrderKept.each _ _ (fun a t => ?_) s
  split
  · exact t.redetermine_kept a
  · exact .refl t

theorem State.allocLeaving_kept (s : State) (p : Pos) : OrderKept s (s.allocLeaving p) := by
  refine (((s.tailSlotWork_kept p .main).trans (State.tailSlotWork_kept _ p .listen)).trans
    (State.tailHandOver_kept _ p)).trans (OrderKept.each _ _ (fun a t => ?_) _)
  split
  · exact (t.redetermine_kept a).trans (State.yieldIfDue_kept _ a)
  · exact .refl t

/-! ## Revalidation, parking and writes (R35, R71, R75, R85, R179) -/

theorem State.revalidateSlot_kept (s : State) (p : Pos) (k : Slot) : OrderKept s (s.revalidateSlot p k) := by
  unfold State.revalidateSlot
  split
  · split
    · exact s.mark_kept p k _
    · exact s.editWork_kept p k
  · exact .refl s

theorem State.revalidateHand_kept (s : State) (a : Ant) : OrderKept s (s.revalidateHand a) := by
  have main : OrderKept s
      (if s.alloc[a].holder.isNone && !(s.arbitration a .main).isEmpty then State.handMain a s else s) := by
    split
    · exact State.handMain_kept a s
    · exact .refl s
  have listen (t : State) : OrderKept t
      (if t.hasListenRoom a && !(t.arbitration a .listen).isEmpty then State.handListen a t else t) := by
    split
    · exact State.handListen_kept a t
    · exact .refl t
  exact main.trans (listen _)

theorem State.dropIneligible_kept (s : State) (a : Ant) : OrderKept s (s.dropIneligible a) := by
  refine s.eachEntry_kept a (List.Sublist.refl _) fun e _ t => ?_
  split
  · exact .inl rfl
  · exact .inr ⟨_, rfl⟩

theorem State.revalidate_kept (s : State) : OrderKept s s.revalidate :=
  ((OrderKept.each allAnts _ (fun a t => t.dropIneligible_kept a) s).trans
    (OrderKept.each allPos (fun p t => (t.revalidateSlot p .main).revalidateSlot p .listen)
      (fun p t => (t.revalidateSlot_kept p .main).trans (State.revalidateSlot_kept _ p .listen)) _)).trans
    (OrderKept.each allAnts _ (fun a t => t.revalidateHand_kept a) _)

theorem State.handHeld_kept (s : State) (k : Slot) (old : Option Ant) : OrderKept s (s.handHeld k old) := by
  cases old with
  | none => exact .refl s
  | some a => exact s.handSlot_kept k a

/-- The release of what a slot is known to hold. -/
theorem State.releaseHeld_kept {s t : State} (h : OrderKept s t) {p : Pos} {k : Slot} {old : Option Ant}
    (held : s.BooksAgree → t.heldAnt p k = old) : OrderKept s (t.releaseHeld p k old) := by
  cases old with
  | none => exact h
  | some a => exact State.releaseSlot_kept h held _

theorem State.allocPark_kept (s : State) (p : Pos) : OrderKept s (s.allocPark p) := by
  have main := State.releaseHeld_kept (.refl s) (p := p) (k := .main) fun _ => rfl
  have other : (s.releaseHeld p .main (s.heldAnt p .main)).heldAnt p .listen = s.heldAnt p .listen := by
    cases held : s.heldAnt p .main with
    | none => rfl
    | some a =>
      have books := State.releaseSlot_books held (some (.released .main a .edit))
      refine (congrArg (fun B : Books => B.held p .listen) books).trans ?_
      simp [Books.vacate, State.books]
  have released := State.releaseHeld_kept main (k := .listen) fun _ => other
  rw [State.allocPark_eq]
  exact (((released.trans (State.removePending_kept _ p .main)).trans (State.removePending_kept _ p .listen)).trans
    (State.handHeld_kept _ .main _)).trans (State.handHeld_kept _ .listen _)

theorem State.redetermineAll_kept (s : State) : OrderKept s s.redetermineAll :=
  OrderKept.each allAnts _ (fun a t => t.redetermine_kept a) s

theorem State.allocYieldTime_kept (s : State) : OrderKept s s.allocYieldTime :=
  s.redetermineAll_kept.trans (OrderKept.each allAnts _ (fun a t => t.yieldIfDue_kept a) _)

theorem State.allocWaitLimit_kept (s : State) : OrderKept s s.allocWaitLimit :=
  OrderKept.each allAnts _ (fun a t => t.eachEntry_kept a List.filter_sublist fun _ _ _ => .inr ⟨_, rfl⟩) s

theorem State.allocCapacity_kept (s : State) (a : Ant) (old new : Nat) : OrderKept s (s.allocCapacity a old new) := by
  unfold State.allocCapacity
  split
  · exact State.handListen_kept a s
  · split
    · refine s.eachEntry_kept a List.filter_sublist fun e he t => .inr ⟨.ineligible, ?_⟩
      rw [beq_iff_eq.mp (List.mem_filter.mp he).2]
    · exact .refl s

end Sys2Proof.Machine
end

section
/-! SUPPORT. What the crosspoint driver, the sequencers, receiver protection, the band units and the line sampler keep
in order (O58, O59). -/

namespace Sys2Proof.Machine

/-! ## Change sets in progress (R104, R106, R107) -/

/-- A change set with one target for a crosspoint. -/
def ChangeSet.Single (c : ChangeSet) : Prop := (c.targets.map (·.ant)).Nodup

theorem SetsOk.put {cs : List ChangeSet} (h : SetsOk cs) {c : ChangeSet} (single : c.Single) :
    SetsOk (cs.map fun x => if x.pos == c.pos then c else x) := by
  obtain ⟨few, once, sets⟩ := h
  have pos : (cs.map fun x => if x.pos == c.pos then c else x).map (·.pos) = cs.map (·.pos) := by
    rw [List.map_map]
    refine List.map_congr_left fun x _ => ?_
    simp only [Function.comp_apply]
    split
    · next e => exact (beq_iff_eq.mp e).symm
    · rfl
  refine ⟨by rwa [List.length_map], pos ▸ once, fun x hx => ?_⟩
  obtain ⟨y, hy, rfl⟩ := List.mem_map.mp hx
  split
  · exact single
  · exact sets y hy

theorem SetsOk.filter {cs : List ChangeSet} (h : SetsOk cs) (f : ChangeSet → Bool) : SetsOk (cs.filter f) := by
  obtain ⟨few, once, sets⟩ := h
  exact ⟨(List.length_filter_le f cs).trans few, once.sublist (List.filter_sublist.map _),
    fun c hc => sets c (List.mem_of_mem_filter hc)⟩

/-- Change sets that lose targets. -/
theorem SetsOk.strip {cs : List ChangeSet} (h : SetsOk cs) (f : ChangeSet → ChangeSet)
    (hf : ∀ c, (f c).pos = c.pos ∧ (f c).targets.Sublist c.targets) : SetsOk (cs.map f) := by
  obtain ⟨few, once, sets⟩ := h
  refine ⟨by rwa [List.length_map], ?_, fun x hx => ?_⟩
  · rw [List.map_map]
    exact (List.map_congr_left fun c _ => (hf c).1) ▸ once
  · obtain ⟨c, hc, rfl⟩ := List.mem_map.mp hx
    exact (sets c hc).sublist ((hf c).2.map _)

/-- A change set of a position that has none joins the one in progress. -/
theorem SetsOk.append {cs : List ChangeSet} (h : SetsOk cs) {c : ChangeSet} (room : cs.length < 2)
    (new : ∀ x ∈ cs, x.pos ≠ c.pos) (single : c.Single) : SetsOk (cs ++ [c]) := by
  obtain ⟨-, once, sets⟩ := h
  refine ⟨by simpa using room, ?_, fun x hx => ?_⟩
  · rw [List.map_append, List.map_singleton, List.nodup_append]
    refine ⟨once, by simp, fun p hp q hq same => ?_⟩
    obtain ⟨x, hx, rfl⟩ := List.mem_map.mp hp
    rw [List.mem_singleton] at hq
    exact new x hx (same.trans hq)
  · rcases List.mem_append.mp hx with hx | hx
    · exact sets x hx
    · rw [List.mem_singleton.mp hx]
      exact single

theorem State.ListOrder.single {s : State} (h : s.ListOrder) {p : Pos} {c : ChangeSet} (hc : s.progress p = some c) :
    c.Single := by
  obtain ⟨-, -, -, sets⟩ := s.listOrder_iff.mp h
  exact sets c (List.mem_of_find?_eq_some hc)

theorem State.command_kept (s : State) (p : Pos) (t : Target) : OrderKept s (s.command p t) := .of_same rfl rfl rfl rfl

theorem State.putProgress_kept {s t : State} (h : OrderKept s t) {c : ChangeSet} (single : s.ListOrder → c.Single) :
    OrderKept s (t.putProgress c) := State.setProgress_kept h fun hs ok => ok.put (single hs)

theorem State.endProgress_kept (s : State) (p : Pos) : OrderKept s (s.endProgress p) :=
  State.setProgress_kept (.refl s) fun _ ok => ok.filter _

theorem State.beginClosing_kept {s t : State} (h : OrderKept s t) {c : ChangeSet} (single : s.ListOrder → c.Single) :
    OrderKept s (t.beginClosing c) := by
  have closing (phase : Phase) : OrderKept s (t.putProgress { c with phase := phase }) :=
    State.putProgress_kept h fun hs => single hs
  exact (closing _).trans (OrderKept.each _ _ (fun x y => y.command_kept c.pos x) _)

theorem State.afterOpening_kept {s t : State} (h : OrderKept s t) {c : ChangeSet} (single : s.ListOrder → c.Single) :
    OrderKept s (t.afterOpening c) := by
  unfold State.afterOpening
  split
  · exact h.trans (t.endProgress_kept c.pos)
  · split
    · exact State.beginClosing_kept h single
    · exact State.putProgress_kept h single

/-- A change set starts while fewer than two are in progress, and none of its position (R104). -/
theorem State.startSet_kept {s t : State} (h : OrderKept s t) {p : Pos} {ts : List Target}
    (room : t.drv.inProg.length < 2) (new : t.progress p = none) (single : s.ListOrder → (ts.map (·.ant)).Nodup) :
    OrderKept s (t.startSet p ts) := by
  unfold State.startSet
  dsimp only
  generalize ((ts.filter fun x => t.opensFirst p x).map fun x =>
    (⟨x.ant, (t.xp p x.ant).cmd == .main⟩ : OpenedXp)) = opens
  have others (c : ChangeSet) (hc : c ∈ t.drv.inProg) : c.pos ≠ p := by
    simpa using List.find?_eq_none.mp new c hc
  have moved : OrderKept s ((((t.setProgress (t.drv.inProg ++
      [⟨p, ts, .opening (t.now + t.longest (opens.map (·.ant))), opens⟩])).each opens fun o x =>
      x.command p ⟨o.ant, .opened⟩)).each ts fun g x => x.moveServed p g .awaiting .switching) :=
    ((State.setProgress_kept h fun hs ok => ok.append room others (by exact single hs)).trans
      (OrderKept.each _ _ (fun o x => x.command_kept p _) _)).trans
      (OrderKept.each _ _ (fun g x => x.moveServed_kept p g _ _) _)
  split
  · exact State.afterOpening_kept moved single
  · exact moved

theorem State.startTargets_sublist (s : State) (e : PendEntry) : (s.startTargets e).Sublist e.targets := by
  unfold State.startTargets
  split
  · split
    · exact List.Sublist.refl _
    · exact List.filter_sublist
  · exact List.nil_sublist _

/-- An entry with a target that can start meets the conditions of R104. -/
theorem State.mayStart_of_startTargets {s : State} {e : PendEntry} (h : s.startTargets e ≠ []) :
    s.mayStart e = true := by
  unfold State.startTargets at h
  split at h
  · assumption
  · exact absurd rfl h

theorem State.startFirst_kept (s : State) : OrderKept s s.startFirst := by
  unfold State.startFirst
  split
  · exact .refl s
  · next e found =>
    have starts : s.startTargets e ≠ [] := by simpa using List.find?_some found
    have may := State.mayStart_of_startTargets starts
    simp only [State.mayStart, Bool.and_eq_true, decide_eq_true_eq, Option.isNone_iff_eq_none] at may
    obtain ⟨⟨⟨room, new⟩, -⟩, -⟩ := may
    refine State.startSet_kept (s.setList_kept fun ok => ok.drop _) room new fun hs => ?_
    obtain ⟨⟨-, entries⟩, -⟩ := s.listOrder_iff.mp hs
    exact (entries e (List.mem_of_find?_eq_some found)).2.sublist ((s.startTargets_sublist e).map _)

/-! ## Relay faults (R109 to R112) -/

theorem State.dropClosings_kept (s : State) (a : Ant) : OrderKept s (s.dropClosings a) := by
  refine (s.setList_kept fun ok => ok.drop _).trans (State.setProgress_kept (.refl _) fun _ ok =>
    (ok.strip _ ?_).filter _)
  intro c
  split
  · exact ⟨rfl, List.filter_sublist⟩
  · exact ⟨rfl, List.filter_sublist⟩
  · exact ⟨rfl, List.Sublist.refl _⟩

theorem State.faultOpening_kept (s : State) (a : Ant) : OrderKept s (s.faultOpening a) := by
  refine OrderKept.each _ _ (fun q t => ?_) s
  split
  · exact t.addTargets_kept q _
  · exact .refl t

theorem State.offer_kept (s : State) (l : Link) (f : Frame) : OrderKept s (s.offer l f) := (s.offer_grow l f).kept

theorem State.setFault_kept (s : State) (a : Ant) (b : Bool) : OrderKept s (s.setFault a b) := .of_same rfl rfl rfl rfl

theorem State.relayFault_kept (s : State) (p : Pos) (a : Ant) (f : Finding) : OrderKept s (s.relayFault p a f) := by
  unfold State.relayFault
  dsimp only
  split
  · exact ((s.offer_kept _ _).trans (State.dropClosings_kept _ a)).trans (State.faultOpening_kept _ a)
  · exact (((((s.offer_kept _ _).trans (State.setFault_kept _ a true)).trans
      (OrderKept.each _ _ (fun q t => t.offer_kept _ _) _)).trans (State.dropClosings_kept _ a)).trans
      (State.faultOpening_kept _ a)).trans (State.takeFault_kept _ a)

theorem State.relayFaults_kept (s : State) (p : Pos) (xs : List Ant) (f : Finding) :
    OrderKept s (s.relayFaults p xs f) :=
  OrderKept.each xs _ (fun a t => t.relayFault_kept p a f) s

/-! ## The ends of the phases (R107, R109) -/

theorem State.returnClosings_kept (s : State) (p : Pos) (ts : List Target) : OrderKept s (s.returnClosings p ts) :=
  (OrderKept.each ts _ (fun x t => t.moveServed_kept p x _ _) s).trans (State.addTargets_kept _ p _)

theorem State.endOpening_kept (s : State) {c : ChangeSet} (single : s.ListOrder → c.Single) :
    OrderKept s (s.endOpening c) := by
  unfold State.endOpening
  dsimp only
  split
  · exact State.afterOpening_kept (.refl s) single
  · exact ((s.endProgress_kept c.pos).trans (State.returnClosings_kept _ c.pos _)).trans
      (State.relayFaults_kept _ _ _ _)

theorem State.endClosing_kept (s : State) (c : ChangeSet) : OrderKept s (s.endClosing c) := by
  unfold State.endClosing
  dsimp only
  refine ((s.endProgress_kept c.pos).trans (OrderKept.each _ _ (fun x t => ?_) _)).trans
    (State.relayFaults_kept _ _ _ _)
  split
  · exact t.completeHolding_kept _ _ _ _
  · exact .refl t

/-! ## The filter banks and the release (R113 to R115) -/

theorem State.setFilter_kept (s : State) (p : Pos) (x : FilterState) : OrderKept s (s.setFilter p x) :=
  .of_same rfl rfl rfl rfl

theorem State.startFilter_kept (s : State) (p : Pos) : OrderKept s (s.startFilter p) := by
  unfold State.startFilter
  dsimp only
  split
  · exact .refl s
  all_goals
    split
    · exact s.setFilter_kept p _
    · split
      · exact s.setFilter_kept p _
      · exact s.setFilter_kept p _

theorem State.reselect_kept (s : State) (p : Pos) : OrderKept s (s.reselect p) :=
  (s.setFilter_kept p _).trans (State.startFilter_kept _ p)

theorem State.beginPending_kept (s : State) (p : Pos) : OrderKept s (s.beginPending p) := by
  unfold State.beginPending
  split
  · exact s.setFilter_kept p _
  · exact .refl s

theorem State.endFilter_kept (s : State) (p : Pos) : OrderKept s (s.endFilter p) := by
  unfold State.endFilter
  split
  · split
    · exact ((s.setFilter_kept p _).trans (State.startFilter_kept _ p)).trans (State.trySettle_kept _ p)
    · exact .refl s
  all_goals exact .refl s

theorem State.endRelease_kept (s : State) : OrderKept s s.endRelease := by
  have ended (t : State) : OrderKept t (t.setDrv { t.drv with release := .none }) := .of_same rfl rfl rfl rfl
  exact ((OrderKept.each allPos (fun p x => x.relayFaults p (allAnts.filter fun a => (s.xp p a).closed) .opening)
    (fun p t => t.relayFaults_kept p _ .opening) s).trans (ended _)).trans
    (OrderKept.each allPos (fun p x => x.reselect p) (fun p t => t.reselect_kept p) _)

/-! ## Receiver protection and the key sequencer -/

theorem State.setCauses_kept (s : State) (v : Pos) (x : Protection) : OrderKept s (s.setCauses v x) :=
  .of_same rfl rfl rfl rfl

theorem State.recomputeBlank_kept (s : State) : OrderKept s s.recomputeBlank :=
  OrderKept.each allPos _ (fun v t => t.setCauses_kept v _) s

theorem State.setSpan_kept (s : State) (p : Pos) (x : Option KeySpan) : OrderKept s (s.setSpan p x) :=
  .of_same rfl rfl rfl rfl

theorem State.lockOut_kept (s : State) (p : Pos) (c : LockCause) : OrderKept s (s.lockOut p c) :=
  (s.enter_kept p _).trans (State.notify_kept _ p _)

theorem State.lockNotice_kept (s : State) (p : Pos) (q : SeqState) : OrderKept s (s.lockNotice p q) := by
  cases q with
  | lockout c => exact s.notify_kept p _
  | _ => exact .refl s

theorem State.endSpan_kept (s : State) (p : Pos) (c : EndCause) (k : Nat) (q : SeqState) :
    OrderKept s (s.endSpan p c k q) := by
  have left (t : State) : OrderKept t (t.leaving p) :=
    (((t.setSpan_kept p none).trans (State.allocLeaving_kept _ p)).trans (State.beginPending_kept _ p)).trans
      (State.recomputeBlank_kept _)
  exact (((s.enter_kept p q).trans (left _)).trans (State.notify_kept _ p _)).trans (State.lockNotice_kept _ p q)

theorem State.enterTail_kept (s : State) (p : Pos) (c : TailCause) (pend : Option LockCause) :
    OrderKept s (s.enterTail p c pend) := by
  unfold State.enterTail
  dsimp only
  split
  · exact (s.enter_kept p _).trans (State.endSpan_kept _ p _ _ _)
  · exact s.enter_kept p _

theorem State.enterSettling_kept (s : State) (p : Pos) (k : KeySpan) : OrderKept s (s.enterSettling p k) :=
  ((((s.setSpan_kept p _).trans (State.enter_kept _ p _)).trans (State.allocEntry_kept _ p)).trans
    (State.recomputeBlank_kept _)).trans (State.trySettle_kept _ p)

theorem State.seqPtt_kept (s : State) (p : Pos) (active : Bool) : OrderKept s (s.seqPtt p active) := by
  have tail : OrderKept s (if active then s else s.enterTail p .release none) := by
    split
    · exact .refl s
    · exact s.enterTail_kept p _ _
  unfold State.seqPtt
  split
  · split
    · split
      · exact s.enterSettling_kept p _
      · exact (s.enter_kept p _).trans (State.notify_kept _ p _)
    · exact .refl s
  · exact tail
  · exact tail
  · split
    · exact .refl s
    · exact s.enter_kept p _
  all_goals exact .refl s

theorem State.seqRfs_kept (s : State) (p : Pos) (active : Bool) : OrderKept s (s.seqRfs p active) := by
  unfold State.seqRfs
  split
  · split
    · exact s.lockOut_kept p _
    · exact s.lockOut_kept p _
    · exact s.enterTail_kept p _ _
    all_goals exact .refl s
  · exact .refl s

theorem State.seqBandChange_kept (s : State) (p : Pos) : OrderKept s (s.seqBandChange p) := by
  unfold State.seqBandChange
  split
  · exact s.enterTail_kept p _ _
  · exact s.enterTail_kept p _ _
  all_goals exact .refl s

theorem State.seqKeyLine_kept (s : State) (p : Pos) : OrderKept s (s.seqKeyLine p) := by
  unfold State.seqKeyLine
  split
  · exact s.lockOut_kept p _
  · exact s.lockOut_kept p _
  · exact s.endSpan_kept p _ _ _
  · exact s.endSpan_kept p _ _ _
  · exact s.endSpan_kept p _ _ _
  · split
    · exact .refl s
    · exact s.lockOut_kept p _
  · exact .refl s

theorem State.keyLimit_kept (s : State) (p : Pos) : OrderKept s (s.keyLimit p) := by
  unfold State.keyLimit
  split
  · split
    · exact s.enterTail_kept p _ _
    · exact .refl s
  all_goals exact .refl s

theorem State.tailLimit_kept (s : State) (p : Pos) : OrderKept s (s.tailLimit p) := by
  unfold State.tailLimit
  split
  · split
    · exact s.endSpan_kept p _ _ _
    · exact .refl s
  all_goals exact .refl s

theorem State.seqSettings_kept (s : State) (p : Pos) : OrderKept s (s.seqSettings p) := by
  unfold State.seqSettings
  split
  · exact s.trySettle_kept p
  · exact s.keyLimit_kept p
  · exact s.tailLimit_kept p
  all_goals exact .refl s

/-! ## The band units (Chapter 2) -/

theorem State.setBandUnit_kept (s : State) (p : Pos) (x : BandUnit) : OrderKept s (s.setBandUnit p x) :=
  .of_same rfl rfl rfl rfl

theorem State.settleSide_kept (s : State) (p : Pos) (side : Side) : OrderKept s (s.settleSide p side) :=
  (s.setBandUnit_kept p _).trans (State.allocSegmentChange_kept _ p side)

theorem State.dwellSide_kept (s : State) (p : Pos) (side : Side) : OrderKept s (s.dwellSide p side) := by
  unfold State.dwellSide
  dsimp only
  split
  · exact s.setBandUnit_kept p _
  · split
    · exact s.settleSide_kept p side
    · exact s.setBandUnit_kept p _

theorem State.recomputeSegs_kept (s : State) (p : Pos) : OrderKept s (s.recomputeSegs p) := by
  have side (b : Bool) (x : Side) (t : State) : OrderKept t (if b then t else t.dwellSide p x) := by
    split
    · exact .refl t
    · exact t.dwellSide_kept p x
  exact ((s.setBandUnit_kept p _).trans (side (s.bands[p].curTx == (s.currentNow p).1) .tx _)).trans
    (side (s.bands[p].curRx == (s.currentNow p).2) .rx _)

theorem State.dwellEnd_kept (s : State) (p : Pos) (side : Side) : OrderKept s (s.dwellEnd p side) := by
  unfold State.dwellEnd
  split
  · exact s.settleSide_kept p side
  · exact .refl s

theorem State.freqChange_kept (s : State) (p : Pos) (before : Option Nat × Option Nat) :
    OrderKept s (s.freqChange p before) := by
  unfold State.freqChange
  split
  · exact .refl s
  · exact s.recomputeBlank_kept

theorem State.newReport_kept (s : State) (p : Pos) (r : Report) : OrderKept s (s.newReport p r) := by
  have taken := ((s.setBandUnit_kept p { s.bands[p] with
      report := some r, state := deriveState s.bands[p].lines (some r) }).trans (State.recomputeSegs_kept _ p)).trans
    (State.freqChange_kept _ p (s.rxFreq p, s.txFreq p))
  unfold State.newReport
  dsimp only
  split
  · exact taken
  · exact taken.trans (State.notify_kept _ p _)

theorem State.freshEnd_kept (s : State) (p : Pos) : OrderKept s (s.freshEnd p) := by
  unfold State.freshEnd
  split
  · split
    · split
      · exact s.newReport_kept p _
      · exact .refl s
    · exact .refl s
  · exact .refl s

theorem State.setFlag_kept (s : State) (p : Pos) (on : Bool) : OrderKept s (s.setFlag p on) := .of_same rfl rfl rfl rfl

theorem State.bandChange_kept (s : State) (p : Pos) (lines : LinesBand) : OrderKept s (s.bandChange p lines) :=
  ((((((s.setBandUnit_kept p _).trans (State.notify_kept _ p _)).trans (State.allocBandChange_kept _ p)).trans
    (State.seqBandChange_kept _ p)).trans (State.setFlag_kept _ p false)).trans (State.recomputeBlank_kept _)).trans
    (State.reselect_kept _ p)

theorem State.takeCode_kept (s : State) (p : Pos) (code : BitVec 4) : OrderKept s (s.takeCode p code) := by
  unfold State.takeCode
  split
  · exact .refl s
  · exact s.bandChange_kept p _

theorem State.newDefaultSeg_kept (s : State) (b : Band) : OrderKept s (s.newDefaultSeg b) := by
  refine OrderKept.each allPos _ (fun p t => ?_) s
  split
  · exact t.recomputeSegs_kept p
  · exact .refl t

/-! ## The line sampler (Chapter 1) -/

theorem State.setLines_kept (s : State) (p : Pos) (x : PosLines) :
    OrderKept s (s.setLines p x) := .of_same rfl rfl rfl rfl

theorem State.sampleLines_kept (s : State) (x : Sample) : OrderKept s (s.sampleLines x) := by
  have edit (y : Line) : OrderKept s (s.setEdit y) := .of_same rfl rfl rfl rfl
  unfold State.sampleLines
  split
  · exact OrderKept.each allPos _ (fun p t => t.setLines_kept p _) s
  · exact (edit _).trans (OrderKept.each allPos _ (fun p t => t.setLines_kept p _) _)

theorem State.watchAll_kept (s : State) : OrderKept s s.watchAll := by
  unfold State.watchAll
  split
  · exact .refl s
  · exact .of_same rfl rfl rfl rfl

theorem State.sample_kept (s : State) (x : Sample) : OrderKept s (s.sample x) := by
  have reset (y : Line) : OrderKept s ({ s with now := s.now + 1 }.setResetLine y) := .of_same rfl rfl rfl rfl
  exact ((reset _).trans (State.sampleLines_kept _ x)).trans (State.watchAll_kept _)

end Sys2Proof.Machine
end

section
/-! SUPPORT. The configuration that writes and the store give (R31, R39, R88, R164, R177, R181). -/

namespace Sys2Proof.Machine

/-! ## One item (R177) -/

/-- An item holds what a write could give it. -/
def Item.valid (x : Item) : Prop :=
  match x with
  | .antenna _ v => v.valid = true
  | .mapEntry _ _ _ | .rule _ _ => True
  | .pref _ _ slot v => v.length ≤ prefMost slot ∧ v.Nodup
  | .pos _ v => v.valid = true
  | .band _ v => v.valid = true
  | .station v => v.valid = true
  | .divisor _ d => divisorValid d = true

theorem countIn_range {lo hi n : Nat} {x : Byte} (h : countIn lo hi x = some n) : lo ≤ n ∧ n ≤ hi := by
  unfold countIn at h
  split at h
  · next range =>
    cases h
    exact range
  · cases h

theorem clampTo_range {lo hi : Nat} (h : lo ≤ hi) (n : Nat) : lo ≤ clampTo lo hi n ∧ clampTo lo hi n ≤ hi := by
  unfold clampTo
  omega

theorem clampOrZero_range {lo hi : Nat} (h : lo ≤ hi) (n : Nat) : zeroOrIn lo hi (clampOrZero lo hi n) = true := by
  unfold clampOrZero zeroOrIn
  split
  · rfl
  · simp [clampTo_range h n]

theorem AntennaFields.value_valid {f : AntennaFields} {x : AntennaRecord × Bool} (h : AntennaFields.value f = some x) :
    x.1.valid = true := by
  simp only [AntennaFields.value, Option.bind_eq_bind, Option.bind_eq_some_iff, Option.pure_def, Option.some.injEq] at h
  obtain ⟨present, -, bands, -, role, -, capacity, hc, group, hg, rfl⟩ := h
  simp [AntennaRecord.valid, (countIn_range hc).2, (countIn_range hg).2, clampTo_range]

theorem length_of_mapM {α β : Type} {f : α → Option β} {xs : List α} {ys : List β} (h : xs.mapM f = some ys) :
    ys.length = xs.length := by
  induction xs generalizing ys with
  | nil => cases h; rfl
  | cons x xs ih =>
    simp only [List.mapM_cons, Option.bind_eq_bind, Option.bind_eq_some_iff] at h
    obtain ⟨y, -, zs, hzs, e⟩ := h
    cases e
    simp [ih hzs]

theorem PrefFields.value_valid {f : PrefFields} {slot : Slot} {x : List Ant × Bool}
    (h : PrefFields.value f slot = some x) : x.1.length ≤ prefMost slot ∧ x.1.Nodup := by
  simp only [PrefFields.value, Option.bind_eq_bind, Option.bind_eq_some_iff] at h
  obtain ⟨n, hn, xs, hxs, h⟩ := h
  split at h
  · next once =>
    cases h
    refine ⟨?_, once⟩
    rw [length_of_mapM hxs, List.length_take]
    exact (Nat.min_le_left _ _).trans (countIn_range hn).2
  · cases h

theorem PosFields.value_valid {f : PosFields} {x : PosSettings × Bool} (h : PosFields.value f = some x) :
    x.1.valid = true := by
  simp only [PosFields.value, Option.bind_eq_bind, Option.bind_eq_some_iff, Option.pure_def, Option.some.injEq] at h
  obtain ⟨parked, -, cls, -, follow, -, thru, -, installed, -, rfl⟩ := h
  simp [PosSettings.valid, clampTo_range]

theorem BandFields.value_valid {f : BandFields} {x : BandSettings × Bool} (h : BandFields.value f = some x) :
    x.1.valid = true := by
  simp only [BandFields.value, Option.bind_eq_bind, Option.bind_eq_some_iff, Option.pure_def, Option.some.injEq] at h
  obtain ⟨limit, hl, seg, -, policy, -, rfl⟩ := h
  have guard (n : Nat) : clampGuard n ≤ 25000 ∧ clampGuard n % 100 = 0 := by
    unfold clampGuard
    omega
  simp [BandSettings.valid, (countIn_range hl).2, guard]

theorem StationFields.value_valid {f : StationFields} {x : StationSettings × Bool}
    (h : StationFields.value f = some x) : x.1.valid = true := by
  simp only [StationFields.value, Option.bind_eq_bind, Option.bind_eq_some_iff, Option.pure_def, Option.some.injEq] at h
  obtain ⟨stationLimit, hs, protectLimit, hp, rfl⟩ := h
  simp [StationSettings.valid, countIn_range hs, (countIn_range hp).2, clampOrZero_range]

theorem divisorOf_valid {x : Byte} {d : Nat} (h : divisorOf x = some d) : divisorValid d = true := by
  unfold divisorOf at h
  split at h
  · next one =>
    cases h
    simp only [Bool.or_eq_true, beq_iff_eq] at one
    obtain ((rfl | rfl) | rfl) | rfl := one <;> decide
  · cases h

theorem ok_of_map {α : Type} {o : Option α} {f : α → Item × Bool} {y : Item × Bool}
    (h : (match o.map f with | some x => Except.ok x | none => Except.error Result.invalid) = .ok y) :
    ∃ v, o = some v ∧ f v = y := by
  cases o with
  | none => cases h
  | some v => exact ⟨v, rfl, Except.ok.inj h⟩

/-- A write that passes the checks of its fields gives a valid item (R177). -/
theorem WriteItem.value_valid {w : WriteItem} {x : Item} {clamped : Bool} (h : w.value = .ok (x, clamped)) :
    x.valid := by
  unfold WriteItem.value at h
  split at h
  · cases h
  · split at h
    case h_1 => obtain ⟨v, hv, e⟩ := ok_of_map h; cases e; exact AntennaFields.value_valid hv
    case h_2 => obtain ⟨v, -, e⟩ := ok_of_map h; cases e; trivial
    case h_3 => obtain ⟨v, hv, e⟩ := ok_of_map h; cases e; exact PrefFields.value_valid hv
    case h_4 => obtain ⟨v, hv, e⟩ := ok_of_map h; cases e; exact PosFields.value_valid hv
    case h_5 => obtain ⟨v, hv, e⟩ := ok_of_map h; cases e; exact BandFields.value_valid hv
    case h_6 => obtain ⟨v, hv, e⟩ := ok_of_map h; cases e; exact StationFields.value_valid hv
    case h_7 => obtain ⟨v, -, e⟩ := ok_of_map h; cases e; trivial
    case h_8 => obtain ⟨v, hv, e⟩ := ok_of_map h; cases e; exact divisorOf_valid hv
    case h_9 => cases h

/-! ## The configuration as a whole -/

/-- Every item holds what a write could give it. -/
structure Cfg.ItemsValid (c : Cfg) : Prop where
  ants : ∀ a : Ant, c.ants[a].valid = true
  prefs : ∀ (p : Pos) (b : Band), c.prefs[p][b].valid = true
  pos : ∀ p : Pos, c.pos[p].valid = true
  bands : ∀ b : Band, c.bands[b].valid = true
  station : c.station.valid = true
  divisors : ∀ l : Link, divisorValid c.divisors[l] = true

theorem Cfg.valid_iff (c : Cfg) : c.valid = true ↔ c.ItemsValid ∧ c.consistent = true := by
  simp only [Cfg.valid, Bool.and_eq_true, List.all_eq_true]
  constructor
  · rintro ⟨⟨⟨⟨⟨⟨ants, prefs⟩, pos⟩, bands⟩, station⟩, divisors⟩, consistent⟩
    exact ⟨⟨fun a => ants a (mem_allAnts a), fun p b => prefs p (mem_allPos p) b (mem_allBands b),
      fun p => pos p (mem_allPos p), fun b => bands b (mem_allBands b), station, fun l => divisors l (mem_allLinks l)⟩,
      consistent⟩
  · rintro ⟨⟨ants, prefs, pos, bands, station, divisors⟩, consistent⟩
    exact ⟨⟨⟨⟨⟨⟨fun a _ => ants a, fun p _ b _ => prefs p b⟩, fun p _ => pos p⟩, fun b _ => bands b⟩, station⟩,
      fun l _ => divisors l⟩, consistent⟩

theorem upd_all {α : Type} {n : Nat} (P : α → Prop) {v : Vector α n} (h : ∀ i : Fin n, P v[i]) (i : Fin n) {x : α}
    (hx : P x) (j : Fin n) : P (upd v i x)[j] := by
  rw [upd_get]
  split
  · exact hx
  · exact h j

theorem PrefLists.valid_iff (x : PrefLists) :
    x.valid = true ↔ (x.main.length ≤ 4 ∧ x.main.Nodup) ∧ x.listen.length ≤ 2 ∧ x.listen.Nodup := by
  simp [PrefLists.valid]
  tauto

/-- A valid item put into a configuration of valid items. -/
theorem Cfg.ItemsValid.put {c : Cfg} (h : c.ItemsValid) {x : Item} (hx : x.valid) : (c.put x).ItemsValid := by
  obtain ⟨ants, prefs, pos, bands, station, divisors⟩ := h
  cases x with
  | antenna a v => exact ⟨upd_all (fun r : AntennaRecord => r.valid = true) ants a hx, prefs, pos, bands, station,
      divisors⟩
  | mapEntry b g v => exact ⟨ants, prefs, pos, bands, station, divisors⟩
  | pref p b slot v =>
    have old := (PrefLists.valid_iff _).mp (prefs p b)
    have row (y : PrefLists) (hy : y.valid = true) :
        ∀ (q : Pos) (d : Band), (upd c.prefs p (upd c.prefs[p] b y))[q][d].valid = true :=
      upd_all (fun r : Vector PrefLists 6 => ∀ d : Band, r[d].valid = true) prefs p
        (upd_all (fun r : PrefLists => r.valid = true) (prefs p) b hy)
    cases slot with
    | main => exact ⟨ants, row _ ((PrefLists.valid_iff _).mpr ⟨hx, old.2⟩), pos, bands, station, divisors⟩
    | listen => exact ⟨ants, row _ ((PrefLists.valid_iff _).mpr ⟨old.1, hx⟩), pos, bands, station, divisors⟩
  | pos p v => exact ⟨ants, prefs, upd_all (fun r : PosSettings => r.valid = true) pos p hx, bands, station, divisors⟩
  | band b v => exact ⟨ants, prefs, pos, upd_all (fun r : BandSettings => r.valid = true) bands b hx, station, divisors⟩
  | station v => exact ⟨ants, prefs, pos, bands, hx, divisors⟩
  | rule n v => exact ⟨ants, prefs, pos, bands, station, divisors⟩
  | divisor l d => exact ⟨ants, prefs, pos, bands, station, upd_all (divisorValid · = true) divisors l hx⟩

/-- An item of neither table leaves the two tables as they are. -/
theorem Cfg.put_consistent {c : Cfg} {x : Item} (h : x.inTables = false) : (c.put x).consistent = c.consistent := by
  cases x with
  | antenna a v | mapEntry b g v => cases h
  | pref p b slot v => cases slot <;> rfl
  | _ => rfl

/-- An accepted write of a valid item keeps the configuration valid (R31, R39, R177). -/
theorem Cfg.put_valid {c : Cfg} (h : c.valid = true) {x : Item} (hx : x.valid)
    (tables : x.inTables = true → (c.put x).consistent = true) : (c.put x).valid = true := by
  obtain ⟨items, consistent⟩ := c.valid_iff.mp h
  refine (Cfg.valid_iff _).mpr ⟨items.put hx, ?_⟩
  cases kind : x.inTables with
  | true => exact tables kind
  | false => rw [Cfg.put_consistent kind, consistent]

/-! ## The store (R181) -/

theorem loadItems_valid {xs : List Addr} {bytes : List Byte} {c d : Cfg} (h : loadItems xs bytes c = some d)
    (hc : c.ItemsValid) : d.ItemsValid := by
  induction xs generalizing bytes c with
  | nil =>
    cases bytes with
    | nil => cases h; exact hc
    | cons y ys => cases h
  | cons x xs ih =>
    rw [loadItems] at h
    split at h
    · split at h
      · next w _ item value => exact ih h (hc.put (WriteItem.value_valid value))
      · cases h
      · cases h
    · cases h

/-- A store gives a valid configuration, or none (R181). -/
theorem loadStore_valid {image : List Byte} {check : Byte} {c : Cfg} (h : loadStore image check = some c) :
    c.valid = true := by
  unfold loadStore at h
  split at h
  · split at h
    · next items =>
      split at h
      · next consistent =>
        cases h
        exact (Cfg.valid_iff _).mpr ⟨loadItems_valid items (Cfg.factory.valid_iff.mp Cfg.factory_valid).1, consistent⟩
      · cases h
    · cases h
  · cases h

theorem StoreUnit.load_valid (x : StoreUnit) : x.load.1.valid = true := by
  unfold StoreUnit.load
  split
  · next c h => exact loadStore_valid h
  · exact Cfg.factory_valid

end Sys2Proof.Machine
end

section
/-! SUPPORT. What writes, requests, power and the links keep in order, and that every step keeps it: the agreement of
the books and the order of the pending list (O58), and the validity of the configuration (O59). -/

namespace Sys2Proof.Machine

/-! ## Writes (R177, R178) -/

theorem State.park_kept (s : State) (p : Pos) : OrderKept s (s.park p) :=
  ((((s.setBandUnit_kept p _).trans (State.allocPark_kept _ p)).trans (State.enter_kept _ p .parked)).trans
    (State.setCauses_kept _ p _)).trans (State.reselect_kept _ p)

theorem State.unpark_kept (s : State) (p : Pos) : OrderKept s (s.unpark p) :=
  (((s.setLines_kept p _).trans (State.enter_kept _ p .idle)).trans (State.recomputeBlank_kept _)).trans
    (State.reselect_kept _ p)

theorem State.onChange_kept (s : State) (b : Bool) {f : State → State} (h : ∀ t, OrderKept t (f t)) :
    OrderKept s (s.onChange b f) := State.onChange_keeps (P := OrderKept s) b (fun hs => hs.trans (h s)) (.refl s)

theorem State.modeChanged_kept (s : State) (p : Pos) (x y : PosSettings) : OrderKept s (s.modeChanged p x y) := by
  refine s.onChange_kept _ fun t => ?_
  split
  · exact t.park_kept p
  · exact t.unpark_kept p

/-- The blocks that take a write keep the order (R178). -/
theorem State.deliver_kept (s : State) (old : Cfg) (x : Item) : OrderKept s (s.deliver old x) := by
  cases x with
  | antenna a v =>
    exact ((s.onChange_kept _ fun t => t.allocCapacity_kept a _ _).trans
      (State.onChange_kept _ _ fun t => t.recomputeBlank_kept)).trans
      (State.onChange_kept _ _ fun t => t.revalidate_kept)
  | mapEntry b g v => exact s.onChange_kept _ fun t => t.revalidate_kept
  | pos p v =>
    exact ((((s.onChange_kept _ fun t => (t.dwellEnd_kept p .tx).trans (State.dwellEnd_kept _ p .rx)).trans
      (State.modeChanged_kept _ p _ v)).trans
      (State.onChange_kept _ _ fun t => t.redetermineAll_kept)).trans
      (State.onChange_kept _ _ fun t => t.reselect_kept p)).trans
      (State.onChange_kept _ _ fun t => t.seqSettings_kept p)
  | band b v =>
    exact (s.onChange_kept _ fun t => t.newDefaultSeg_kept b).trans
      (State.onChange_kept _ _ fun t => t.recomputeBlank_kept)
  | station v =>
    exact (s.onChange_kept _ fun t => t.allocWaitLimit_kept).trans
      (State.onChange_kept _ _ fun t => t.allocYieldTime_kept)
  | pref _ _ _ _ | rule _ _ | divisor _ _ => exact .refl s

/-- A share capacity written is no smaller than its antenna's listener list (R35, R177). -/
theorem State.put_capacity {s : State} {x : Item} (free : s.inUse x = false) {a : Ant}
    (shares : s.alloc[a].listeners.length ≤ s.cfg.ants[a].capacity) :
    s.alloc[a].listeners.length ≤ (s.cfg.put x).ants[a].capacity := by
  cases x with
  | antenna b v =>
    simp only [State.inUse, State.antennaInUse, Bool.or_eq_false_iff, decide_eq_false_iff_not, Nat.not_lt] at free
    rw [Cfg.put, upd_get]
    split
    · next same => subst same; exact free.1.1
    · exact shares
  | pref p b slot v => cases slot <;> exact shares
  | _ => exact shares

/-- The item of an accepted write stands in the configuration: one of a kind that a write gives, that breaks neither
table and is not in use (R177). -/
theorem State.written_kept {s : State} {x : Item} (hx : x.valid) (tables : s.breaksTables x = false)
    (free : s.inUse x = false) : OrderKept s (s.written x) where
  books hs := by
    have agree := s.booksAgree_iff.mp hs
    exact (State.booksAgree_iff _).mpr { agree with shares := fun a => State.put_capacity free (agree.shares a) }
  list := id
  cfg hs := Cfg.put_valid hs hx fun kind => by simpa [State.breaksTables, kind] using tables

/-! ## Requests (R168, R169) -/

/-- The effect of a request keeps the order, from a state that differs from `s` in what its links send. -/
def PlanKept (s : State) (plan : Result × (State → State)) : Prop := ∀ t, LinksGrow s t → OrderKept s (plan.2 t)

theorem PlanKept.of_effect {s : State} {r : Result} {f : State → State} (h : ∀ t, OrderKept t (f t)) :
    PlanKept s (r, f) := fun t grow => grow.kept.trans (h t)

theorem justAnswer_kept (s : State) (r : Result) : PlanKept s (justAnswer r) := .of_effect .refl

/-- A request refused or answered without effect where a check of its row fails. -/
theorem PlanKept.ite_answer {s : State} {b : Prop} [Decidable b] {r : Result} {plan : Result × (State → State)}
    (h : ¬ b → PlanKept s plan) : PlanKept s (if b then justAnswer r else plan) := by
  split
  · exact justAnswer_kept s r
  · next no => exact h no

theorem State.perform_kept {s : State} {plan : Result × (State → State)} (h : PlanKept s plan) (l : Link)
    (k : BitVec 7) : OrderKept s (s.perform l k plan) := h _ (s.answer_grow l k _)

theorem State.queueRequest_kept {s : State} {p : Pos} {k : Slot} {a : Ant} (unheld : s.heldAnt p k ≠ some a)
    (own : k = .listen → s.heldAnt p .main ≠ some a) (noWait : Bool) : PlanKept s (s.queueRequest p k a noWait) := by
  unfold State.queueRequest
  refine PlanKept.ite_answer fun _ => ?_
  split
  · exact .of_effect fun t => t.claimEntry_kept a p k
  · refine PlanKept.ite_answer fun other t grow => ?_
    refine State.appendEntry_kept (grow.kept.trans (t.removePending_kept p k)) _ fun _ => ?_
    rw [State.removePending_books, grow.same.books]
    refine ⟨by simp [Books.forget], fun j => ?_, unheld, own⟩
    simp only [Books.forget, true_and]
    split
    · nofun
    · cases k <;> cases j <;> simp_all [State.books]

theorem State.selectMain_kept (s : State) (p : Pos) (antenna : Byte) (noWait : Bool) :
    PlanKept s (s.selectMain p antenna noWait) := by
  unfold State.selectMain
  refine PlanKept.ite_answer fun _ => ?_
  split
  · split
    · exact justAnswer_kept s _
    · refine .ite_answer fun _ => .ite_answer fun _ => .ite_answer fun _ => .ite_answer fun other => ?_
      split
      · next free =>
        intro t grow
        refine State.grantMain_kept grow.kept (fun _ => ?_) .operator
        rw [grow.same.alloc]
        exact Option.isNone_iff_eq_none.mp free
      · exact State.queueRequest_kept (k := .main) (by simpa using other) (fun e => by cases e) noWait
  all_goals exact justAnswer_kept s _

theorem State.selectListen_kept (s : State) (p : Pos) (antenna : Byte) (noWait : Bool) :
    PlanKept s (s.selectListen p antenna noWait) := by
  unfold State.selectListen
  refine PlanKept.ite_answer fun _ => ?_
  split
  · split
    · exact justAnswer_kept s _
    · next a _ =>
      refine .ite_answer fun _ => .ite_answer fun eligible => .ite_answer fun _ => .ite_answer fun other => ?_
      have own : s.heldAnt p .main ≠ some a := by
        intro e
        simp [e] at eligible
      have apart : s.heldAnt p .listen ≠ some a := by simpa using other
      split
      · next room =>
        intro t grow
        refine State.grantListen_kept grow.kept (fun _ => ?_) .operator
        rw [grow.eq]
        exact ⟨room, apart, own⟩
      · exact .ite_answer fun _ => State.queueRequest_kept apart (fun _ => own) noWait
  all_goals exact justAnswer_kept s _

theorem State.freqRequest_kept (s : State) (p : Pos) (rx : BitVec 32) (tx : Option (BitVec 32)) :
    PlanKept s (s.freqRequest p rx tx) :=
  .ite_answer fun _ => .ite_answer fun _ => .ite_answer fun _ => .of_effect fun t => t.newReport_kept p _

theorem State.protectRequest_kept (s : State) (p : Pos) (on : Bool) : PlanKept s (s.protectRequest p on) := by
  unfold State.protectRequest
  refine PlanKept.ite_answer fun _ => ?_
  split
  · split
    · exact justAnswer_kept s _
    · exact .ite_answer fun _ => .ite_answer fun _ => .of_effect fun t => t.setFlag_kept p true
  · exact .of_effect fun t => t.setFlag_kept p false

theorem State.clearLock_kept (s : State) (p : Pos) : PlanKept s (s.clearLock p) := by
  unfold State.clearLock
  split
  · exact justAnswer_kept s _
  · split
    · exact justAnswer_kept s _
    · exact .of_effect fun t => t.enter_kept p .idle
  all_goals exact justAnswer_kept s _

/-- A drop is refused to a position that is PARKED or in key span, or made (R61, R62). -/
theorem State.drops_kept (s : State) (p : Pos) : PlanKept s (s.dropMain p) ∧ PlanKept s (s.dropListen p) :=
  ⟨.ite_answer fun _ => .ite_answer fun _ => .of_effect fun t => t.dropMainEffect_kept p,
    .ite_answer fun _ => .ite_answer fun _ => .of_effect fun t => t.lose_kept p .listen _⟩

theorem State.positionPlan_kept (s : State) (p : Pos) (r : Request) : PlanKept s (s.positionPlan p r) := by
  cases r with
  | selectMain a w => exact s.selectMain_kept p a w
  | selectListen a w => exact s.selectListen_kept p a w
  | dropMain => exact (s.drops_kept p).1
  | dropListen => exact (s.drops_kept p).2
  | cancel x => exact .of_effect fun t => t.cancelEffect_kept p x
  | freq rx tx => exact s.freqRequest_kept p rx tx
  | protect on => exact s.protectRequest_kept p on
  | clear => exact s.clearLock_kept p
  | _ => exact justAnswer_kept s _

theorem State.setXp_kept (s : State) (p : Pos) (a : Ant) (x : Crosspoint) : OrderKept s (s.setXp p a x) :=
  .of_same rfl rfl rfl rfl

theorem State.restartWatches_kept (s : State) (a : Ant) : OrderKept s (s.restartWatches a) :=
  OrderKept.each allPos _ (fun p t => t.setXp_kept p a _) s

theorem State.faultClearRequest_kept (s : State) (antenna : Byte) : PlanKept s (s.faultClearRequest antenna) := by
  unfold State.faultClearRequest
  split
  · exact justAnswer_kept s _
  · split
    · exact justAnswer_kept s _
    · next a _ => exact .of_effect fun t => (t.setFault_kept a false).trans (State.restartWatches_kept _ a)

theorem State.saveRequest_kept (s : State) : PlanKept s s.saveRequest :=
  .ite_answer fun _ => .ite_answer fun _ => .of_effect fun _ => .of_same rfl rfl rfl rfl

theorem State.writeRequest_kept (s : State) (w : Option WriteItem) : PlanKept s (s.writeRequest w) := by
  unfold State.writeRequest
  refine .ite_answer fun _ => .ite_answer fun _ => ?_
  split
  · exact justAnswer_kept s _
  · split
    · exact justAnswer_kept s _
    · next x clamped value =>
      refine PlanKept.ite_answer fun tables => .ite_answer fun free t grow => grow.kept.trans ?_
      dsimp only
      split
      · exact .refl t
      · rw [State.applyWrite_eq]
        refine (State.written_kept (WriteItem.value_valid value) ?_ ?_).trans (State.deliver_kept _ _ x)
        · rw [grow.eq]
          exact Bool.eq_false_iff.mpr tables
        · rw [grow.eq]
          exact Bool.eq_false_iff.mpr free

/-! ## Power and reset (R9, R180 to R182) -/

/-- Both books empty. -/
def Books.empty : Books where
  held _ _ := none
  pend _ _ := none
  holder _ := none
  listeners _ := []
  waits _ := []

theorem Books.empty_agree (capacity : Ant → Nat) : Books.empty.Agree capacity := by
  constructor <;> simp [Books.empty]

theorem State.books_of_initial {s : State} (alloc : s.alloc = Vector.replicate 20 AllocRecord.initial)
    (hold : s.hold = Vector.replicate 6 HoldRecord.initial) : s.books = Books.empty := by
  ext1
  case held => funext p k; cases k <;> simp [State.books, State.heldAnt, hold, HoldRecord.holding, HoldRecord.initial,
    Books.empty]
  case pend => funext p k; cases k <;> simp [State.books, hold, HoldRecord.pend, HoldRecord.initial, Books.empty]
  all_goals funext a; simp [State.books, alloc, AllocRecord.initial, Books.empty]

/-- A state whose books, pending list and change sets are empty is in order. -/
theorem OrderKept.of_initial {s t : State} (alloc : t.alloc = Vector.replicate 20 AllocRecord.initial)
    (hold : t.hold = Vector.replicate 6 HoldRecord.initial) (list : t.drv.list = []) (inProg : t.drv.inProg = [])
    (cfg : s.CfgValid → t.CfgValid) : OrderKept s t where
  books _ := t.booksAgree_iff.mpr (by rw [State.books_of_initial alloc hold]; exact Books.empty_agree _)
  list _ := by simp [State.ListOrder, list, inProg]
  cfg := cfg

theorem State.cutSave_kept (s : State) : OrderKept s s.cutSave := by
  unfold State.cutSave
  split
  · exact .of_same rfl rfl rfl rfl
  · exact .refl s

theorem State.resetLive_kept (s : State) : OrderKept s s.resetLive := .of_initial rfl rfl rfl rfl s.cutSave_kept.cfg

theorem State.powerUp_kept (s : State) : OrderKept s s.powerUp :=
  .of_initial rfl rfl rfl rfl fun _ => StoreUnit.load_valid _

theorem State.powerDown_kept (s : State) : OrderKept s s.powerDown :=
  s.cutSave_kept.trans (.of_same rfl rfl rfl rfl)

/-! ## Serving (R168, R169) -/

theorem State.report_kept (s : State) (l : Link) (k : BitVec 7) (body : Except Result (List Byte)) :
    OrderKept s (s.report l k body) := by
  cases body with
  | ok xs => exact (s.reply_grow l _).kept
  | error r => exact (s.answer_grow l k r).kept

theorem State.restartRequest_kept (s : State) (l : Link) : OrderKept s (s.restartRequest l) := by
  unfold State.restartRequest
  split
  · exact (s.answer_grow l _ _).kept
  · exact s.resetLive_kept.trans (State.answer_grow _ l _ _).kept

theorem State.servePosition_kept (s : State) (l : Link) (r : Request) : OrderKept s (s.servePosition l r) := by
  unfold State.servePosition
  split
  · exact State.perform_kept (s.positionPlan_kept _ r) l _
  · exact (s.answer_grow l _ _).kept

theorem State.serve_kept (s : State) (l : Link) (r : Request) : OrderKept s (s.serve l r) := by
  cases r with
  | selectMain _ _ | selectListen _ _ | dropMain | dropListen | cancel _ | freq _ _ | protect _ | clear =>
    exact s.servePosition_kept l _
  | queryPosition _ _ | queryAntenna _ _ | queryLink _ | status _ | configRead _ => exact s.report_kept l _ _
  | configWrite w => exact State.perform_kept (s.writeRequest_kept w) l _
  | save => exact State.perform_kept s.saveRequest_kept l _
  | restart => exact s.restartRequest_kept l
  | faultClear a => exact State.perform_kept (s.faultClearRequest_kept a) l _
  | monitor on =>
    have monitored (t : State) : OrderKept t (t.setMonitor on) := .of_same rfl rfl rfl rfl
    exact State.perform_kept (plan := (.done, fun t => t.setMonitor on)) (.of_effect monitored) l _

theorem State.takeFrame_kept (s : State) (l : Link) (f : Frame) : OrderKept s (s.takeFrame l f) := by
  unfold State.takeFrame
  split
  · exact s.serve_kept l _
  · exact (s.answer_grow l _ _).kept

theorem State.setLink_kept (s : State) (l : Link) (x : LinkState) :
    OrderKept s (s.setLink l x) := .of_same rfl rfl rfl rfl

theorem State.arrive_kept (s : State) (l : Link) (f : Frame) {take : State → State} (h : OrderKept s (take s)) :
    OrderKept s (s.arrive l f take) := by
  unfold State.arrive
  split
  · exact .refl s
  · split
    · exact s.setLink_kept l _
    · split
      · exact h
      · exact s.setLink_kept l _

theorem State.request_kept (s : State) (l : Link) (r : Request) : OrderKept s (s.request l r) :=
  s.arrive_kept l _ (s.serve_kept l r)

theorem State.takeSamples_kept (s : State) (l : Link) (c : CharSamples) : OrderKept s (s.takeSamples l c) := by
  unfold State.takeSamples State.afterChar
  split
  · exact .refl s
  · split
    · exact s.setLink_kept l _
    · split
      · exact (s.setLink_kept l _).trans (State.arrive_kept _ l _ (State.takeFrame_kept _ l _))
      · exact s.setLink_kept l _

/-! ## The commands of the sampler, the sequencer and the driver -/

theorem whenPowered_kept {s t : State} {f : State → State} (h : whenPowered s f = .next t) (kept : OrderKept s (f s)) :
    OrderKept s t := by
  obtain ⟨-, rfl⟩ | ⟨-, rfl⟩ := whenPowered_cases h
  · exact kept
  · exact .refl _

section
variable {s t : State}

theorem execPttChange_kept {p : Pos} (h : execPttChange p s = .next t) : OrderKept s t := by
  refine whenPowered_kept h ?_
  dsimp only
  split
  · exact (s.setLines_kept p _).trans (State.seqPtt_kept _ p _)
  · exact .refl s

theorem execRfsChange_kept {p : Pos} (h : execRfsChange p s = .next t) : OrderKept s t := by
  refine whenPowered_kept h ?_
  dsimp only
  split
  · exact (s.setLines_kept p _).trans (State.seqRfs_kept _ p _)
  · exact .refl s

theorem execKeyLineFault_kept {p : Pos} (h : execKeyLineFault p s = .next t) : OrderKept s t := by
  refine whenPowered_kept h ?_
  dsimp only
  split
  · split
    · exact (s.setLines_kept p _).trans (State.seqKeyLine_kept _ p)
    · exact .refl s
  · exact .refl s

theorem execBandCodeEvent_kept {p : Pos} (h : execBandCodeEvent p s = .next t) : OrderKept s t := by
  refine whenPowered_kept h ?_
  dsimp only
  split
  · split
    · exact (s.setLines_kept p _).trans (State.takeCode_kept _ p _)
    · exact .refl s
  · exact .refl s

theorem execEditChange_kept (h : execEditChange s = .next t) : OrderKept s t := by
  refine whenPowered_kept h ?_
  split
  · exact .of_same rfl rfl rfl rfl
  · exact .refl s

/-- The entry that expires is one its position awaits (R48, R75). -/
theorem execWaitExpiry_kept {a : Ant} {p : Pos} (h : execWaitExpiry a p s = .next t) : OrderKept s t := by
  refine whenPowered_kept h ?_
  split
  · next e found =>
    split
    · refine State.expire_kept (.refl s) (fun agree => agree.waitsPend p e.kind a ?_) .wait
      rw [State.waitsOn_iff]
      have samePos : e.pos = p := by simpa using List.find?_some found
      exact ⟨e, List.mem_of_find?_eq_some found, samePos, rfl⟩
    · exact .refl s
  · exact .refl s

theorem execOpeningPhaseEnd_kept {p : Pos} (h : execOpeningPhaseEnd p s = .next t) : OrderKept s t := by
  refine whenPowered_kept h ?_
  split
  · next c running =>
    split
    · split
      · exact (s.endOpening_kept fun order => order.single running).trans (State.recomputeBlank_kept _)
      · exact .refl s
    all_goals exact .refl s
  · exact .refl s

theorem execClosingPhaseStart_kept {p : Pos} (h : execClosingPhaseStart p s = .next t) : OrderKept s t := by
  refine whenPowered_kept h ?_
  split
  · next c running =>
    split
    · split
      · exact (State.beginClosing_kept (.refl s) fun order => order.single running).trans (State.recomputeBlank_kept _)
      · exact .refl s
    all_goals exact .refl s
  · exact .refl s

theorem execClosingPhaseEnd_kept {p : Pos} (h : execClosingPhaseEnd p s = .next t) : OrderKept s t := by
  refine whenPowered_kept h ?_
  split
  · split
    · split
      · exact (s.endClosing_kept _).trans (State.recomputeBlank_kept _)
      · exact .refl s
    all_goals exact .refl s
  · exact .refl s

theorem execCrosspointWatchFault_kept {p : Pos} {a : Ant} (h : execCrosspointWatchFault p a s = .next t) :
    OrderKept s t := by
  refine whenPowered_kept h ?_
  split
  · split
    · exact (s.setXp_kept p a _).trans (State.relayFault_kept _ p a .watch)
    · exact .refl s
  · exact .refl s

theorem execReleaseDelayExpiry_kept (h : execReleaseDelayExpiry s = .next t) : OrderKept s t := by
  have opened : OrderKept s s.releaseOpening := .of_same rfl rfl rfl rfl
  refine whenPowered_kept h ?_
  split
  · split
    · exact opened.trans (State.recomputeBlank_kept _)
    · exact .refl s
  all_goals exact .refl s

theorem execReleaseOpeningEnd_kept (h : execReleaseOpeningEnd s = .next t) : OrderKept s t := by
  refine whenPowered_kept h ?_
  split
  · split
    · exact s.endRelease_kept
    · exact .refl s
  all_goals exact .refl s

/-! ## The commands of power and of the links -/

theorem execPowerOn_kept (h : execPowerOn s = .next t) : OrderKept s t := by
  obtain rfl : (if s.powered then s else s.powerUp) = t := by simpa [execPowerOn] using h
  split
  · exact .refl s
  · exact s.powerUp_kept

theorem State.setResetLine_kept (s : State) (x : Line) : OrderKept s (s.setResetLine x) := .of_same rfl rfl rfl rfl

theorem execResetEvent_kept (h : execResetEvent s = .next t) : OrderKept s t := by
  refine whenPowered_kept h ?_
  split
  · exact (s.setResetLine_kept _).trans (State.resetLive_kept _)
  · exact .refl s

theorem execResetRelease_kept (h : execResetRelease s = .next t) : OrderKept s t := by
  refine whenPowered_kept h ?_
  split
  · exact s.setResetLine_kept _
  · exact .refl s

theorem execSaveEnd_kept (h : execSaveEnd s = .next t) : OrderKept s t := by
  refine whenPowered_kept h ?_
  unfold State.endSave
  split
  · exact .of_same rfl rfl rfl rfl
  · exact .refl s

theorem execFrameReceived_kept {l : Link} {c : CharSamples} (h : execFrameReceived l c s = .next t) :
    OrderKept s t := by
  refine whenPowered_kept h ?_
  split
  · exact s.takeSamples_kept l c
  · exact .refl s

theorem execFrameGapTimeout_kept {l : Link} (h : execFrameGapTimeout l s = .next t) : OrderKept s t := by
  refine whenPowered_kept h ?_
  split
  · split
    · exact s.setLink_kept l _
    · exact .refl s
  · exact .refl s

theorem execFrameTaken_kept {l : Link} (h : execFrameTaken l s = .next t) : OrderKept s t := by
  refine whenPowered_kept h ?_
  split
  · split
    · exact (s.setLink_kept l _).trans (State.takeFrame_kept _ l _)
    · exact .refl s
  · exact .refl s

theorem execDivisorApplied_kept {l : Link} (h : execDivisorApplied l s = .next t) : OrderKept s t := by
  refine whenPowered_kept h ?_
  dsimp only
  split
  · exact s.setLink_kept l _
  · exact .refl s

end

/-! ## Every step -/

theorem exec_kept {c : Instr} {s t : State} (h : exec c s = .next t) : OrderKept s t := by
  unfold exec at h
  cases c with
  | powerOn => exact execPowerOn_kept h
  | resetEvent => exact execResetEvent_kept h
  | resetRelease => exact execResetRelease_kept h
  | lossOfPower => exact whenPowered_kept h s.powerDown_kept
  | samplingInstant x => exact whenPowered_kept h (s.sample_kept x)
  | editChange => exact execEditChange_kept h
  | pttChange p => exact execPttChange_kept h
  | rfsChange p => exact execRfsChange_kept h
  | keyLineFault p => exact execKeyLineFault_kept h
  | bandCodeEvent p => exact execBandCodeEvent_kept h
  | freshnessExpiry p => exact whenPowered_kept h (s.freshEnd_kept p)
  | dwellExpiry p side => exact whenPowered_kept h (s.dwellEnd_kept p side)
  | waitExpiry a p => exact execWaitExpiry_kept h
  | yieldExpiry a => exact whenPowered_kept h (s.yieldIfDue_kept a)
  | changeSetStart => exact whenPowered_kept h (s.startFirst_kept.trans (State.recomputeBlank_kept _))
  | openingPhaseEnd p => exact execOpeningPhaseEnd_kept h
  | closingPhaseStart p => exact execClosingPhaseStart_kept h
  | closingPhaseEnd p => exact execClosingPhaseEnd_kept h
  | crosspointWatchFault p a => exact execCrosspointWatchFault_kept h
  | contactSenseChange p a closed => exact whenPowered_kept h ((s.setXp_kept p a _).trans (State.recomputeBlank_kept _))
  | filterSwitchBegin p => exact whenPowered_kept h (s.beginPending_kept p)
  | filterSwitchEnd p => exact whenPowered_kept h (s.endFilter_kept p)
  | releaseDelayExpiry => exact execReleaseDelayExpiry_kept h
  | releaseOpeningEnd => exact execReleaseOpeningEnd_kept h
  | amplifierSettleExpiry p => exact whenPowered_kept h (s.trySettle_kept p)
  | keyTimeLimitExpiry p => exact whenPowered_kept h (s.keyLimit_kept p)
  | tailEnd p => exact whenPowered_kept h (s.tailLimit_kept p)
  | saveEnd => exact execSaveEnd_kept h
  | characterReceived l x => exact whenPowered_kept h (s.takeSamples_kept l x)
  | framingError l => exact whenPowered_kept h (s.setLink_kept l _)
  | frameGapTimeout l => exact execFrameGapTimeout_kept h
  | frameReceived l x => exact execFrameReceived_kept h
  | frameTaken l => exact execFrameTaken_kept h
  | frameSent l => exact whenPowered_kept h (s.setLink_kept l _)
  | divisorApplied l => exact execDivisorApplied_kept h
  | configRead body => exact whenPowered_kept h (s.arrive_kept _ _ (s.serve_kept _ _))
  | freq _ _ _ | selectMain _ _ _ | selectListen _ _ _ | dropMain _ | dropListen _ | cancel _ _ | clear _ | protect _ _
  | faultClear _ | monitor _ | queryPosition _ _ _ | queryAntenna _ _ _ | queryLink _ _ | status _
  | writeAntennaRecord _ _ | writeSegmentMapEntry _ _ _ | writePreferenceList _ _ _ _ | writePositionSettings _ _
  | writeBandSettings _ _ | writeStationSettings _ _ | writeInterlockRule _ _ | writeLinkDivisor _ _ | save | restart =>
    exact whenPowered_kept h (s.request_kept _ _)

/-- Every step keeps the agreement of the books, the order of the pending list and the validity of the configuration. -/
theorem step_kept {s t : State} (h : step s = .next t) : OrderKept s t := by
  unfold step at h
  split at h
  · cases h
    exact .refl s
  · next c rest _ =>
    have taken : OrderKept s { s with pending := rest } := .of_same rfl rfl rfl rfl
    exact taken.trans (exec_kept h)

/-- Settles O58: the agreement of the books and the order of the pending list are two of the three that a step keeps. -/
theorem booksStayInAgreement : Obligations.BooksStayInAgreement :=
  fun _ _ h => ⟨(step_kept h).books, (step_kept h).list⟩

/-- Settles O59: the validity of the configuration is the third; a write and the load of a store put valid items
alone. -/
theorem configurationStaysValid : Obligations.ConfigurationStaysValid := fun _ _ valid h => (step_kept h).cfg valid

end Sys2Proof.Machine
end

section
/-! SUPPORT. Antenna requests: the plans of SELECT_MAIN, SELECT_LISTEN, DROP_MAIN, DROP_LISTEN and CANCEL (R55 to R63), their
checks in order, and the requests that end with a place in a queue or with none. -/

namespace Sys2Proof.Machine

/-! ## Serving a position request (R168, R169) -/

/-- A position request on a serving link of its position is answered with its plan, and the plan's effect follows. -/
theorem State.Serving.servePosition {s : State} {p : Pos} (h : s.Serving (linkOf p)) (r : Request) :
    s.servePosition (linkOf p) r =
      (s.positionPlan p r).2 (s.onlyAnswers (linkOf p) r.kind (s.positionPlan p r).1) := by
  rw [State.servePosition, posOfLink_linkOf]
  exact h.perform r.kind (s.positionPlan p r)

section Requests

variable {s : State} {p : Pos}

theorem exec_selectMain (h : s.Serving (linkOf p)) (x : Byte) (w : Bool) :
    exec (.selectMain p x w) s =
      .next ((s.selectMain p x w).2 (s.onlyAnswers (linkOf p) 1 (s.selectMain p x w).1)) := by
  rw [show exec (.selectMain p x w) s = whenPowered s fun s => s.request (linkOf p) (.selectMain x w) from rfl,
    whenPowered_on h.1, h.request]
  exact congrArg _ (h.servePosition (.selectMain x w))

theorem exec_selectListen (h : s.Serving (linkOf p)) (x : Byte) (w : Bool) :
    exec (.selectListen p x w) s =
      .next ((s.selectListen p x w).2 (s.onlyAnswers (linkOf p) 2 (s.selectListen p x w).1)) := by
  rw [show exec (.selectListen p x w) s = whenPowered s fun s => s.request (linkOf p) (.selectListen x w) from rfl,
    whenPowered_on h.1, h.request]
  exact congrArg _ (h.servePosition (.selectListen x w))

theorem exec_dropMain (h : s.Serving (linkOf p)) :
    exec (.dropMain p) s = .next ((s.dropMain p).2 (s.onlyAnswers (linkOf p) 3 (s.dropMain p).1)) := by
  rw [show exec (.dropMain p) s = whenPowered s fun s => s.request (linkOf p) .dropMain from rfl,
    whenPowered_on h.1, h.request]
  exact congrArg _ (h.servePosition .dropMain)

theorem exec_dropListen (h : s.Serving (linkOf p)) :
    exec (.dropListen p) s = .next ((s.dropListen p).2 (s.onlyAnswers (linkOf p) 4 (s.dropListen p).1)) := by
  rw [show exec (.dropListen p) s = whenPowered s fun s => s.request (linkOf p) .dropListen from rfl,
    whenPowered_on h.1, h.request]
  exact congrArg _ (h.servePosition .dropListen)

theorem exec_cancel (h : s.Serving (linkOf p)) (x : CancelSlot) :
    exec (.cancel p x) s = .next ((s.onlyAnswers (linkOf p) 5 .done).cancelEffect p x) := by
  rw [show exec (.cancel p x) s = whenPowered s fun s => s.request (linkOf p) (.cancel x) from rfl,
    whenPowered_on h.1, h.request]
  exact congrArg _ (h.servePosition (.cancel x))

end Requests

/-! ## The checks in order (R55, R59) -/

theorem numOf_of_toNat {x : Byte} {a : Ant} (h : x.toNat = a.val + 1) : numOf 20 x = some a := by
  have range : 1 ≤ x.toNat ∧ x.toNat ≤ 20 := by omega
  rw [numOf, dif_pos range, Option.some.injEq]
  exact Fin.ext (by simp [h])

theorem toNat_of_numOf {x : Byte} {a : Ant} (h : numOf 20 x = some a) : x.toNat = a.val + 1 := by
  unfold numOf at h
  split at h
  · next range =>
    cases h
    exact (Nat.sub_add_cancel range.1).symm
  · cases h

theorem State.present_of_mainElig {s : State} {a : Ant} {p : Pos} (h : s.mainElig a p = true) :
    s.cfg.ants[a].present = true := by
  simp only [State.mainElig, Bool.and_eq_true] at h
  exact h.1.1.1

theorem State.present_of_listenElig {s : State} {a : Ant} {p : Pos} (h : s.listenElig a p = true) :
    s.cfg.ants[a].present = true := by
  simp only [State.listenElig, Bool.and_eq_true] at h
  exact h.1.1

section Checks

variable {s : State} {p : Pos} {x : Byte} {w : Bool} {a : Ant} {b : Band}

theorem State.selectMain_parked (h : s.isParked p = true) : s.selectMain p x w = justAnswer .parked := if_pos h

theorem State.selectMain_band (h : s.isParked p = false) (hb : ∀ b, s.bands[p].state ≠ .valid b) :
    s.selectMain p x w = justAnswer .band := by
  rw [State.selectMain, if_neg (by simp [h])]
  split
  · next b e => exact absurd e (hb b)
  all_goals rfl

theorem State.selectMain_unknown (h : s.isParked p = false) (hb : s.bands[p].state = .valid b)
    (hx : ∀ a : Ant, x.toNat = a.val + 1 → s.cfg.ants[a].present = false) :
    s.selectMain p x w = justAnswer .unknown := by
  rw [State.selectMain, if_neg (by simp [h])]
  simp only [hb]
  split
  · rfl
  · next a e => exact if_pos (by simp [-Fin.getElem_fin, hx a (toNat_of_numOf e)])

/-- SELECT_MAIN of a present antenna, from the fourth check on (R55 to R57). -/
theorem State.selectMain_present (h : s.isParked p = false) (hb : s.bands[p].state = .valid b)
    (hx : x.toNat = a.val + 1) (here : s.cfg.ants[a].present = true) :
    s.selectMain p x w =
      if !s.mainElig a p then justAnswer .ineligible
      else if s.inSpan p then justAnswer .keyed
      else if s.heldAnt p .main == some a then justAnswer .done
      else if s.alloc[a].holder.isNone then (.done, fun t => t.grantMain p a .operator)
      else s.queueRequest p .main a w := by
  rw [State.selectMain, if_neg (by simp [h])]
  simp only [hb, numOf_of_toNat hx]
  exact if_neg (by simp [-Fin.getElem_fin, here])

theorem State.selectListen_parked (h : s.isParked p = true) : s.selectListen p x w = justAnswer .parked := if_pos h

theorem State.selectListen_band (h : s.isParked p = false) (hb : ∀ b, s.bands[p].state ≠ .valid b) :
    s.selectListen p x w = justAnswer .band := by
  rw [State.selectListen, if_neg (by simp [h])]
  split
  · next b e => exact absurd e (hb b)
  all_goals rfl

theorem State.selectListen_unknown (h : s.isParked p = false) (hb : s.bands[p].state = .valid b)
    (hx : ∀ a : Ant, x.toNat = a.val + 1 → s.cfg.ants[a].present = false) :
    s.selectListen p x w = justAnswer .unknown := by
  rw [State.selectListen, if_neg (by simp [h])]
  simp only [hb]
  split
  · rfl
  · next a e => exact if_pos (by simp [-Fin.getElem_fin, hx a (toNat_of_numOf e)])

/-- SELECT_LISTEN of a present antenna, from the fourth check on (R59, R60). -/
theorem State.selectListen_present (h : s.isParked p = false) (hb : s.bands[p].state = .valid b)
    (hx : x.toNat = a.val + 1) (here : s.cfg.ants[a].present = true) :
    s.selectListen p x w =
      if !s.listenElig a p || s.heldAnt p .main == some a then justAnswer .ineligible
      else if s.inSpan p then justAnswer .keyed
      else if s.heldAnt p .listen == some a then justAnswer .done
      else if s.hasListenRoom a then (.done, fun t => t.grantListen p a .operator)
      else if s.cfg.ants[a].capacity == 0 then justAnswer .busy
      else s.queueRequest p .listen a w := by
  rw [State.selectListen, if_neg (by simp [h])]
  simp only [hb, numOf_of_toNat hx]
  exact if_neg (by simp [-Fin.getElem_fin, here])

end Checks

/-- Settles O19: each check is the first that fails where those before it pass. -/
theorem selectMainRefusesInOrder : Obligations.SelectMainRefusesInOrder := by
  intro s p x w serving
  have answers {r : Result} (plan : s.selectMain p x w = justAnswer r) :
      exec (.selectMain p x w) s = .next (s.onlyAnswers (linkOf p) 1 r) := by
    rw [exec_selectMain serving, plan]
    rfl
  refine ⟨fun parked => answers (State.selectMain_parked parked),
    fun parked band => answers (State.selectMain_band parked band), fun b parked band =>
    ⟨fun absent => answers (State.selectMain_unknown parked band absent), fun a num here => ?_⟩⟩
  have plan := State.selectMain_present (w := w) parked band num here
  refine ⟨fun bad => answers (plan.trans (by simp [bad])), fun good keyed => answers (plan.trans (by simp [good, keyed])),
    fun good out own => answers (plan.trans (by simp [good, out, own]))⟩

/-! ## A place in a queue (R57, R60) -/

section Queue

variable {s : State} {p : Pos} {k : Slot} {a : Ant}

/-- What a place in the queue of an antenna makes of `s`: the earlier request of the slot goes without notice, an entry of
origin OPERATOR joins the end of the queue, and no holding changes. -/
structure QueuedFor (s t : State) (p : Pos) (k : Slot) (a : Ant) : Prop where
  links : t.links = s.links
  pend : t.hold[p].pend k = some a
  queue : t.alloc[a].queue = s.alloc[a].queue ++ [⟨p, k, .operator, s.now⟩]
  earlier : ∀ c : Ant, s.hold[p].pend k = some c → t.waitsOn p k c = false
  holdings : ∀ q : Pos, t.hold[q].main = s.hold[q].main ∧ t.hold[q].listen = s.hold[q].listen
  lists : ∀ c : Ant, t.alloc[c].holder = s.alloc[c].holder ∧ t.alloc[c].listeners = s.alloc[c].listeners
  rest : RestKept s t
  bands : t.bands = s.bands
  drv : t.drv = s.drv
  seqs : t.seqs = s.seqs
  outs : t.outs = s.outs

/-- A pending request removed without notice shows in its queue and in its holding record alone. -/
theorem State.removePending_eq (s : State) (p : Pos) (k : Slot) : ∃ al : Vector AllocRecord 20,
    s.removePending p k = { s with alloc := al, hold := upd s.hold p (s.hold[p].setPend k none) } ∧
      ∀ c : Ant, al[c].holder = s.alloc[c].holder ∧ al[c].listeners = s.alloc[c].listeners ∧
        al[c].queue = if s.hold[p].pend k = some c then s.alloc[c].queue.filter fun e => !(e.pos == p && e.kind == k)
          else s.alloc[c].queue := by
  unfold State.removePending
  split
  · next none =>
    refine ⟨s.alloc, ?_, fun c => ⟨rfl, rfl, by simp [-Fin.getElem_fin, none]⟩⟩
    have same : s.hold[p].setPend k .none = s.hold[p] := by rw [← none]; cases k <;> rfl
    rw [same, upd_self]
  · next a some =>
    refine ⟨_, rfl, fun c => ?_⟩
    have queue := BookAct.apply_queue (s := s) (x := .remove a p k) trivial c
    refine ⟨BookAct.apply_holder (x := .remove a p k) trivial c, queue.2, queue.1.trans ?_⟩
    simp [-Fin.getElem_fin, BookAct.queue, some]

theorem State.appendEntry_queued (fresh : s.hold[p].pend k ≠ some a) :
    QueuedFor s ((s.removePending p k).appendEntry a p k .operator) p k a := by
  obtain ⟨al, removed, lists⟩ := s.removePending_eq p k
  rw [removed]
  generalize hu : ({ s with alloc := al, hold := upd s.hold p (s.hold[p].setPend k none) } : State) = u
  have alloc : u.alloc = al := by rw [← hu]
  have queues (c : Ant) := (BookAct.apply_queue (s := u) (x := .append a p k .operator) trivial c)
  have frame : AllocFrame s u := by
    rw [← hu, ← removed]
    exact s.removePending_frame p k
  refine ⟨by rw [← hu]; rfl, ?_, ?_, fun c earlier => ?_, fun q => ?_, fun c => ⟨?_, ?_⟩,
    (frame.trans (u.appendEntry_frame a p k _)).restKept, ?_, ?_, ?_, ?_⟩
  · exact (BookAct.apply_pend (x := .append a p k .operator) trivial p k).trans (by simp [BookAct.pend])
  · refine (queues a).1.trans ?_
    simp [-Fin.getElem_fin, BookAct.queue, alloc, lists a, fresh, frame.now]
  · have other : a ≠ c := fun e => fresh (e ▸ earlier)
    refine (congrArg (List.any · fun e => e.pos == p && e.kind == k) (queues c).1).trans ?_
    simp only [BookAct.queue, alloc, lists c, earlier, other, if_true, if_false, List.any_filter, List.any_eq_false]
    exact fun e _ => by cases e.pos == p && e.kind == k <;> simp
  · have held : (u.appendEntry a p k .operator).hold[q].main = s.hold[q].main ∧
        (u.appendEntry a p k .operator).hold[q].listen = s.hold[q].listen := by
      rw [← hu]
      simp only [State.appendEntry, State.redetermine, State.setAlloc_hold, State.setHold_hold, upd_get]
      split
      · next e => subst e; cases k <;> exact ⟨rfl, rfl⟩
      · exact ⟨rfl, rfl⟩
    exact held
  · exact (BookAct.apply_holder (x := .append a p k .operator) trivial c).trans
      (by simp [-Fin.getElem_fin, BookAct.holder, alloc, lists c])
  · exact (queues c).2.trans (by simp [-Fin.getElem_fin, BookAct.listeners, alloc, lists c])
  all_goals rw [← hu]; rfl

/-- What a request for a held or full antenna gets, case by case (R57, R60). -/
theorem State.queueRequest_noWait (s : State) (p : Pos) (k : Slot) (a : Ant) :
    s.queueRequest p k a true = justAnswer .busy := rfl

theorem State.queueRequest_own (h : s.hold[p].pend k = some a) :
    s.queueRequest p k a false = (.queued, fun t => t.claimEntry a p k) := by
  simp only [State.queueRequest, Bool.false_eq_true, if_false, h, beq_self_eq_true, if_true]

theorem State.queueRequest_other (h : s.hold[p].pend k ≠ some a) {j : Slot} (hj : j ≠ k)
    (other : s.hold[p].pend j = some a) : s.queueRequest p k a false = justAnswer .busy := by
  simp only [State.queueRequest, Bool.false_eq_true, if_false, beq_iff_eq, h]
  cases k with
  | main =>
    cases j with
    | main => exact absurd rfl hj
    | listen => exact if_pos other
  | listen =>
    cases j with
    | main => exact if_pos other
    | listen => exact absurd rfl hj

theorem State.queueRequest_new (h : ∀ j, s.hold[p].pend j ≠ some a) :
    s.queueRequest p k a false = (.queued, fun t => (t.removePending p k).appendEntry a p k .operator) := by
  simp only [State.queueRequest, Bool.false_eq_true, if_false, beq_iff_eq, h]

/-- An entry claimed becomes one of origin OPERATOR in its place, and nothing else changes. -/
theorem State.claimEntry_eq (s : State) (a : Ant) (p : Pos) (k : Slot) :
    s.claimEntry a p k = { s with alloc := upd s.alloc a { s.alloc[a] with queue := s.alloc[a].queue.map fun e =>
      if e.pos = p ∧ e.kind = k then { e with origin := .operator } else e } } := by
  simp only [State.claimEntry, State.setAlloc, Bool.and_eq_true, beq_iff_eq]

end Queue

/-- Settles O17: with no-wait the request gets BUSY, and without it what the pending requests of the position say. -/
theorem selectMainQueuesOnHeldAntenna : Obligations.SelectMainQueuesOnHeldAntenna := by
  intro s p h x a b serving parked band num good out held other
  have plan (w : Bool) : s.selectMain p x w = s.queueRequest p .main a w :=
    (State.selectMain_present parked band num (State.present_of_mainElig good)).trans
      (by simp [-Fin.getElem_fin, good, out, other, held])
  have asked (w : Bool) := (exec_selectMain serving x w).trans (by rw [plan])
  refine ⟨(asked true).trans (by rw [State.queueRequest_noWait]; rfl), fun own => ?_, fun fresh listens => ?_,
    fun fresh apart => ?_⟩
  · rw [asked, State.queueRequest_own (k := .main) own]
    exact congrArg _ (State.claimEntry_eq _ a p .main)
  · rw [asked, State.queueRequest_other (k := .main) fresh (j := .listen) (by nofun) listens]
    rfl
  · rw [asked, State.queueRequest_new fun j => by cases j <;> assumption]
    have queued : QueuedFor (s.onlyAnswers (linkOf p) 1 .queued) _ p .main a := State.appendEntry_queued fresh
    exact ⟨_, rfl, queued.links, queued.pend, queued.queue, queued.earlier, queued.holdings, queued.lists,
      (s.onlyAnswers_restKept _ _ _).trans queued.rest, queued.bands, queued.drv, queued.seqs, queued.outs⟩

/-! ## CANCEL (R63) -/

/-- From `s` to `t` a position loses the pending requests of some slots with their entries, and no holding changes. -/
structure Forgets (s t : State) (p : Pos) (slots : Slot → Bool) : Prop where
  eq : t = { s with alloc := t.alloc, hold := upd s.hold p t.hold[p] }
  holding : ∀ k, t.hold[p].holding k = s.hold[p].holding k
  mark : ∀ k, t.hold[p].mark k = s.hold[p].mark k
  pend : ∀ k, t.hold[p].pend k = if slots k then none else s.hold[p].pend k
  lists : ∀ c : Ant, t.alloc[c].holder = s.alloc[c].holder ∧ t.alloc[c].listeners = s.alloc[c].listeners
  queue : ∀ c : Ant, t.alloc[c].queue = s.alloc[c].queue.filter fun e =>
    !decide (e.pos = p ∧ slots e.kind = true ∧ s.hold[p].pend e.kind = some c)

theorem State.removePending_forgets (s : State) (p : Pos) (k : Slot) :
    Forgets s (s.removePending p k) p (· == k) := by
  obtain ⟨al, removed, lists⟩ := s.removePending_eq p k
  have hold := s.removePending_hold p k
  refine ⟨?_, fun j => by rw [hold, HoldRecord.setPend_holding], fun j => by rw [hold, HoldRecord.setPend_mark],
    fun j => by simp [-Fin.getElem_fin, hold], fun c => ?_, fun c => ?_⟩
  · rw [hold, removed]
  · rw [removed]
    exact ⟨(lists c).1, (lists c).2.1⟩
  · have queue : (s.removePending p k).alloc[c].queue = _ := (congrArg (·.alloc[c].queue) removed).trans (lists c).2.2
    rw [queue]
    split
    · next here =>
      refine List.filter_congr fun e _ => ?_
      by_cases kind : e.kind = k <;> simp [-Fin.getElem_fin, kind, here, beq_eq_decide]
    · next other =>
      refine (List.filter_eq_self.mpr fun e _ => ?_).symm
      by_cases kind : e.kind = k <;> simp [-Fin.getElem_fin, kind, other]

theorem Forgets.trans {s t u : State} {p : Pos} {f g : Slot → Bool} (h : Forgets s t p f) (k : Forgets t u p g) :
    Forgets s u p fun j => f j || g j where
  eq := by rw [k.eq, h.eq, upd_upd]; simp only [upd_get_same]
  holding j := (k.holding j).trans (h.holding j)
  mark j := (k.mark j).trans (h.mark j)
  pend j := by rw [k.pend, h.pend]; cases f j <;> simp
  lists c := ⟨(k.lists c).1.trans (h.lists c).1, (k.lists c).2.trans (h.lists c).2⟩
  queue c := by
    rw [k.queue, h.queue, List.filter_filter]
    refine List.filter_congr fun e _ => ?_
    rw [h.pend]
    cases f e.kind <;> simp [-Fin.getElem_fin]

/-- The slots that a CANCEL names. -/
def slotsNamed (x : CancelSlot) (k : Slot) : Bool := x == .both || x == (match k with | .main => .main | .listen => .listen)

theorem State.cancelEffect_forgets (s : State) (p : Pos) (x : CancelSlot) :
    Forgets s (s.cancelEffect p x) p (slotsNamed x) := by
  have named {f : Slot → Bool} (h : Forgets s (s.cancelEffect p x) p f) (e : ∀ k, f k = slotsNamed x k) :
      Forgets s (s.cancelEffect p x) p (slotsNamed x) := funext e ▸ h
  cases x with
  | main => exact named (s.removePending_forgets p .main) fun k => by cases k <;> rfl
  | listen => exact named (s.removePending_forgets p .listen) fun k => by cases k <;> rfl
  | both =>
    exact named ((s.removePending_forgets p .main).trans (State.removePending_forgets _ p .listen)) fun k => by
      cases k <;> rfl

/-- Settles O21: the slots named are forgotten after the answer is placed. -/
theorem cancelRemovesPending : Obligations.CancelRemovesPending := by
  intro s p x serving
  have done := (s.onlyAnswers (linkOf p) 5 .done).cancelEffect_forgets p x
  have gone (k : Slot) (named : slotsNamed x k = true) (a : Ant) (here : s.hold[p].pend k = some a) :
      ((s.onlyAnswers (linkOf p) 5 .done).cancelEffect p x).waitsOn p k a = false := by
    rw [State.waitsOn, done.queue a, List.any_filter, List.any_eq_false]
    intro e _
    rw [show (s.onlyAnswers (linkOf p) 5 .done).hold = s.hold from rfl]
    by_cases kind : e.kind = k <;> simp [-Fin.getElem_fin, kind, named, here]
  have pend (k : Slot) := done.pend k
  refine ⟨_, exec_cancel serving x, (congrArg State.links done.eq :), fun other => ⟨?_, gone .main ?_⟩,
    fun other => ⟨?_, gone .listen ?_⟩, fun e => ?_, fun e => ?_, fun a => ?_, fun q => ?_, done.lists,
    (s.onlyAnswers_restKept _ _ _).trans (State.cancelEffect_frame _ p x).restKept, (congrArg State.bands done.eq :),
    (congrArg State.drv done.eq :), (congrArg State.seqs done.eq :), (congrArg State.outs done.eq :)⟩
  · exact (pend .main).trans (if_pos (by revert other; cases x <;> decide))
  · revert other; cases x <;> decide
  · exact (pend .listen).trans (if_pos (by revert other; cases x <;> decide))
  · revert other; cases x <;> decide
  · subst e
    exact pend .main
  · subst e
    exact pend .listen
  · refine (done.queue a).trans (List.filter_congr fun e _ => ?_)
    obtain ⟨q, k, o, n⟩ := e
    cases k <;> cases x <;> simp [slotsNamed] <;> rfl
  · have hold : ((s.onlyAnswers (linkOf p) 5 .done).cancelEffect p x).hold[q] = if p = q then _ else s.hold[q] :=
      (congrArg (·.hold[q]) done.eq).trans (upd_get _ _ _ _)
    by_cases e : p = q
    · subst e
      exact ⟨done.holding .main, done.holding .listen, done.mark .main, done.mark .listen, fun other => absurd rfl other⟩
    · rw [hold, if_neg e]
      exact ⟨rfl, rfl, rfl, rfl, fun _ => rfl⟩

end Sys2Proof.Machine
end

section
/-! SUPPORT. What the switch pending list holds for a crosspoint once a change set has joined it (R103). -/

namespace Sys2Proof.Machine

/-! ## Targets in the list -/

/-- The pending list holds a target for a position's crosspoint. -/
def Listed (xs : List PendEntry) (p : Pos) (t : Target) : Prop := ∃ e ∈ xs, e.pos = p ∧ t ∈ e.targets

theorem find?_ant_iff {ts : List Target} (once : (ts.map (·.ant)).Nodup) (t : Target) :
    ts.find? (fun x => x.ant == t.ant) = some t ↔ t ∈ ts := by
  refine ⟨List.mem_of_find?_eq_some, fun ht => ?_⟩
  induction ts with
  | nil => cases ht
  | cons x xs ih =>
    obtain ⟨new, once⟩ := List.nodup_cons.mp once
    rcases List.mem_cons.mp ht with rfl | ht
    · simp
    · have other : x.ant ≠ t.ant := fun e => new (List.mem_map.mpr ⟨t, ht, e.symm⟩)
      rw [List.find?_cons_of_neg (by simpa using other)]
      exact ih once ht

theorem EntriesOk.find?_pos_iff {xs : List PendEntry} (ok : EntriesOk xs) (e : PendEntry) :
    xs.find? (fun x => x.pos == e.pos) = some e ↔ e ∈ xs := by
  refine ⟨List.mem_of_find?_eq_some, fun he => ?_⟩
  have once := ok.1
  clear ok
  induction xs with
  | nil => cases he
  | cons x xs ih =>
    obtain ⟨new, once⟩ := List.nodup_cons.mp once
    rcases List.mem_cons.mp he with rfl | he
    · simp
    · have other : x.pos ≠ e.pos := fun same => new (List.mem_map.mpr ⟨e, he, same.symm⟩)
      rw [List.find?_cons_of_neg (by simpa using other)]
      exact ih he once

/-- In a list in order, the state listed for a crosspoint is that of the one target it holds for it. -/
theorem State.listed_iff {s : State} (ok : EntriesOk s.drv.list) {p : Pos} {a : Ant} {g : XpState} :
    s.listed p a = some g ↔ Listed s.drv.list p ⟨a, g⟩ := by
  constructor
  · intro h
    obtain ⟨t, ht, rfl⟩ := Option.map_eq_some_iff.mp h
    obtain ⟨e, he, ht⟩ := Option.bind_eq_some_iff.mp ht
    have ant : t.ant = a := by simpa using List.find?_some ht
    exact ⟨e, List.mem_of_find?_eq_some he, by simpa using List.find?_some he, by
      rw [← ant]; exact List.mem_of_find?_eq_some ht⟩
  · rintro ⟨e, he, rfl, ht⟩
    have target := (find?_ant_iff (ok.2 e he).2 _).mpr ht
    simp only [State.listed, (ok.find?_pos_iff e).mpr he, Option.bind_some, target, Option.map_some]

theorem mem_putTarget {ts : List Target} {t x : Target} :
    x ∈ putTarget ts t ↔ x = t ∨ (x.ant ≠ t.ant ∧ x ∈ ts) := by
  unfold putTarget
  split
  · next has =>
    obtain ⟨y, hy, ant⟩ := List.any_eq_true.mp has
    rw [beq_iff_eq] at ant
    rw [List.mem_map]
    constructor
    · rintro ⟨z, hz, rfl⟩
      split
      · exact .inl rfl
      · next other => exact .inr ⟨by simpa using other, hz⟩
    · rintro (rfl | ⟨other, hx⟩)
      · exact ⟨y, hy, if_pos (beq_iff_eq.mpr ant)⟩
      · exact ⟨x, hx, if_neg (by simpa using other)⟩
  · next new =>
    have other (hx : x ∈ ts) : x.ant ≠ t.ant := fun e => new (List.any_eq_true.mpr ⟨x, hx, beq_iff_eq.mpr e⟩)
    rw [List.mem_append, List.mem_singleton]
    exact ⟨fun h => h.elim (fun hx => .inr ⟨other hx, hx⟩) .inl, fun h => h.elim .inr fun hx => .inl hx.2⟩

/-- The list once a target has joined it (R103). -/
def putEntry (xs : List PendEntry) (p : Pos) (t : Target) : List PendEntry :=
  if xs.any fun e => e.pos == p then xs.map fun e => if e.pos == p then { e with targets := putTarget e.targets t } else e
  else xs ++ [⟨p, [t]⟩]

theorem State.listPut_eq (s : State) (p : Pos) (t : Target) : s.listPut p t = s.setList (putEntry s.drv.list p t) := by
  unfold State.listPut putEntry
  split <;> rfl

theorem listed_putEntry {xs : List PendEntry} {p q : Pos} {t x : Target} :
    Listed (putEntry xs p t) q x ↔ (q = p ∧ x = t) ∨ ((q ≠ p ∨ x.ant ≠ t.ant) ∧ Listed xs q x) := by
  unfold putEntry Listed
  split
  · next has =>
    obtain ⟨e, he, pos⟩ := List.any_eq_true.mp has
    rw [beq_iff_eq] at pos
    constructor
    · rintro ⟨_, mapped, hq, hx⟩
      obtain ⟨f, hf, rfl⟩ := List.mem_map.mp mapped
      split at hq
      · next here =>
        rw [beq_iff_eq] at here
        rw [if_pos (beq_iff_eq.mpr here)] at hx
        rcases mem_putTarget.mp hx with rfl | ⟨other, hx⟩
        · exact .inl ⟨hq.symm.trans here, rfl⟩
        · exact .inr ⟨.inr other, f, hf, hq, hx⟩
      · next other =>
        rw [if_neg other] at hx
        exact .inr ⟨.inl fun e => other (beq_iff_eq.mpr (hq.trans e)), f, hf, hq, hx⟩
    · rintro (⟨rfl, rfl⟩ | ⟨other, f, hf, rfl, hx⟩)
      · exact ⟨_, List.mem_map_of_mem he, by rw [if_pos (beq_iff_eq.mpr pos)]; exact pos, by
          rw [if_pos (beq_iff_eq.mpr pos)]; exact mem_putTarget.mpr (.inl rfl)⟩
      · refine ⟨_, List.mem_map_of_mem hf, ?_⟩
        split
        · next here =>
          exact ⟨rfl, mem_putTarget.mpr (.inr ⟨other.resolve_left fun ne => ne (beq_iff_eq.mp here), hx⟩)⟩
        · exact ⟨rfl, hx⟩
  · next new =>
    constructor
    · rintro ⟨f, hf, rfl, hx⟩
      rcases List.mem_append.mp hf with hf | hf
      · exact .inr ⟨.inl fun e => new (List.any_eq_true.mpr ⟨f, hf, beq_iff_eq.mpr e⟩), f, hf, rfl, hx⟩
      · rw [List.mem_singleton.mp hf] at hx ⊢
        exact .inl ⟨rfl, List.mem_singleton.mp hx⟩
    · rintro (⟨rfl, rfl⟩ | ⟨-, f, hf, rfl, hx⟩)
      · exact ⟨_, List.mem_append_right _ (List.mem_singleton_self _), rfl, List.mem_singleton_self _⟩
      · exact ⟨f, List.mem_append_left _ hf, rfl, hx⟩

theorem listed_dropTargets {xs : List PendEntry} {f : PendEntry → Target → Bool} {p : Pos} {t : Target} :
    Listed (dropTargets xs f) p t ↔ ∃ e ∈ xs, e.pos = p ∧ t ∈ e.targets ∧ f e t = false := by
  unfold Listed dropTargets
  constructor
  · rintro ⟨_, mapped, hp, ht⟩
    obtain ⟨e, he, rfl⟩ := List.mem_map.mp (List.mem_of_mem_filter mapped)
    obtain ⟨ht, keep⟩ := List.mem_filter.mp ht
    exact ⟨e, he, hp, ht, by simpa using keep⟩
  · rintro ⟨e, he, hp, ht, keep⟩
    have stays : t ∈ e.targets.filter fun x => !f e x := List.mem_filter.mpr ⟨ht, by simp [keep]⟩
    refine ⟨_, List.mem_filter.mpr ⟨List.mem_map_of_mem he, ?_⟩, hp, stays⟩
    rw [Bool.not_eq_true', List.isEmpty_eq_false_iff]
    exact List.ne_nil_of_mem stays

/-! ## A change set joins the list (R103) -/

section Joins

variable {s : State} {p : Pos}

theorem State.listPut_listed (ok : EntriesOk s.drv.list) (t : Target) (q : Pos) (b : Ant) :
    (s.listPut p t).listed q b = if q = p ∧ b = t.ant then some t.goal else s.listed q b := by
  have put : EntriesOk (s.listPut p t).drv.list := by
    rw [State.listPut_eq]
    exact ok.put p t
  refine Option.ext fun g => ?_
  rw [State.listed_iff put, State.listPut_eq]
  refine listed_putEntry.trans ?_
  split
  · next here =>
    obtain ⟨rfl, rfl⟩ := here
    obtain ⟨b, h⟩ := t
    simp [eq_comm]
  · next other =>
    rw [State.listed_iff ok]
    grind

theorem State.listRemove_listed (ok : EntriesOk s.drv.list) (a : Ant) (q : Pos) (b : Ant) :
    (s.listRemove p a).listed q b = if q = p ∧ b = a then none else s.listed q b := by
  have removed : EntriesOk (s.listRemove p a).drv.list := ok.drop _
  refine Option.ext fun g => ?_
  rw [State.listed_iff removed]
  refine listed_dropTargets.trans ?_
  split
  · next here =>
    obtain ⟨rfl, rfl⟩ := here
    constructor
    · rintro ⟨e, -, rfl, -, out⟩
      simp at out
    · nofun
  · next other =>
    rw [State.listed_iff ok]
    constructor
    · rintro ⟨e, he, pos, ht, -⟩
      exact ⟨e, he, pos, ht⟩
    · rintro ⟨e, he, rfl, ht⟩
      exact ⟨e, he, rfl, ht, by simpa using other⟩

/-- What the pending list holds for a position's crosspoints once updates have been made for some targets of the position,
each setting what is listed for its own antenna. -/
theorem State.each_listed {f : Target → State → State} {g : Target → Option XpState}
    (kept : ∀ x (t : State), EntriesOk t.drv.list → EntriesOk (f x t).drv.list)
    (step : ∀ x (t : State) q b, EntriesOk t.drv.list →
      (f x t).listed q b = if q = p ∧ b = x.ant then g x else t.listed q b)
    {ts : List Target} (once : (ts.map (·.ant)).Nodup) (ok : EntriesOk s.drv.list) :
    EntriesOk (s.each ts f).drv.list ∧ (∀ x ∈ ts, (s.each ts f).listed p x.ant = g x) ∧
      ∀ q b, (q ≠ p ∨ ∀ x ∈ ts, x.ant ≠ b) → (s.each ts f).listed q b = s.listed q b := by
  induction ts generalizing s with
  | nil => exact ⟨ok, by simp, fun _ _ _ => rfl⟩
  | cons t ts ih =>
    obtain ⟨new, once⟩ := List.nodup_cons.mp once
    obtain ⟨entries, own, others⟩ := ih once (kept t s ok)
    refine ⟨entries, fun x hx => ?_, fun q b other => ?_⟩
    · rcases List.mem_cons.mp hx with rfl | hx
      · rw [State.each_cons, others p x.ant (.inr fun y hy e => new (List.mem_map.mpr ⟨y, hy, e⟩)), step x s _ _ ok,
          if_pos ⟨rfl, rfl⟩]
      · exact own x hx
    · rw [State.each_cons, others q b (other.imp id fun h x hx => h x (List.mem_cons_of_mem t hx)), step t s _ _ ok]
      refine if_neg fun here => ?_
      exact other.elim (fun ne => ne here.1) fun h => h t List.mem_cons_self here.2.symm

theorem State.moveHolding_drv (s : State) (p : Pos) (k : Slot) (a : Ant) (x y : SwitchState) :
    (s.moveHolding p k a x y).drv = s.drv := by
  unfold State.moveHolding
  split
  · split <;> rfl
  · rfl

theorem State.trySettle_drv (s : State) (p : Pos) : (s.trySettle p).drv = s.drv := by
  unfold State.trySettle
  split <;> rfl

theorem State.notify_drv (s : State) (p : Pos) (n : Notice) : (s.notify p n).drv = s.drv := by
  rw [(s.notify_grow p n).eq]

theorem State.completeHolding_drv (s : State) (p : Pos) (k : Slot) (a : Ant) (x : SwitchState) :
    (s.completeHolding p k a x).drv = s.drv := by
  unfold State.completeHolding
  split
  · split
    · cases k with
      | main => exact (State.trySettle_drv _ p).trans ((State.notify_drv _ p _).trans (s.moveHolding_drv p _ a x _))
      | listen => exact (State.notify_drv _ p _).trans (s.moveHolding_drv p _ a x _)
    · rfl
  · rfl

theorem State.reportAlready_drv (s : State) (p : Pos) (t : Target) : (s.reportAlready p t).drv = s.drv := by
  unfold State.reportAlready
  split
  · rfl
  · split
    · exact s.moveHolding_drv p _ _ _ _
    · exact s.completeHolding_drv p _ _ _

theorem State.listed_of_drv {s t : State} (h : t.drv = s.drv) (p : Pos) (a : Ant) : t.listed p a = s.listed p a := by
  rw [State.listed, State.listed, h]

/-- Targets of one change set join the list: each is listed, or not where the crosspoint will stand so anyway, and nothing
changes for other crosspoints (R103). -/
theorem State.addTargets_listed (order : s.ListOrder) {ts : List Target} (once : (ts.map (·.ant)).Nodup) :
    (∀ x ∈ ts, (s.addTargets p ts).listed p x.ant = if s.futureXp p x.ant = x.goal then none else some x.goal) ∧
      ∀ q b, (q ≠ p ∨ ∀ x ∈ ts, x.ant ≠ b) → (s.addTargets p ts).listed q b = s.listed q b := by
  have sub (f : Target → Bool) : ((ts.filter f).map (·.ant)).Nodup := once.sublist (List.filter_sublist.map _)
  obtain ⟨put, own, others⟩ := State.each_listed (p := p) (g := fun x => some x.goal)
    (fun x t ok => by rw [State.listPut_eq]; exact ok.put p x) (fun x t q b ok => State.listPut_listed ok x q b)
    (sub fun x => !s.nothingToSwitch p x) (s.listOrder_iff.mp order).1
  obtain ⟨-, own', others'⟩ := State.each_listed (p := p) (g := fun _ => none)
    (f := fun x y => y.listRemove p x.ant) (fun x t ok => ok.drop _) (fun x t q b ok => State.listRemove_listed ok x.ant q b)
    (sub fun x => s.nothingToSwitch p x) put
  have drv (u : State) : (u.each (ts.filter fun x => s.nothingToSwitch p x) fun x y => y.reportAlready p x).drv = u.drv :=
    State.each_same State.drv _ _ (fun x t => t.reportAlready_drv p x) u
  have apart {x y : Target} (hx : x ∈ ts) (hy : y ∈ ts) (ne : s.nothingToSwitch p y ≠ s.nothingToSwitch p x) :
      y.ant ≠ x.ant := fun e => ne (by rw [List.inj_on_of_nodup_map once hx hy e.symm])
  refine ⟨fun x hx => ?_, fun q b other => ?_⟩
  · rw [State.addTargets, State.listed_of_drv (drv _)]
    split
    · next done => exact own' x (List.mem_filter.mpr ⟨hx, by simp [State.nothingToSwitch, done]⟩)
    · next todo =>
      have open_ : s.nothingToSwitch p x = false := by simpa [State.nothingToSwitch] using todo
      rw [others' p x.ant (.inr fun y hy => by
        obtain ⟨hy, done⟩ := List.mem_filter.mp hy
        exact apart hx hy (by rw [done, open_]; decide))]
      exact own x (List.mem_filter.mpr ⟨hx, by simp [open_]⟩)
  · have out (f : Target → Bool) : q ≠ p ∨ ∀ x ∈ ts.filter f, x.ant ≠ b :=
      other.imp id fun h x hx => h x (List.mem_of_mem_filter hx)
    rw [State.addTargets, State.listed_of_drv (drv _), others' q b (out _), others q b (out _)]

theorem State.handChangeSet_listed (order : s.ListOrder) {ts : List Target} (once : (ts.map (·.ant)).Nodup) :
    (s.isParked p = false → ∀ x ∈ ts, (s.handChangeSet p ts).listed p x.ant =
        if s.futureXp p x.ant = x.goal then none else some x.goal) ∧
      ∀ q b, (q ≠ p ∨ ∀ x ∈ ts, x.ant ≠ b) → (s.handChangeSet p ts).listed q b = s.listed q b := by
  obtain ⟨own, others⟩ := State.addTargets_listed (p := p) order once
  unfold State.handChangeSet
  split
  · next parked => exact ⟨fun h => absurd (parked.symm.trans h) (by decide), fun _ _ _ => rfl⟩
  · exact ⟨fun _ => own, others⟩

end Joins

/-- Where a crosspoint will stand is not for allocation to change. -/
theorem AllocFrame.futureXp {s t : State} (h : AllocFrame s t) (p : Pos) (a : Ant) : t.futureXp p a = s.futureXp p a := by
  rw [State.futureXp, State.carriedGoal, State.progress, State.xp, h.drv]
  rfl

theorem grantTargets_nodup {a : Ant} {old : Option Ant} (h : old ≠ some a) (g : XpState) :
    ((grantTargets a g old).map (·.ant)).Nodup := by
  cases old with
  | none => simp [grantTargets]
  | some m => simpa [grantTargets, eq_comm] using h

end Sys2Proof.Machine
end

section
/-! SUPPORT. Hand-overs step by step (R66 to R68): every hand-over, with the chain of hand-overs that its grants set off, is a
run of two kinds of steps, an entry removed and a grant booked; what such steps keep. -/

namespace Sys2Proof.Machine

/-! ## The settling of one position (R108, R121) -/

/-- From `s` to `t` no sequencer moves but that of a position that settles: it goes from SETTLING to KEYED with its settle
condition fulfilled. A settle condition fulfilled stays so. -/
structure SettlesAt (p : Pos) (s t : State) : Prop where
  frame : AllocFrame s t
  cond : s.settleCond p = true → t.settleCond p = true
  seqs : (t.seqs = s.seqs ∧ t.outs = s.outs) ∨
    ∃ since, s.seqs[p] = .settling since ∧ since + s.cfg.pos[p].ampSettle ≤ s.now ∧ t.settleCond p = true ∧
      t.seqs = upd s.seqs p (.keyed s.now) ∧ t.outs = upd s.outs p ((SeqState.keyed s.now).outputs s.outs[p])

namespace SettlesAt

variable {p : Pos} {s t u : State}

theorem refl (p : Pos) (s : State) : SettlesAt p s s := ⟨.refl s, id, .inl ⟨rfl, rfl⟩⟩

theorem trans (h : SettlesAt p s t) (k : SettlesAt p t u) : SettlesAt p s u := by
  refine ⟨h.frame.trans k.frame, fun c => k.cond (h.cond c), ?_⟩
  rcases h.seqs with ⟨seqs, outs⟩ | ⟨since, settling, due, cond, seqs, outs⟩
  · rcases k.seqs with ⟨seqs', outs'⟩ | ⟨since, settling, due, cond, seqs', outs'⟩
    · exact .inl ⟨seqs'.trans seqs, outs'.trans outs⟩
    · rw [seqs] at settling seqs'
      rw [outs, h.frame.now] at outs'
      rw [h.frame.now] at seqs'
      rw [h.frame.cfg, h.frame.now] at due
      exact .inr ⟨since, settling, due, cond, seqs', outs'⟩
  · rcases k.seqs with ⟨seqs', outs'⟩ | ⟨_, settling', _⟩
    · exact .inr ⟨since, settling, due, k.cond cond, seqs'.trans seqs, outs'.trans outs⟩
    · rw [seqs, upd_get_same] at settling'
      cases settling'

/-- A change that shows in no sequencer, output, main holding or filter. -/
theorem of_same (frame : AllocFrame s t) (seqs : t.seqs = s.seqs) (outs : t.outs = s.outs)
    (main : s.settleCond p = true → t.hold[p].main.map (·.sw) = s.hold[p].main.map (·.sw)) : SettlesAt p s t := by
  refine ⟨frame, fun c => ?_, .inl ⟨seqs, outs⟩⟩
  have filters : t.drv.filters = s.drv.filters := by rw [frame.drv]
  rw [State.settleCond, main c, filters]
  exact c

end SettlesAt

theorem LinksGrow.settlesAt {s t : State} (h : LinksGrow s t) (p : Pos) : SettlesAt p s t :=
  .of_same h.frame (by rw [h.eq]) (by rw [h.eq]) fun _ => by rw [h.eq]

theorem State.trySettle_settlesAt (s : State) (p : Pos) : SettlesAt p s (s.trySettle p) := by
  rcases s.trySettle_cases p with h | ⟨since, settling, due, cond, h⟩
  · rw [h]
    exact .refl p s
  · refine ⟨s.trySettle_frame p, fun c => ?_, .inr ⟨since, settling, due, ?_, ?_, ?_⟩⟩
    · rw [h]
      exact c
    · rw [h]
      exact cond
    all_goals rw [h]; rfl

theorem State.moveHolding_settlesAt (s : State) (p : Pos) (k : Slot) (a : Ant) (y : SwitchState) :
    SettlesAt p s (s.moveHolding p k a .awaiting y) := by
  refine .of_same (s.moveHolding_frame p k a _ y) ?_ ?_ fun c => ?_
  · unfold State.moveHolding
    split
    · split <;> rfl
    · rfl
  · unfold State.moveHolding
    split
    · split <;> rfl
    · rfl
  · unfold State.moveHolding
    split
    · next h held =>
      split
      · next awaits =>
        simp only [State.setHold_hold, upd_get_same]
        cases k with
        | main =>
          have main : s.hold[p].main = some h := held
          obtain ⟨-, sw⟩ := Bool.and_eq_true_iff.mp awaits
          simp [-Fin.getElem_fin, State.settleCond, main, beq_iff_eq.mp sw] at c
        | listen => rfl
      · rfl
    · rfl

theorem State.completeHolding_settlesAt (s : State) (p : Pos) (k : Slot) (a : Ant) :
    SettlesAt p s (s.completeHolding p k a .awaiting) := by
  unfold State.completeHolding
  split
  · next h _ =>
    split
    · have told := (s.moveHolding_settlesAt p k a .set).trans ((State.notify_grow _ p (.granted k a h.origin)).settlesAt p)
      cases k with
      | main => exact told.trans (State.trySettle_settlesAt _ p)
      | listen => exact told
    · exact .refl p s
  · exact .refl p s

theorem State.reportAlready_settlesAt (s : State) (p : Pos) (t : Target) : SettlesAt p s (s.reportAlready p t) := by
  unfold State.reportAlready
  split
  · exact .refl p s
  · split
    · exact s.moveHolding_settlesAt p _ _ _
    · exact s.completeHolding_settlesAt p _ _

theorem State.setList_settlesAt (s : State) (p : Pos) (xs : List PendEntry) : SettlesAt p s (s.setList xs) :=
  .of_same (s.setList_frame xs) rfl rfl fun _ => rfl

theorem State.handChangeSet_settlesAt (s : State) (p : Pos) (ts : List Target) :
    SettlesAt p s (s.handChangeSet p ts) := by
  unfold State.handChangeSet
  split
  · exact .refl p s
  · have each (xs : List Target) (f : Target → State → State) (h : ∀ x t, SettlesAt p t (f x t)) (u : State) :
        SettlesAt p u (u.each xs f) := State.each_rel (SettlesAt p) (.refl p) .trans xs f h u
    refine ((each _ _ (fun x t => ?_) s).trans (each _ _ (fun x t => t.setList_settlesAt p _) _)).trans
      (each _ _ (fun x t => t.reportAlready_settlesAt p x) _)
    rw [State.listPut_eq]
    exact t.setList_settlesAt p _

/-- The sequencers and their outputs are as they were. -/
def SeqsSame (s t : State) : Prop := t.seqs = s.seqs ∧ t.outs = s.outs

theorem SeqsSame.refl (s : State) : SeqsSame s s := ⟨rfl, rfl⟩

theorem SeqsSame.trans {s t u : State} (h : SeqsSame s t) (k : SeqsSame t u) : SeqsSame s u :=
  ⟨k.1.trans h.1, k.2.trans h.2⟩

theorem SettlesAt.seqsSame {p : Pos} {s t : State} (h : SettlesAt p s t) (out : s.inSpan p = false) : SeqsSame s t := by
  rcases h.seqs with same | ⟨_, settling, _⟩
  · exact same
  · rw [State.inSpan, settling] at out
    cases out

theorem SeqsSame.onlySettles {s t : State} (h : SeqsSame s t) : OnlySettles s t :=
  fun p => .inl ⟨by rw [h.1], by rw [h.2]⟩

/-! ## The books of a grant leave the sequencers -/

section Seqs

variable (s : State) (p : Pos) (a : Ant) (k : Slot)

theorem State.removePending_seqs : SeqsSame s (s.removePending p k) := by
  unfold State.removePending
  split <;> exact ⟨rfl, rfl⟩

theorem State.expire_seqs (c : Cause) : SeqsSame s (s.expire a p k c) := by
  have grow := State.notify_grow (s.removeEntry a p k) p (.expired k a c)
  exact ⟨by rw [State.expire, grow.eq]; rfl, by rw [State.expire, grow.eq]; rfl⟩

theorem State.unbookOld_seqs (old : Option Ant) : SeqsSame s (s.unbookOld p k old) := by
  cases old with
  | none => exact ⟨rfl, rfl⟩
  | some m => cases k <;> exact ⟨rfl, rfl⟩

theorem State.takeUpListen_seqs (b : Bool) : SeqsSame s (s.takeUpListen p a b) := by
  cases b <;> exact ⟨rfl, rfl⟩

/-- The books of a main grant before its change set goes to the driver (R56, steps 1 to 5). -/
def State.grantMainBooked (o : Origin) : State :=
  let t := (((s.bookMain p a o).takeUpListen p a (s.alloc[a].listeners.contains p)).unbookOld p .main
    (s.heldAnt p .main)).removePending p .main
  if t.hold[p].pendListen == some a then t.expire a p .listen .ineligible else t

theorem State.grantMainBooks_handed (o : Origin) : s.grantMainBooks p a o =
    (s.grantMainBooked p a o).handChangeSet p (grantTargets a .main (s.heldAnt p .main)) := rfl

/-- The books of a listen grant before its change set goes to the driver (R60, steps 1 to 3). -/
def State.grantListenBooked (o : Origin) : State :=
  ((s.bookListen p a o).unbookOld p .listen (s.heldAnt p .listen)).removePending p .listen

theorem State.grantListenBooks_handed (o : Origin) : s.grantListenBooks p a o =
    (s.grantListenBooked p a o).handChangeSet p (grantTargets a .listen (s.heldAnt p .listen)) := rfl

theorem State.grantMainBooked_seqs (o : Origin) : SeqsSame s (s.grantMainBooked p a o) := by
  have main : SeqsSame s (s.bookMain p a o) := .refl s
  have booked := ((main.trans (State.takeUpListen_seqs _ p a (s.alloc[a].listeners.contains p))).trans
    (State.unbookOld_seqs _ p .main (s.heldAnt p .main))).trans (State.removePending_seqs _ p .main)
  unfold State.grantMainBooked
  dsimp only
  split
  · exact booked.trans (State.expire_seqs _ p a .listen _)
  · exact booked

theorem State.grantMainBooked_frame (o : Origin) : AllocFrame s (s.grantMainBooked p a o) := by
  have booked := (((s.bookMain_frame p a o).trans
    (State.takeUpListen_frame _ p a (s.alloc[a].listeners.contains p))).trans
    (State.unbookOld_frame _ p .main (s.heldAnt p .main))).trans (State.removePending_frame _ p .main)
  unfold State.grantMainBooked
  dsimp only
  split
  · exact booked.trans (State.expire_frame _ a p .listen _)
  · exact booked

theorem State.grantMainBooked_drv (o : Origin) : (s.grantMainBooked p a o).drv = s.drv := by
  have booked (u : State) (h : u.drv = s.drv) :
      (if u.hold[p].pendListen == some a then u.expire a p .listen .ineligible else u).drv = s.drv := by
    split
    · exact (State.notify_drv _ p _).trans h
    · exact h
  refine booked _ ?_
  rw [State.removePending_drv, State.unbookOld_drv, State.takeUpListen_drv]
  rfl

theorem State.grantListenBooked_seqs (o : Origin) : SeqsSame s (s.grantListenBooked p a o) :=
  have listen : SeqsSame s (s.bookListen p a o) := .refl s
  (listen.trans (State.unbookOld_seqs _ p .listen (s.heldAnt p .listen))).trans (State.removePending_seqs _ p .listen)

theorem State.grantListenBooked_frame (o : Origin) : AllocFrame s (s.grantListenBooked p a o) :=
  ((s.bookListen_frame p a o).trans (State.unbookOld_frame _ p .listen (s.heldAnt p .listen))).trans
    (State.removePending_frame _ p .listen)

theorem State.grantListenBooked_drv (o : Origin) : (s.grantListenBooked p a o).drv = s.drv := by
  rw [State.grantListenBooked, State.removePending_drv, State.unbookOld_drv]
  rfl

end Seqs

/-- A change set without a MAIN target settles no position, as the settle condition reads the main holding alone (R108). -/
theorem State.handChangeSet_seqs (s : State) (p : Pos) {ts : List Target} (h : ∀ x ∈ ts, x.goal ≠ .main) :
    SeqsSame s (s.handChangeSet p ts) := by
  have quiet (t : State) (x : Target) (hx : x.goal ≠ .main) : SeqsSame t (t.reportAlready p x) := by
    have moved (k : Slot) (w : SwitchState) : SeqsSame t (t.moveHolding p k x.ant .awaiting w) := by
      unfold State.moveHolding
      split
      · split <;> exact ⟨rfl, rfl⟩
      · exact .refl t
    cases goal : x.goal with
    | main => exact absurd goal hx
    | opened => simp only [State.reportAlready, goal, slotOf]; exact .refl t
    | listen =>
      simp only [State.reportAlready, goal, slotOf]
      split
      · exact moved .listen _
      · unfold State.completeHolding
        split
        · split
          · have told := State.notify_grow (t.moveHolding p .listen x.ant .awaiting .set) p
            exact (moved .listen .set).trans ⟨by rw [(told _).eq], by rw [(told _).eq]⟩
          · exact .refl t
        · exact .refl t
  unfold State.handChangeSet
  split
  · exact .refl s
  · refine State.each_keeps (SeqsSame s) _ _ (fun x t hx ht => ht.trans (quiet t x (h x (List.mem_of_mem_filter hx)))) _ ?_
    refine State.each_keeps (SeqsSame s) _ _ (fun (x : Target) t _ ht => ht.trans (u := t.listRemove p x.ant) ⟨rfl, rfl⟩) _ ?_
    refine State.each_keeps (SeqsSame s) _ _ (fun x t _ ht => ht.trans ?_) _ (.refl s)
    rw [State.listPut_eq]
    exact ⟨rfl, rfl⟩

theorem mem_grantTargets {a : Ant} {g : XpState} {old : Option Ant} {x : Target} :
    x ∈ grantTargets a g old ↔ x = ⟨a, g⟩ ∨ ∃ m, old = some m ∧ x = ⟨m, .opened⟩ := by
  cases old <;> simp [grantTargets]

theorem State.grantListenBooks_seqs (s : State) (p : Pos) (a : Ant) (o : Origin) :
    SeqsSame s (s.grantListenBooks p a o) := by
  rw [State.grantListenBooks_handed]
  refine (s.grantListenBooked_seqs p a o).trans (State.handChangeSet_seqs _ p fun x hx => ?_)
  rcases mem_grantTargets.mp hx with rfl | ⟨m, -, rfl⟩ <;> nofun

theorem State.grantMainBooks_frame (s : State) (p : Pos) (a : Ant) (o : Origin) :
    AllocFrame s (s.grantMainBooks p a o) :=
  (s.grantMainBooked_frame p a o).trans (State.handChangeSet_frame _ p _)

/-- A main grant outside key span leaves every sequencer. -/
theorem State.grantMainBooks_seqs {s : State} {p : Pos} (out : s.inSpan p = false) (a : Ant) (o : Origin) :
    SeqsSame s (s.grantMainBooks p a o) :=
  (s.grantMainBooked_seqs p a o).trans ((State.handChangeSet_settlesAt _ p _).seqsSame
    (((s.grantMainBooked_frame p a o).inSpan p).trans out))

theorem State.releaseSlot_seqs (s : State) (p : Pos) (k : Slot) (a : Ant) (n : Option Notice) :
    SeqsSame s (s.releaseSlot p k a n) := by
  have told (u : State) : SeqsSame u ((u.handChangeSet p [⟨a, .opened⟩]).notifyOpt p n) := by
    refine SeqsSame.trans (t := u.handChangeSet p [⟨a, .opened⟩]) (u.handChangeSet_seqs p fun x hx => ?_) ?_
    · rw [List.mem_singleton.mp hx]
      nofun
    · cases n with
      | none => exact .refl _
      | some x => exact ⟨by rw [State.notifyOpt, (State.notify_grow _ p x).eq], by
          rw [State.notifyOpt, (State.notify_grow _ p x).eq]⟩
  cases k with
  | main => exact SeqsSame.trans (t := s.unbookMain p a) ⟨rfl, rfl⟩ (told _)
  | listen => exact SeqsSame.trans (t := s.unbookListen p a) ⟨rfl, rfl⟩ (told _)

/-! ## What a grant and a release list (R53, R103) -/

section Lists

variable {s : State} {p : Pos} {a : Ant}

/-- The change set of a main grant: the antenna granted and the one it replaces are listed as R103 says, and no other
crosspoint's target changes. -/
theorem State.grantMainBooks_listed (order : s.ListOrder) (other : s.heldAnt p .main ≠ some a) (o : Origin) :
    (s.isParked p = false → ∀ x ∈ grantTargets a .main (s.heldAnt p .main), Handed s (s.grantMainBooks p a o) p x.ant x.goal) ∧
      ∀ q b, (q ≠ p ∨ ∀ x ∈ grantTargets a .main (s.heldAnt p .main), x.ant ≠ b) →
        (s.grantMainBooks p a o).listed q b = s.listed q b := by
  have frame := s.grantMainBooked_frame p a o
  have drv := s.grantMainBooked_drv p a o
  obtain ⟨own, others⟩ := State.handChangeSet_listed (p := p) (order.of_drv drv) (grantTargets_nodup other .main)
  refine ⟨fun parked x hx => ?_, fun q b h => (others q b h).trans (State.listed_of_drv drv q b)⟩
  rw [Handed, ← frame.futureXp]
  exact own ((frame.isParked p).trans parked) x hx

theorem State.grantListenBooks_listed (order : s.ListOrder) (other : s.heldAnt p .listen ≠ some a) (o : Origin) :
    (s.isParked p = false →
      ∀ x ∈ grantTargets a .listen (s.heldAnt p .listen), Handed s (s.grantListenBooks p a o) p x.ant x.goal) ∧
      ∀ q b, (q ≠ p ∨ ∀ x ∈ grantTargets a .listen (s.heldAnt p .listen), x.ant ≠ b) →
        (s.grantListenBooks p a o).listed q b = s.listed q b := by
  have frame := s.grantListenBooked_frame p a o
  have drv := s.grantListenBooked_drv p a o
  obtain ⟨own, others⟩ := State.handChangeSet_listed (p := p) (order.of_drv drv) (grantTargets_nodup other .listen)
  refine ⟨fun parked x hx => ?_, fun q b h => (others q b h).trans (State.listed_of_drv drv q b)⟩
  rw [Handed, ← frame.futureXp]
  exact own ((frame.isParked p).trans parked) x hx

/-- The change set of a release: the crosspoint is listed for OPEN as R103 says, and no other crosspoint's target changes. -/
theorem State.releaseSlot_listed (order : s.ListOrder) (k : Slot) (n : Option Notice) :
    (s.isParked p = false → Handed s (s.releaseSlot p k a n) p a .opened) ∧
      ∀ q b, (q ≠ p ∨ a ≠ b) → (s.releaseSlot p k a n).listed q b = s.listed q b := by
  have told (u : State) (frame : AllocFrame s u) (drv : u.drv = s.drv) :
      (s.isParked p = false → Handed s ((u.handChangeSet p [⟨a, .opened⟩]).notifyOpt p n) p a .opened) ∧
      ∀ q b, (q ≠ p ∨ a ≠ b) → ((u.handChangeSet p [⟨a, .opened⟩]).notifyOpt p n).listed q b = s.listed q b := by
    obtain ⟨own, others⟩ := State.handChangeSet_listed (p := p) (ts := [⟨a, .opened⟩]) (order.of_drv drv) (by simp)
    have same (v : State) (q : Pos) (b : Ant) : (v.notifyOpt p n).listed q b = v.listed q b := by
      cases n with
      | none => rfl
      | some x => exact State.listed_of_drv (v.notify_drv p x) q b
    refine ⟨fun parked => ?_, fun q b h => ?_⟩
    · rw [Handed, same, ← frame.futureXp]
      exact own ((frame.isParked p).trans parked) _ (List.mem_singleton_self _)
    · rw [same, others q b (h.imp id fun ne x hx => by rwa [List.mem_singleton.mp hx]), State.listed_of_drv drv]
  cases k with
  | main => exact told _ (s.unbookMain_frame p a) rfl
  | listen => exact told _ (s.unbookListen_frame p a) rfl

end Lists

end Sys2Proof.Machine
end

section
/-! SUPPORT. Hand-overs as runs of steps (R66 to R68): an entry removed, a listen grant booked, a main grant booked; and what
the steps keep of a position's holdings, requests and listed targets. -/

namespace Sys2Proof.Machine

/-! ## Steps and runs -/

/-- One step of a hand-over or of the hand-overs that its grants set off; the slot is that of the entry taken. -/
inductive HandStep (s : State) : Slot → State → Prop where
  | expire {a : Ant} {k : Slot} {e : WaitEntry} (waits : e ∈ s.arbitration a k) :
      HandStep s k (s.expire a e.pos k .ineligible)
  | listen {a : Ant} {e : WaitEntry} (waits : e ∈ s.arbitration a .listen) (room : s.hasListenRoom a = true)
      (good : s.listenElig a e.pos = true) (own : s.heldAnt e.pos .main ≠ some a) :
      HandStep s .listen ((s.removeEntry a e.pos .listen).grantListenBooks e.pos a e.origin)
  | main {a : Ant} {e : WaitEntry} (waits : e ∈ s.arbitration a .main) (free : s.alloc[a].holder = none)
      (good : s.mainElig a e.pos = true) (out : s.inSpan e.pos = false) :
      HandStep s .main ((s.removeEntry a e.pos .main).grantMainBooks e.pos a e.origin)

/-- A run of hand-over steps; that of a listen hand-over takes LISTEN entries alone. -/
def HandRun (k : Slot) : State → State → Prop :=
  Relation.ReflTransGen fun s t => ∃ j, (k = .listen → j = .listen) ∧ HandStep s j t

theorem HandRun.refl (k : Slot) (s : State) : HandRun k s s := Relation.ReflTransGen.refl

theorem HandRun.trans {k : Slot} {s t u : State} (h : HandRun k s t) (g : HandRun k t u) : HandRun k s u :=
  Relation.ReflTransGen.trans h g

theorem HandStep.run {s t : State} {k : Slot} (h : HandStep s k t) : HandRun k s t := .single ⟨k, id, h⟩

theorem HandRun.main_of_listen {s t : State} (h : HandRun .listen s t) : HandRun .main s t :=
  Relation.ReflTransGen.mono (fun _ _ ⟨j, _, step⟩ => ⟨j, nofun, step⟩) s t h

theorem State.handOld_steps {k : Slot} {hand : Ant → State → State} (hh : ∀ a t, HandRun k t (hand a t)) (s : State)
    (old : Option Ant) : HandRun k s (s.handOld hand old) := by
  cases old with
  | none => exact .refl k s
  | some m => exact hh m s

theorem State.handListenFuel_steps (n : Nat) (a : Ant) (s : State) : HandRun .listen s (State.handListenFuel n a s) := by
  induction n generalizing a s with
  | zero => exact .refl _ s
  | succ n ih =>
    rw [State.handListenFuel]
    split
    case isFalse => exact .refl _ s
    case isTrue room =>
      split
      · exact .refl _ s
      · next e head =>
        have waits : e ∈ s.arbitration a .listen := List.mem_of_mem_head? head
        split
        · next may =>
          obtain ⟨good, own⟩ := Bool.and_eq_true_iff.mp may
          have granted := (HandStep.listen waits room good (by simpa using own)).run
          rw [State.grantListenWith_eq]
          exact (granted.trans (State.handOld_steps ih _ _)).trans (ih a _)
        · exact (HandStep.expire waits).run.trans (ih a _)

theorem State.handListen_steps (a : Ant) (s : State) : HandRun .listen s (State.handListen a s) :=
  State.handListenFuel_steps _ a s

/-- After its books, a main grant runs hand-overs alone (R56, steps 6 and 7). -/
theorem State.grantMainWith_steps {hand : Ant → State → State} (hh : ∀ a t, HandRun .main t (hand a t)) (p : Pos) (a : Ant)
    (o : Origin) (s : State) : HandRun .main (s.grantMainBooks p a o) (State.grantMainWith hand p a o s) := by
  have old := State.handOld_steps hh (s.grantMainBooks p a o) (s.heldAnt p .main)
  rw [State.grantMainWith_eq]
  split
  · exact old.trans (State.handListen_steps a _).main_of_listen
  · exact old

theorem State.handMainFuel_steps (n : Nat) (a : Ant) (s : State) : HandRun .main s (State.handMainFuel n a s) := by
  induction n generalizing a s with
  | zero => exact .refl _ s
  | succ n ih =>
    rw [State.handMainFuel]
    split
    case isTrue => exact .refl _ s
    case isFalse free =>
      split
      · exact .refl _ s
      · next e found =>
        have waits : e ∈ s.arbitration a .main := List.mem_of_find?_eq_some found
        have out : s.inSpan e.pos = false := by simpa using List.find?_some found
        split
        · next good =>
          exact (HandStep.main waits (Option.not_isSome_iff_eq_none.mp free) good out).run.trans
            (State.grantMainWith_steps ih e.pos a e.origin _)
        · exact (HandStep.expire waits).run.trans (ih a _)

theorem State.handSlot_steps (s : State) (k : Slot) (a : Ant) : HandRun k s (s.handSlot k a) := by
  cases k with
  | main => exact State.handMainFuel_steps _ a s
  | listen => exact State.handListen_steps a s

theorem State.grantMain_steps (s : State) (p : Pos) (a : Ant) (o : Origin) :
    HandRun .main (s.grantMainBooks p a o) (s.grantMain p a o) :=
  State.grantMainWith_steps (fun m t => t.handSlot_steps .main m) p a o s

theorem State.grantListen_steps (s : State) (p : Pos) (a : Ant) (o : Origin) :
    HandRun .listen (s.grantListenBooks p a o) (s.grantListen p a o) := by
  rw [State.grantListen, State.grantListenWith_eq]
  exact State.handOld_steps (fun m t => t.handListen_steps m) _ _

/-! ## What every step keeps -/

/-- With its entry removed, a position that waits to listen on an antenna with room may be granted it. -/
theorem State.removeEntry_mayListen {s : State} (hs : s.BooksAgree) {a : Ant} {e : WaitEntry}
    (waits : e ∈ s.arbitration a .listen) (room : s.hasListenRoom a = true) (own : s.heldAnt e.pos .main ≠ some a) :
    (s.removeEntry a e.pos .listen).MayListen e.pos a := by
  have books := s.removeEntry_books a e.pos .listen
  have held (k : Slot) : (s.removeEntry a e.pos .listen).heldAnt e.pos k = s.heldAnt e.pos k :=
    congrArg (fun B : Books => B.held e.pos k) books
  refine ⟨?_, fun holds => ?_, fun holds => own ((held .main).symm.trans holds)⟩
  · have lists := congrArg (fun B : Books => B.listeners a) books
    exact (congrArg (fun x : List Pos => decide (x.length < s.cfg.ants[a].capacity)) lists).trans room
  · exact (s.booksAgree_iff.mp hs).unheld e.pos a .listen (hs.pend_of_arbitration waits) ((held .listen).symm.trans holds)

theorem State.removeEntry_free {s : State} {a : Ant} (free : s.alloc[a].holder = none) (b : Ant) (p : Pos) (k : Slot) :
    (s.removeEntry b p k).alloc[a].holder = none :=
  (BookAct.apply_holder (x := .remove b p k) trivial a).trans free

namespace HandStep

variable {s t : State} {j : Slot}

theorem frame (h : HandStep s j t) : AllocFrame s t := by
  cases h with
  | expire _ => exact s.expire_frame _ _ _ _
  | listen _ _ _ _ => exact (s.removeEntry_frame _ _ _).trans (State.grantListenBooks_frame _ _ _ _)
  | main _ _ _ _ => exact (s.removeEntry_frame _ _ _).trans (State.grantMainBooks_frame _ _ _ _)

/-- No sequencer moves: a main grant of a hand-over goes to a position outside key span (R66). -/
theorem seqs (h : HandStep s j t) : SeqsSame s t := by
  have removed (a : Ant) (p : Pos) (k : Slot) : SeqsSame s (s.removeEntry a p k) := ⟨rfl, rfl⟩
  cases h with
  | expire _ => exact s.expire_seqs _ _ _ _
  | @listen a e _ _ _ _ => exact (removed a e.pos .listen).trans (State.grantListenBooks_seqs _ _ _ _)
  | @main a e _ _ _ out =>
    exact (removed a e.pos .main).trans (State.grantMainBooks_seqs
      (((s.removeEntry_frame a e.pos .main).inSpan e.pos).trans out) a e.origin)

theorem kept (h : HandStep s j t) : OrderKept s t := by
  cases h with
  | expire waits => exact State.expire_kept (.refl s) (fun hs => hs.pend_of_arbitration waits) _
  | listen waits room _ own =>
    exact State.grantListenBooks_kept (State.removeEntry_kept (.refl s) fun hs => hs.pend_of_arbitration waits)
      (fun hs => State.removeEntry_mayListen hs waits room own) _
  | main waits free _ _ =>
    exact State.grantMainBooks_kept (State.removeEntry_kept (.refl s) fun hs => hs.pend_of_arbitration waits)
      (fun _ => State.removeEntry_free free _ _ _) _

end HandStep

/-! ## The holding records that a grant touches -/

/-- A part of a holding record that reads neither the listen slot nor its pending request. -/
def ListenBlind {β : Type} (v : HoldRecord → β) : Prop :=
  ∀ (h : HoldRecord) (x : Option Holding) (y : Option Ant), v { h with listen := x, pendListen := y } = v h

/-- A listen grant shows in the record of its position alone, and there in the listen slot alone. -/
theorem State.grantListenBooks_keeps {β : Type} {v : HoldRecord → β} {p q : Pos} (h : q = p → ListenBlind v) (s : State)
    (a : Ant) (o : Origin) : KeepsHold v p s (s.grantListenBooks q a o) :=
  (((s.bookListen_keeps q a o fun e => by subst e; exact h rfl _ _ _).trans
    ((State.unbookOld_keeps _ q .listen (s.heldAnt q .listen)).part v)).trans
    (State.removePending_keeps _ q .listen fun e => by subst e; exact h rfl _ _ _)).trans
    (State.handGrant_keeps _ q a .listen _ fun e k hk => by
      cases hk
      exact fun x _ _ _ => h e x _ _)

/-- A main grant leaves the records of other positions. -/
theorem State.grantMainBooks_keeps {p q : Pos} (ne : q ≠ p) (s : State) (a : Ant) (o : Origin) :
    KeepsHold id p s (s.grantMainBooks q a o) := by
  have booked := (((s.bookMain_keeps (v := id) q a o fun e => absurd e ne).trans
    (State.takeUpListen_keeps _ q a (s.alloc[a].listeners.contains q) fun e => absurd e ne)).trans
    (State.unbookOld_keeps _ q .main (s.heldAnt q .main))).trans
    (State.removePending_keeps _ q .main fun e => absurd e ne)
  refine KeepsHold.trans (t := s.grantMainBooked q a o) ?_ (State.handGrant_keeps _ q a .main _ fun e => absurd e ne)
  unfold State.grantMainBooked
  dsimp only
  split
  · exact booked.trans (State.expire_keeps _ a q .listen _ fun e => absurd e ne)
  · exact booked

/-- A main grant gives its position the antenna with the origin of the grant. -/
theorem State.grantMainBooks_granted (s : State) (p : Pos) (a : Ant) (o : Origin) :
    (s.grantMainBooks p a o).hold[p].granted .main = some (a, o) := by
  have booked := (((State.takeUpListen_keeps (v := (·.granted .main)) (p := p) (s.bookMain p a o) p a
    (s.alloc[a].listeners.contains p) fun _ => rfl).trans
    ((State.unbookOld_keeps _ p .main (s.heldAnt p .main)).part _)).trans
    (State.removePending_keeps _ p .main fun _ => rfl))
  have all : KeepsHold (·.granted .main) p (s.bookMain p a o) (s.grantMainBooks p a o) := by
    refine KeepsHold.trans (t := s.grantMainBooked p a o) ?_
      (State.handGrant_keeps _ p a .main _ fun _ k _ => HoldRecord.granted_blind .main k)
    unfold State.grantMainBooked
    dsimp only
    split
    · exact booked.trans (State.expire_keeps _ a p .listen _ fun _ => rfl)
    · exact booked
  exact all.hold.trans ((BookAct.apply_granted (x := .main p a o) trivial p .main).trans (by simp [BookAct.granted]))

theorem State.grantListenBooks_granted (s : State) (p : Pos) (a : Ant) (o : Origin) :
    (s.grantListenBooks p a o).hold[p].granted .listen = some (a, o) := by
  have all : KeepsHold (·.granted .listen) p (s.bookListen p a o) (s.grantListenBooks p a o) :=
    (((State.unbookOld_keeps _ p .listen (s.heldAnt p .listen)).part _).trans
      (State.removePending_keeps _ p .listen fun _ => rfl)).trans
      (State.handGrant_keeps _ p a .listen _ fun _ k _ => HoldRecord.granted_blind .listen k)
  exact all.hold.trans ((BookAct.apply_granted (x := .listen p a o) trivial p .listen).trans (by simp [BookAct.granted]))

/-- What a step does for the position that it serves, which waits, in the step's slot, for an antenna: every other position's
record stays, a step for a listen slot leaves its main part, and the books lose its request and may gain a grant to it. -/
structure Serves (s t : State) (j : Slot) (q : Pos) (a : Ant) : Prop where
  pend : s.hold[q].pend j = some a
  others : ∀ p, p ≠ q → t.hold[p] = s.hold[p]
  main : j = .listen → t.hold[q].main = s.hold[q].main ∧ t.hold[q].pendMain = s.hold[q].pendMain
  books : t.books = s.books.forget q j ∨
    ∃ o, j = .listen ∧ t.books = (BookAct.listen q a o).on ((s.books.forget q .listen).cleared q .listen a) ∨
      j = .main ∧ t.books = (BookAct.main q a o).on ((s.books.forget q .main).cleared q .main a)

theorem HandStep.serves {s t : State} {j : Slot} (h : HandStep s j t) (hs : s.BooksAgree) : ∃ q a, Serves s t j q a := by
  have removed (a : Ant) {q p : Pos} (ne : p ≠ q) (k : Slot) : KeepsHold id p s (s.removeEntry a q k) :=
    s.removeEntry_keeps a q k fun e => absurd e.symm ne
  have forget {a : Ant} {q : Pos} {k : Slot} (pend : s.hold[q].pend k = some a) :
      (s.removeEntry a q k).books = s.books.forget q k := by
    rw [State.removeEntry_books, Books.forget_eq_remove pend]
  cases h with
  | @expire a _ e waits =>
    have pend := hs.pend_of_arbitration waits
    refine ⟨e.pos, a, pend, fun p ne => ((removed a ne j).trans (State.notify_keeps _ _ _)).hold, ?_,
      .inl (State.expire_books pend _)⟩
    rintro rfl
    exact ⟨(s.expire_keeps (v := (·.main)) (p := e.pos) a e.pos .listen _ fun _ => rfl).hold,
      (s.expire_keeps (v := (·.pendMain)) (p := e.pos) a e.pos .listen _ fun _ => rfl).hold⟩
  | @listen a e waits room _ own =>
    have pend := hs.pend_of_arbitration waits
    have part {β : Type} (v : HoldRecord → β) (blind : ListenBlind v) :=
      ((s.removeEntry_keeps (v := v) (p := e.pos) a e.pos .listen fun _ => blind _ _ none).trans
        (State.grantListenBooks_keeps (q := e.pos) (fun _ => blind) _ a e.origin)).hold
    have other := (State.removeEntry_mayListen hs waits room own).other
    exact ⟨e.pos, a, pend,
      fun p ne => ((removed a ne .listen).trans (State.grantListenBooks_keeps (fun e => absurd e.symm ne) _ a e.origin)).hold,
      fun _ => ⟨part (·.main) fun _ _ _ => rfl, part (·.pendMain) fun _ _ _ => rfl⟩,
      .inr ⟨e.origin, .inl ⟨rfl, by rw [State.grantListenBooks_books other, forget pend]⟩⟩⟩
  | @main a e waits free _ _ =>
    have pend := hs.pend_of_arbitration waits
    have agree : (s.removeEntry a e.pos .main).BooksAgree := (State.removeEntry_kept (.refl s) fun _ => pend).books hs
    exact ⟨e.pos, a, pend,
      fun p ne => ((removed a ne .main).trans (State.grantMainBooks_keeps ne.symm _ a e.origin)).hold, nofun,
      .inr ⟨e.origin, .inr ⟨rfl, by
        rw [State.grantMainBooks_books agree (State.removeEntry_free free _ _ _), forget pend]⟩⟩⟩

/-- A step leaves a slot of a position that awaits nothing there; a step for a listen slot leaves every main slot. -/
theorem HandStep.slot_kept {s t : State} {j : Slot} (h : HandStep s j t) (hs : s.BooksAgree) {p : Pos} {k : Slot}
    (only : k = .listen → j = .listen) (idle : j = .listen ∧ k = .main ∨ s.hold[p].pend k = none) :
    t.hold[p].holding k = s.hold[p].holding k ∧ t.hold[p].pend k = s.hold[p].pend k := by
  obtain ⟨q, a, pend, others, main, -⟩ := h.serves hs
  by_cases e : p = q
  · subst e
    cases k with
    | main =>
      cases j with
      | main => simp [-Fin.getElem_fin, pend] at idle
      | listen => exact main rfl
    | listen =>
      rw [only rfl] at pend
      simp [-Fin.getElem_fin, pend] at idle
  · rw [others p e]
    exact ⟨rfl, rfl⟩

/-! ## What a step lists -/

/-- Hand-overs of a slot pass by a position's crosspoint on an antenna: where the position awaits something that they can
grant, it awaits and holds another antenna there. -/
def State.Spared (s : State) (i : Slot) (p : Pos) (b : Ant) : Prop :=
  ∀ k c, (i = .listen → k = .listen) → s.hold[p].pend k = some c → c ≠ b ∧ s.heldAnt p k ≠ some b

theorem HandStep.spared {s t : State} {j : Slot} (h : HandStep s j t) (hs : s.BooksAgree) {i : Slot}
    (only : i = .listen → j = .listen) {p : Pos} {b : Ant} (spared : s.Spared i p b) : t.Spared i p b := by
  obtain ⟨q, a, pend, others, -, after⟩ := h.serves hs
  by_cases e : p = q
  · subst e
    obtain ⟨ne, held⟩ : a ≠ b ∧ s.books.held p j ≠ some b := spared j a only pend
    intro k c hk hc
    change t.books.pend p k = some c at hc
    change c ≠ b ∧ t.books.held p k ≠ some b
    have before : s.books.pend p k = some c → c ≠ b ∧ s.books.held p k ≠ some b := spared k c hk
    rcases after with after | ⟨o, ⟨rfl, after⟩ | ⟨rfl, after⟩⟩ <;> rw [after] at hc ⊢
    · simp only [Books.forget] at hc ⊢
      grind
    all_goals
      simp only [BookAct.on, Books.cleared_pend, Books.cleared_held, Books.forget] at hc ⊢
      grind
  · intro k c hk hc
    rw [others p e] at hc
    rw [State.heldAnt, others p e]
    exact spared k c hk hc

/-- A step leaves what is listed for a crosspoint that hand-overs pass by. -/
theorem HandStep.listed {s t : State} {j : Slot} (h : HandStep s j t) (hs : s.BooksAgree) (order : s.ListOrder) {i : Slot}
    (only : i = .listen → j = .listen) {p : Pos} {b : Ant} (spared : s.Spared i p b) : t.listed p b = s.listed p b := by
  have avoids {q : Pos} {k : Slot} {a : Ant} (only : i = .listen → k = .listen) (pend : s.hold[q].pend k = some a)
      (g : XpState) {old : Option Ant}
      (held : old = s.heldAnt q k) : p ≠ q ∨ ∀ x ∈ grantTargets a g old, x.ant ≠ b := by
    by_cases e : p = q
    · subst e
      obtain ⟨ne, held'⟩ := spared k a only pend
      refine .inr fun x hx => ?_
      rcases mem_grantTargets.mp hx with rfl | ⟨m, rfl, rfl⟩
      · exact ne
      · exact fun same => held' (held.symm.trans (congrArg some same))
    · exact .inl e
  have held (a : Ant) (q : Pos) (k : Slot) : (s.removeEntry a q k).heldAnt q k = s.heldAnt q k :=
    congrArg (fun B : Books => B.held q k) (s.removeEntry_books a q k)
  cases h with
  | expire _ => exact State.listed_of_drv (State.notify_drv _ _ _) p b
  | @listen a e waits room _ own =>
    obtain ⟨-, others⟩ := State.grantListenBooks_listed (s := s.removeEntry a e.pos .listen) (p := e.pos) order
      (State.removeEntry_mayListen hs waits room own).other e.origin
    exact others p b (avoids only (hs.pend_of_arbitration waits) .listen (held a e.pos .listen))
  | @main a e waits free _ _ =>
    have other : (s.removeEntry a e.pos .main).heldAnt e.pos .main ≠ some a := fun e' =>
      (s.booksAgree_iff.mp hs).unheld e.pos a .main (hs.pend_of_arbitration waits) ((held a e.pos .main).symm.trans e')
    obtain ⟨-, others⟩ := State.grantMainBooks_listed (s := s.removeEntry a e.pos .main) (p := e.pos) order other e.origin
    exact others p b (avoids only (hs.pend_of_arbitration waits) .main (held a e.pos .main))

/-! ## Runs -/

namespace HandRun

variable {s t : State} {k : Slot}

theorem keeps {P : State → Prop} (step : ∀ u v j, (k = .listen → j = .listen) → HandStep u j v → P u → P v)
    (h : HandRun k s t)
    (hs : P s) : P t := by
  induction h with
  | refl => exact hs
  | tail _ last ih =>
    obtain ⟨j, only, last⟩ := last
    exact step _ _ j only last ih

theorem frame (h : HandRun k s t) : AllocFrame s t :=
  h.keeps (P := AllocFrame s) (fun _ _ _ _ step ih => ih.trans step.frame) (.refl s)

theorem seqs (h : HandRun k s t) : SeqsSame s t :=
  h.keeps (P := SeqsSame s) (fun _ _ _ _ step ih => ih.trans step.seqs) (.refl s)

theorem kept (h : HandRun k s t) : OrderKept s t :=
  h.keeps (P := OrderKept s) (fun _ _ _ _ step ih => ih.trans step.kept) (.refl s)

/-- A run leaves a slot of a position that awaits nothing there; a run of a listen hand-over leaves every main slot. -/
theorem slot_kept (h : HandRun k s t) (hs : s.BooksAgree) {p : Pos} {i : Slot} (only : i = .listen → k = .listen)
    (idle : k = .listen ∧ i = .main ∨ s.hold[p].pend i = none) :
    t.hold[p].holding i = s.hold[p].holding i ∧ t.hold[p].pend i = s.hold[p].pend i := by
  refine (h.keeps (P := fun u => u.BooksAgree ∧ u.hold[p].holding i = s.hold[p].holding i ∧
    u.hold[p].pend i = s.hold[p].pend i) (fun u v j listen step ⟨hu, held, pend⟩ => ?_) ⟨hs, rfl, rfl⟩).2
  obtain ⟨held', pend'⟩ := step.slot_kept hu (fun e => listen (only e))
    (idle.imp (fun ⟨e, main⟩ => ⟨listen e, main⟩) pend.trans)
  exact ⟨step.kept.books hu, held'.trans held, pend'.trans pend⟩

theorem listed (h : HandRun k s t) (hs : s.BooksAgree) (order : s.ListOrder) {p : Pos} {b : Ant}
    (spared : s.Spared k p b) : t.listed p b = s.listed p b :=
  (h.keeps (P := fun u => u.BooksAgree ∧ u.ListOrder ∧ u.Spared k p b ∧ u.listed p b = s.listed p b)
    (fun _ _ _ only step ⟨hu, order, spared, same⟩ => ⟨step.kept.books hu, step.kept.list order,
      step.spared hu only spared, (step.listed hu order only spared).trans same⟩) ⟨hs, order, spared, rfl⟩).2.2.2

end HandRun

end Sys2Proof.Machine
end

section
/-! SUPPORT. What a grant and a release come to once the hand-overs after them have run (R56, R60, R64 to R68), and the requests
that end in a grant: SELECT_MAIN and SELECT_LISTEN. -/

namespace Sys2Proof.Machine

/-! ## A grant and what follows it -/

section Grants

variable {s t : State} {p : Pos} {a : Ant} {o : Origin}

/-- A slot of an antenna has been granted to a position, and the hand-overs that follow have run: the position has the
antenna, awaits nothing more in the slot, and its crosspoints are listed for the change (R53, R56, R60). -/
structure Granted (s t : State) (p : Pos) (k : Slot) (a : Ant) (o : Origin) (goal : XpState) : Prop where
  books : t.BooksAgree
  granted : t.hold[p].granted k = some (a, o)
  pend : t.hold[p].pend k = none
  handed : s.ListOrder → s.isParked p = false →
    Handed s t p a goal ∧ ∀ m : Ant, s.heldAnt p k = some m → Handed s t p m .opened

theorem Granted.heldAnt {k : Slot} {goal : XpState} (h : Granted s t p k a o goal) : t.heldAnt p k = some a := by
  rw [State.heldAnt_eq_granted, h.granted]
  rfl

/-- The main holder of an antenna granted is its new holder and no other antenna's (R51). -/
theorem Granted.holder {goal : XpState} (h : Granted s t p .main a o goal) (m : Ant) :
    t.alloc[m].holder = some p ↔ m = a := by
  rw [h.books.1 p m, h.heldAnt, Option.some.injEq, eq_comm]

theorem Granted.listeners {goal : XpState} (h : Granted s t p .listen a o goal) (m : Ant) :
    p ∈ t.alloc[m].listeners ↔ m = a := by
  rw [h.books.2.1.1 p m, h.heldAnt, Option.some.injEq, eq_comm]

theorem HandRun.granted_same {u : State} {k i : Slot} (run : HandRun k t u) (ht : t.BooksAgree)
    (only : i = .listen → k = .listen) (none : t.hold[p].pend i = none) :
    u.hold[p].granted i = t.hold[p].granted i ∧ u.hold[p].pend i = .none := by
  obtain ⟨held, pend⟩ := run.slot_kept ht only (.inr none)
  exact ⟨by rw [HoldRecord.granted, HoldRecord.granted, held], pend.trans none⟩

/-- A main grant of a free antenna, with the hand-overs after it. -/
theorem HandRun.mainGranted (run : HandRun .main (s.grantMainBooks p a o) t) (hs : s.BooksAgree)
    (free : s.alloc[a].holder = none) : Granted s t p .main a o .main := by
  have agree := s.booksAgree_iff.mp hs
  have kept := State.grantMainBooks_kept (p := p) (.refl s) (fun _ => free) o
  have books := State.grantMainBooks_books hs (p := p) free o
  have other : s.heldAnt p .main ≠ some a := fun e => by
    have holds := (agree.mains p a).mpr e
    rw [show s.books.holder a = none from free] at holds
    cases holds
  have pend : (s.grantMainBooks p a o).hold[p].pend .main = none :=
    (congrArg (fun B : Books => B.pend p .main) books).trans (by simp [BookAct.on, Books.cleared_pend])
  obtain ⟨granted, stays⟩ := run.granted_same (i := .main) (kept.books hs) nofun pend
  refine ⟨run.kept.books (kept.books hs), granted.trans (s.grantMainBooks_granted p a o), stays, fun order parked => ?_⟩
  obtain ⟨own, -⟩ := State.grantMainBooks_listed (p := p) order other o
  have spared (b : Ant) (hb : b = a ∨ s.heldAnt p .main = some b) : (s.grantMainBooks p a o).Spared .main p b := by
    intro k c _ hc
    cases k with
    | main => rw [pend] at hc; cases hc
    | listen =>
      change (s.grantMainBooks p a o).books.pend p .listen = some c at hc
      change c ≠ b ∧ (s.grantMainBooks p a o).books.held p .listen ≠ some b
      rw [books] at hc ⊢
      have slots := agree.slots p b
      have awaits := agree.own p b
      change b = a ∨ s.books.held p .main = some b at hb
      simp only [BookAct.on, Books.cleared_pend, Books.cleared_held] at hc ⊢
      grind
  have still (b : Ant) (hb : b = a ∨ s.heldAnt p .main = some b) := run.listed (kept.books hs) (kept.list order) (spared b hb)
  refine ⟨(still a (.inl rfl)).trans (own parked _ (mem_grantTargets.mpr (.inl rfl))), fun m hm => ?_⟩
  exact (still m (.inr hm)).trans (own parked _ (mem_grantTargets.mpr (.inr ⟨m, hm, rfl⟩)))

/-- A listen grant of an antenna with room, with the hand-overs after it. -/
theorem HandRun.listenGranted (run : HandRun .listen (s.grantListenBooks p a o) t) (hs : s.BooksAgree)
    (may : s.MayListen p a) : Granted s t p .listen a o .listen := by
  have kept := State.grantListenBooks_kept (.refl s) (fun _ => may) o
  have books := State.grantListenBooks_books may.other o
  have pend : (s.grantListenBooks p a o).hold[p].pend .listen = none :=
    (congrArg (fun B : Books => B.pend p .listen) books).trans (by simp [BookAct.on, Books.cleared_pend])
  obtain ⟨granted, stays⟩ := run.granted_same (kept.books hs) id pend
  refine ⟨run.kept.books (kept.books hs), granted.trans (s.grantListenBooks_granted p a o), stays, fun order parked => ?_⟩
  obtain ⟨own, -⟩ := State.grantListenBooks_listed (p := p) order may.other o
  have spared (b : Ant) : (s.grantListenBooks p a o).Spared .listen p b := by
    intro k c hk hc
    rw [hk rfl, pend] at hc
    cases hc
  have still (b : Ant) := run.listed (kept.books hs) (kept.list order) (spared b)
  refine ⟨(still a).trans (own parked _ (mem_grantTargets.mpr (.inl rfl))), fun m hm => ?_⟩
  exact (still m).trans (own parked _ (mem_grantTargets.mpr (.inr ⟨m, hm, rfl⟩)))

end Grants

/-! ## SELECT_MAIN and SELECT_LISTEN granted -/

/-- Settles O16: the grant of the free antenna, then the hand-overs of what it replaces. -/
theorem selectMainGrantsFreeAntenna : Obligations.SelectMainGrantsFreeAntenna := by
  intro s p x w a b serving hs parked band num good out free
  have other : s.heldAnt p .main ≠ some a := fun e => by
    have holds := (hs.1 p a).mpr e
    rw [free] at holds
    cases holds
  have plan : s.selectMain p x w = (.done, fun t => t.grantMain p a .operator) :=
    (State.selectMain_present parked band num (State.present_of_mainElig good)).trans
      (by simp [-Fin.getElem_fin, good, out, other, free])
  let u := s.onlyAnswers (linkOf p) 1 .done
  have run := u.grantMain_steps p a .operator
  have granted := run.mainGranted (s := u) hs free
  have frame : AllocFrame u (u.grantMain p a .operator) := u.grantMain_frame p a .operator
  have seqs : SeqsSame u (u.grantMain p a .operator) := (State.grantMainBooks_seqs (s := u) out a .operator).trans run.seqs
  refine ⟨_, (exec_selectMain serving x w).trans (by rw [plan]), frame.restKept.answered rfl, granted.heldAnt, granted.holder,
    granted.pend, (s.onlyAnswers_restKept _ _ _).trans frame.restKept, frame.bands, frame.sam, frame.spans, frame.prot,
    frame.drv, seqs.onlySettles, fun order => granted.handed order parked⟩

/-- Settles O18: the checks in order, then the grant with room, and without room what the pending requests say. -/
theorem selectListenGrantsRoom : Obligations.SelectListenGrantsRoom := by
  refine ⟨fun s p x w serving => ?_, fun s p x a b serving hs parked band num good own out other => ?_⟩
  · have answers {r : Result} (plan : s.selectListen p x w = justAnswer r) :
        exec (.selectListen p x w) s = .next (s.onlyAnswers (linkOf p) 2 r) := by
      rw [exec_selectListen serving, plan]
      rfl
    refine ⟨fun parked => answers (State.selectListen_parked parked),
      fun parked band => answers (State.selectListen_band parked band), fun b parked band =>
      ⟨fun absent => answers (State.selectListen_unknown parked band absent), fun a num here => ?_⟩⟩
    have plan := State.selectListen_present (w := w) parked band num here
    refine ⟨fun bad => answers (plan.trans (if_pos ?_)), fun good own =>
      ⟨fun keyed => answers (plan.trans (by simp [-Fin.getElem_fin, good, own, keyed])), fun out mine =>
        answers (plan.trans (by simp [-Fin.getElem_fin, good, own, out, mine]))⟩⟩
    rcases bad with bad | bad <;> simp [bad]
  · have plan (w : Bool) : s.selectListen p x w =
        if s.hasListenRoom a then (.done, fun t => t.grantListen p a .operator)
        else if s.cfg.ants[a].capacity == 0 then justAnswer .busy
        else s.queueRequest p .listen a w :=
      (State.selectListen_present parked band num (State.present_of_listenElig good)).trans
        (by simp [-Fin.getElem_fin, good, out, own, other])
    refine ⟨fun room w => ?_, fun full => ?_⟩
    · let u := s.onlyAnswers (linkOf p) 2 .done
      have run := u.grantListen_steps p a .operator
      have granted := run.listenGranted (s := u) hs ⟨room, other, own⟩
      have frame : AllocFrame u (u.grantListen p a .operator) := u.grantListen_frame p a .operator
      have seqs : SeqsSame u (u.grantListen p a .operator) := (u.grantListenBooks_seqs p a .operator).trans run.seqs
      refine ⟨_, (exec_selectListen serving x w).trans (by rw [plan, if_pos room]), frame.restKept.answered rfl,
        granted.heldAnt, granted.listeners, granted.pend, (s.onlyAnswers_restKept _ _ _).trans frame.restKept, frame.bands,
        frame.sam, frame.spans, frame.prot, frame.drv, seqs.onlySettles, fun order => granted.handed order parked⟩
    · have asked (w : Bool) (share : s.cfg.ants[a].capacity ≠ 0) :=
        (exec_selectListen serving x w).trans (by
          rw [plan, if_neg (by simp [full]), if_neg (by simpa [-Fin.getElem_fin] using share)])
      have busy (w : Bool) (share : s.cfg.ants[a].capacity = 0) :
          exec (.selectListen p x w) s = .next (s.onlyAnswers (linkOf p) 2 .busy) := by
        rw [exec_selectListen serving, plan, if_neg (by simp [full]), if_pos (by simpa [-Fin.getElem_fin] using share)]
        rfl
      refine ⟨?_, busy false, fun share fresh waits => ?_, fun share mine => ?_, fun share fresh apart => ?_⟩
      · by_cases share : s.cfg.ants[a].capacity = 0
        · exact busy true share
        · exact asked true share
      · rw [asked false share, State.queueRequest_other (k := .listen) fresh (j := .main) (by nofun) waits]
        rfl
      · rw [asked false share, State.queueRequest_own (k := .listen) mine]
        exact congrArg _ (State.claimEntry_eq _ a p .listen)
      · rw [asked false share, State.queueRequest_new fun j => by cases j <;> assumption]
        have queued : QueuedFor (s.onlyAnswers (linkOf p) 2 .queued) _ p .listen a := State.appendEntry_queued fresh
        exact ⟨_, rfl, queued.links, queued.pend, queued.queue, queued.holdings, queued.lists,
          (s.onlyAnswers_restKept _ _ _).trans queued.rest, queued.drv, queued.seqs⟩

end Sys2Proof.Machine
end

section
/-! SUPPORT. Whom a hand-over serves (R66, R67): the first waiter in arbitration order that the slot may be granted to, and
what the hand-over leaves where there is none. -/

namespace Sys2Proof.Machine

/-! ## The first waiter that may be granted -/

/-- The slot of an antenna may go to an entry of its kind (R66, R67). -/
def State.mayGrant (s : State) (a : Ant) (k : Slot) (e : WaitEntry) : Bool :=
  match k with
  | .main => !s.inSpan e.pos && s.mainElig a e.pos
  | .listen => s.listenElig a e.pos && s.heldAnt e.pos .main != some a

/-- Entries that a hand-over passes over and keeps (R66). -/
def State.passes (s : State) (k : Slot) (e : WaitEntry) : Bool := k == .main && s.inSpan e.pos

theorem State.mayGrant_iff {s : State} {a : Ant} {k : Slot} {e : WaitEntry} :
    s.MayGrant a k e ↔ e.kind = k ∧ s.mayGrant a k e = true := by
  cases k <;> simp [State.MayGrant, State.mayGrant]

theorem State.mem_arbitration {s : State} {a : Ant} {k : Slot} {e : WaitEntry} :
    e ∈ s.arbitration a k ↔ e ∈ s.alloc[a].queue ∧ e.kind = k := by
  simp only [State.arbitration, List.mem_append, List.mem_filter, beq_iff_eq]
  cases s.isRun e.pos <;> simp

theorem State.not_passes_of_mayGrant {s : State} {a : Ant} {k : Slot} {e : WaitEntry} (h : s.mayGrant a k e = true) :
    s.passes k e = false := by
  cases k with
  | main =>
    obtain ⟨out, -⟩ := Bool.and_eq_true_iff.mp h
    simpa [State.passes] using out
  | listen => rfl

/-- The first waiter in arbitration order is the first entry of the arbitration list that may be granted (R66). -/
theorem State.FirstInLine.find? {s : State} {a : Ant} {k : Slot} {e : WaitEntry} (h : s.FirstInLine a k e) :
    (s.arbitration a k).find? (s.mayGrant a k) = some e := by
  obtain ⟨may, before, after, queue, first, rest⟩ := h
  obtain ⟨kind, may⟩ := State.mayGrant_iff.mp may
  have first' (x : WaitEntry) (hx : x ∈ before) (hk : x.kind = k) (hm : s.mayGrant a k x = true) :=
    first x hx (State.mayGrant_iff.mpr ⟨hk, hm⟩)
  have rest' (x : WaitEntry) (hx : x ∈ after) (hk : x.kind = k) (hm : s.mayGrant a k x = true) :=
    rest x hx (State.mayGrant_iff.mpr ⟨hk, hm⟩)
  have found (b : Bool) (same : s.isRun e.pos = b)
      (ahead : ∀ x ∈ before, x.kind = k → s.isRun x.pos = b → s.mayGrant a k x = false) :
      (((s.alloc[a].queue.filter fun x => x.kind == k).filter fun x => s.isRun x.pos == b).find? (s.mayGrant a k)) = some e := by
    rw [queue, List.filter_filter, List.find?_filter, List.find?_append, List.find?_eq_none.mpr, Option.none_or,
      List.find?_cons_of_pos]
    · simp [kind, same, may]
    · intro x hx
      have := ahead x hx
      grind
  rw [State.arbitration, List.find?_append]
  cases class_ : s.isRun e.pos with
  | true =>
    have none_ := found true class_ fun x hx hk run => by grind
    simp only [beq_true] at none_
    rw [none_]
    rfl
  | false =>
    have none_ : ((s.alloc[a].queue.filter fun x => x.kind == k).filter fun x => s.isRun x.pos).find? (s.mayGrant a k) = none := by
      rw [List.find?_eq_none, queue]
      intro x hx
      simp only [List.mem_filter, List.mem_append, List.mem_cons, beq_iff_eq] at hx
      grind
    rw [none_, Option.none_or]
    have some_ := found false class_ fun x hx hk run => by grind
    simpa only [beq_false] using some_

/-! ## What a hand-over comes to -/

/-- A hand-over may serve a waiter: the main slot is free, or the listener list has room. -/
def State.slotOpen (s : State) (a : Ant) : Slot → Prop
  | .main => s.alloc[a].holder = none
  | .listen => s.hasListenRoom a = true

/-- The books of a grant of a slot. -/
def State.grantBooks (s : State) (k : Slot) (p : Pos) (a : Ant) (o : Origin) : State :=
  match k with
  | .main => s.grantMainBooks p a o
  | .listen => s.grantListenBooks p a o

/-- What a hand-over of a slot of an antenna makes of `s`: steps lead to a state where the first waiter that may be granted
is granted, and more steps follow; without such a waiter every entry goes but those passed over, and nobody gets the slot. -/
structure HandsOver (k : Slot) (a : Ant) (s t : State) : Prop where
  serves : ∀ e, (s.arbitration a k).find? (s.mayGrant a k) = some e → ∃ v, HandRun k s v ∧ e ∈ v.arbitration a k ∧
    v.slotOpen a k ∧ v.mayGrant a k e = true ∧ HandRun k ((v.removeEntry a e.pos k).grantBooks k e.pos a e.origin) t
  nobody : (∀ e ∈ s.arbitration a k, s.mayGrant a k e = false) →
    t.alloc[a].holder = s.alloc[a].holder ∧ t.alloc[a].listeners = s.alloc[a].listeners ∧
      t.alloc[a].queue = s.alloc[a].queue.filter fun e => e.kind != k || s.passes k e

section Rounds

variable {s t : State} {a : Ant} {k : Slot} {e : WaitEntry}

/-- The hand-over ends where every entry of its kind is passed over. -/
theorem HandsOver.of_passed (h : ∀ e ∈ s.arbitration a k, s.passes k e = true) : HandsOver k a s s where
  serves e found := by
    have passed := h e (List.mem_of_find?_eq_some found)
    rw [State.not_passes_of_mayGrant (List.find?_some found)] at passed
    cases passed
  nobody _ := by
    refine ⟨rfl, rfl, (List.filter_eq_self.mpr fun e he => ?_).symm⟩
    by_cases kind : e.kind = k
    · simp [h e (State.mem_arbitration.mpr ⟨he, kind⟩)]
    · simp [kind]

/-- The hand-over grants the slot to the first waiter of its round. -/
theorem HandsOver.of_granted (found : (s.arbitration a k).find? (fun x => !s.passes k x) = some e) (slot : s.slotOpen a k)
    (may : s.mayGrant a k e = true) (run : HandRun k ((s.removeEntry a e.pos k).grantBooks k e.pos a e.origin) t) :
    HandsOver k a s t where
  serves f hf := by
    have same : (s.arbitration a k).find? (s.mayGrant a k) = some e := by
      obtain ⟨-, as, bs, split, ahead⟩ := List.find?_eq_some_iff_append.mp found
      refine List.find?_eq_some_iff_append.mpr ⟨may, as, bs, split, fun x hx => ?_⟩
      have passed := ahead x hx
      cases good : s.mayGrant a k x with
      | false => rfl
      | true => simp [State.not_passes_of_mayGrant good] at passed
    cases same.symm.trans hf
    exact ⟨s, .refl k s, List.mem_of_find?_eq_some found, slot, may, run⟩
  nobody none := by
    have no := none e (List.mem_of_find?_eq_some found)
    rw [may] at no
    cases no

theorem State.expire_lists (s : State) (a : Ant) (p : Pos) (k : Slot) (c : Cause) (b : Ant) :
    (s.expire a p k c).alloc[b].holder = s.alloc[b].holder ∧ (s.expire a p k c).alloc[b].listeners = s.alloc[b].listeners := by
  rw [State.expire, (State.notify_grow _ p _).same.alloc]
  exact ⟨BookAct.apply_holder (x := .remove a p k) trivial b, (BookAct.apply_queue (x := .remove a p k) trivial b).2⟩

theorem State.expire_heldAnt (s : State) (a : Ant) (p : Pos) (k : Slot) (c : Cause) (q : Pos) (j : Slot) :
    (s.expire a p k c).heldAnt q j = s.heldAnt q j :=
  ((State.notify_grow _ p _).same.heldAnt q j).trans (congrArg (fun B : Books => B.held q j) (s.removeEntry_books a p k))

theorem AllocFrame.isRun {s t : State} (h : AllocFrame s t) (p : Pos) : t.isRun p = s.isRun p := by
  rw [State.isRun, h.cfg]
  rfl

theorem State.expire_arbitration (s : State) (a : Ant) (p : Pos) (k j : Slot) (c : Cause) :
    (s.expire a p k c).arbitration a j = (s.arbitration a j).filter fun e => !(e.pos == p && e.kind == k) := by
  have run (q : Pos) := (s.expire_frame a p k c).isRun q
  simp only [State.arbitration, State.expire_queue, run, List.filter_append, List.filter_filter]
  congr 1 <;> exact List.filter_congr fun x _ => by grind

/-- The hand-over lets an entry go that may not be granted, and goes on. -/
theorem HandsOver.of_expired (waits : e ∈ s.arbitration a k) (not : s.mayGrant a k e = false) (stays : s.passes k e = false)
    (next : HandsOver k a (s.expire a e.pos k .ineligible) t) : HandsOver k a s t := by
  have frame := s.expire_frame a e.pos k .ineligible
  have may (x : WaitEntry) : (s.expire a e.pos k .ineligible).mayGrant a k x = s.mayGrant a k x := by
    cases k with
    | main => exact congrArg₂ (fun x y => !x && y) (frame.inSpan x.pos) (frame.elig .main a x.pos)
    | listen => 
      exact congrArg₂ (fun y z => y && z != some a) (frame.elig .listen a x.pos) (s.expire_heldAnt a e.pos .listen _ x.pos .main)
  have kind := (State.mem_arbitration.mp waits).2
  have alike (x : WaitEntry) (same : x.pos = e.pos) : s.mayGrant a k x = false ∧ s.passes k x = false := by
    cases k <;> simp only [State.mayGrant, State.passes, same] at not stays ⊢ <;> exact ⟨not, stays⟩
  refine ⟨fun f found => ?_, fun none => ?_⟩
  · obtain ⟨v, run, rest⟩ := next.serves f (by
      rw [State.expire_arbitration, List.find?_filter, ← found]
      refine List.find?_congr fun x _ => ?_
      rw [may]
      by_cases same : x.pos = e.pos
      · simp [alike x same]
      · simp [same])
    exact ⟨v, (HandStep.expire waits).run.trans run, rest⟩
  · obtain ⟨holder, listeners, queue⟩ := next.nobody fun x hx => by
      rw [State.expire_arbitration] at hx
      rw [may]
      exact none x (List.mem_of_mem_filter hx)
    obtain ⟨holder', listeners'⟩ := s.expire_lists a e.pos k .ineligible a
    refine ⟨holder.trans holder', listeners.trans listeners', queue.trans ?_⟩
    rw [State.expire_queue, List.filter_filter]
    refine List.filter_congr fun x _ => ?_
    rw [show State.passes _ k x = s.passes k x from congrArg (k == .main && ·) (frame.inSpan x.pos)]
    by_cases same : x.pos = e.pos
    · simp [alike x same]
      grind
    · simp [same]

end Rounds

theorem State.handMainFuel_handsOver (n : Nat) (a : Ant) (s : State) (free : s.alloc[a].holder = none)
    (fuel : s.entriesTotal < n) : HandsOver .main a s (State.handMainFuel n a s) := by
  induction n generalizing s with
  | zero => exact absurd fuel (Nat.not_lt_zero _)
  | succ n ih =>
    rw [State.handMainFuel, if_neg (by simp [-Fin.getElem_fin, free])]
    split
    · next none =>
      exact .of_passed fun e he => by simpa [State.passes] using List.find?_eq_none.mp none e he
    · next e found =>
      have waits := List.mem_of_find?_eq_some found
      have out : s.inSpan e.pos = false := by simpa using List.find?_some found
      split
      · next good =>
        exact .of_granted found free (by simp [State.mayGrant, out, good])
          (State.grantMainWith_steps (fun b t => State.handMainFuel_steps n b t) e.pos a e.origin _)
      · next bad =>
        have fewer := State.expire_fewer (State.waitsOn_of_arbitration waits) .ineligible
        exact .of_expired waits (by simp [State.mayGrant, bad]) (by simp [State.passes, out])
          (ih _ ((s.expire_lists a e.pos .main .ineligible a).1.trans free) (by omega))

theorem State.handListenFuel_handsOver (n : Nat) (a : Ant) (s : State) (room : s.hasListenRoom a = true)
    (fuel : s.entriesTotal < n) : HandsOver .listen a s (State.handListenFuel n a s) := by
  induction n generalizing s with
  | zero => exact absurd fuel (Nat.not_lt_zero _)
  | succ n ih =>
    rw [State.handListenFuel, if_pos room]
    split
    · next none =>
      refine .of_passed fun e he => ?_
      rw [List.head?_eq_none_iff.mp none] at he
      cases he
    · next e head =>
      have waits := List.mem_of_mem_head? head
      split
      · next good =>
        have found : (s.arbitration a .listen).find? (fun x => !s.passes .listen x) = some e := by
          obtain ⟨es, list⟩ := List.head?_eq_some_iff.mp head
          rw [list]
          rfl
        refine .of_granted found room good ?_
        rw [State.grantListenWith_eq]
        exact (State.handOld_steps (State.handListenFuel_steps n) _ _).trans (State.handListenFuel_steps n a _)
      · next bad =>
        have fewer := State.expire_fewer (State.waitsOn_of_arbitration waits) .ineligible
        refine .of_expired waits (by simpa [State.mayGrant] using bad) rfl (ih _ ?_ (by omega))
        rw [State.hasListenRoom, (s.expire_lists a e.pos .listen .ineligible a).2, (s.expire_frame _ _ _ _).cfg]
        exact room

/-- What a hand-over of an open slot comes to (R66, R67). -/
theorem State.handSlot_handsOver {s : State} {k : Slot} {a : Ant} (slot : s.slotOpen a k) :
    HandsOver k a s (s.handSlot k a) := by
  cases k with
  | main => exact State.handMainFuel_handsOver _ a s slot (Nat.lt_succ_self _)
  | listen => exact State.handListenFuel_handsOver _ a s slot (Nat.lt_succ_self _)

end Sys2Proof.Machine
end

section
/-! SUPPORT. A slot released and handed on (R61, R62, R64 to R67), and the requests DROP_MAIN and DROP_LISTEN. -/

namespace Sys2Proof.Machine

/-! ## A grant of either slot -/

section Grants

variable {s t v : State} {p : Pos} {a : Ant} {k : Slot} {e : WaitEntry}

/-- Where a grant of a slot takes the crosspoint (R53). -/
def slotGoal : Slot → XpState
  | .main => .main
  | .listen => .listen

/-- An entry taken from its queue and granted, with the hand-overs after it. -/
theorem HandRun.entryGranted (run : HandRun k ((v.removeEntry a e.pos k).grantBooks k e.pos a e.origin) t) (hv : v.BooksAgree)
    (waits : e ∈ v.arbitration a k) (slot : v.slotOpen a k) (may : v.mayGrant a k e = true) :
    Granted (v.removeEntry a e.pos k) t e.pos k a e.origin (slotGoal k) := by
  have kept : OrderKept v (v.removeEntry a e.pos k) := State.removeEntry_kept (.refl v) fun hs => hs.pend_of_arbitration waits
  cases k with
  | main => exact run.mainGranted (kept.books hv) (State.removeEntry_free slot a e.pos .main)
  | listen =>
    obtain ⟨-, own⟩ := Bool.and_eq_true_iff.mp may
    exact run.listenGranted (kept.books hv) (State.removeEntry_mayListen hv waits slot (by simpa using own))

/-- What is listed for a grant is told from the state before the hand-over, as no hand-over moves a crosspoint. -/
theorem Granted.handed_from {o : Origin} {goal : XpState} (h : Granted v t p k a o goal) (frame : AllocFrame s v)
    (kept : OrderKept s v) (order : s.ListOrder) (parked : s.isParked p = false) : Handed s t p a goal := by
  obtain ⟨own, -⟩ := h.handed (kept.list order) ((frame.isParked p).trans parked)
  rw [Handed, ← frame.futureXp]
  exact own

/-- The first waiter that may be granted is granted by the hand-over (R66, R67). -/
theorem HandsOver.granted (h : HandsOver k a s t) (hs : s.BooksAgree)
    (found : (s.arbitration a k).find? (s.mayGrant a k) = some e) :
    ∃ v, AllocFrame s v ∧ OrderKept s v ∧ Granted v t e.pos k a e.origin (slotGoal k) := by
  obtain ⟨v, run, waits, slot, may, rest⟩ := h.serves e found
  refine ⟨_, run.frame.trans (v.removeEntry_frame a e.pos k), ?_, rest.entryGranted (run.kept.books hs) waits slot may⟩
  exact run.kept.trans (State.removeEntry_kept (.refl v) fun hs => hs.pend_of_arbitration waits)

/-- Hand-overs give a position no antenna that it neither holds nor awaits in a slot. -/
theorem HandRun.avoids (run : HandRun k s t) (hs : s.BooksAgree) {i : Slot}
    (out : s.heldAnt p i ≠ some a ∧ s.hold[p].pend i ≠ some a) : t.heldAnt p i ≠ some a ∧ t.hold[p].pend i ≠ some a := by
  refine (run.keeps (P := fun u => u.BooksAgree ∧ u.heldAnt p i ≠ some a ∧ u.hold[p].pend i ≠ some a)
    (fun u w j _ step ⟨hu, held, pend⟩ => ⟨step.kept.books hu, ?_⟩) ⟨hs, out⟩).2
  obtain ⟨q, b, waits, others, -, after⟩ := step.serves hu
  by_cases same : p = q
  · subst same
    change w.books.held p i ≠ some a ∧ w.books.pend p i ≠ some a
    change u.books.held p i ≠ some a at held
    change u.books.pend p i ≠ some a at pend
    change u.books.pend p j = some b at waits
    rcases after with after | ⟨o, ⟨rfl, after⟩ | ⟨rfl, after⟩⟩ <;> rw [after]
    · simp only [Books.forget]
      grind
    all_goals
      simp only [BookAct.on, Books.cleared_pend, Books.cleared_held, Books.forget]
      grind
  · rw [State.heldAnt, others p same]
    exact ⟨held, pend⟩

/-- The arbitration order of an antenna is read from its queue and the classes of positions. -/
theorem State.arbitration_congr (frame : AllocFrame s t) (queue : t.alloc[a].queue = s.alloc[a].queue) (k : Slot) :
    t.arbitration a k = s.arbitration a k := by
  simp only [State.arbitration, queue, frame.isRun]

theorem State.mayGrant_congr (frame : AllocFrame s t)
    (own : k = .listen → ∀ q, t.heldAnt q .main = s.heldAnt q .main) : t.mayGrant a k = s.mayGrant a k := by
  funext x
  cases k with
  | main => exact congrArg₂ (fun y z => !y && z) (frame.inSpan x.pos) (frame.elig .main a x.pos)
  | listen => exact congrArg₂ (fun y z => y && z != some a) (frame.elig .listen a x.pos) (own rfl x.pos)

end Grants

/-! ## A slot released -/

section Release

variable {s t : State} {p : Pos} {a : Ant} {k : Slot}

theorem State.releaseSlot_frame (s : State) (p : Pos) (k : Slot) (a : Ant) (n : Option Notice) :
    AllocFrame s (s.releaseSlot p k a n) := by
  have told (u : State) : AllocFrame u ((u.handChangeSet p [⟨a, .opened⟩]).notifyOpt p n) :=
    ((u.handChangeSet_same p _).trans (State.notifyOpt_same _ p n)).frame
  cases k with
  | main => exact (s.unbookMain_frame p a).trans (told _)
  | listen => exact (s.unbookListen_frame p a).trans (told _)

/-- A release leaves every wait queue. -/
theorem State.releaseSlot_queue (s : State) (p : Pos) (k : Slot) (a : Ant) (n : Option Notice) (b : Ant) :
    (s.releaseSlot p k a n).alloc[b].queue = s.alloc[b].queue := by
  have told (u : State) : ((u.handChangeSet p [⟨a, .opened⟩]).notifyOpt p n).alloc = u.alloc :=
    ((u.handChangeSet_same p _).trans (State.notifyOpt_same _ p n)).alloc
  cases k with
  | main =>
    refine (congrArg (fun al : Vector AllocRecord 20 => al[b].queue) (told _)).trans ?_
    exact (BookAct.apply_queue (s := s.setHold p (s.hold[p].setHolding .main none)) (x := .free a) trivial b).1
  | listen =>
    refine (congrArg (fun al : Vector AllocRecord 20 => al[b].queue) (told _)).trans ?_
    exact (BookAct.apply_queue (s := s.setHold p (s.hold[p].setHolding .listen none)) (x := .leave p a) trivial b).1

/-- The state from which a released slot of an antenna is handed on: the books are those of the release, with the pending
request of the slot removed or not, and nothing else has happened. -/
structure Released (s w : State) (p : Pos) (k : Slot) (a : Ant) : Prop where
  frame : AllocFrame s w
  kept : OrderKept s w
  seqs : SeqsSame s w
  queue : w.alloc[a].queue = s.alloc[a].queue
  books : w.books = s.books.vacate p k ∨ w.books = (s.books.vacate p k).forget p k
  list : s.ListOrder → s.isParked p = false → Handed s w p a .opened

theorem State.releaseSlot_released (held : s.heldAnt p k = some a) (n : Option Notice) :
    Released s (s.releaseSlot p k a n) p k a where
  frame := s.releaseSlot_frame p k a n
  kept := State.releaseSlot_kept (.refl s) (fun _ => held) n
  seqs := s.releaseSlot_seqs p k a n
  queue := s.releaseSlot_queue p k a n a
  books := .inl (State.releaseSlot_books held n)
  list order parked := (State.releaseSlot_listed (p := p) (a := a) order k n).1 parked

theorem Released.removePending (h : Released s t p k a) (unasked : t.hold[p].pend k ≠ some a)
    (books : t.books = s.books.vacate p k) : Released s (t.removePending p k) p k a where
  frame := h.frame.trans (t.removePending_frame p k)
  kept := h.kept.trans (t.removePending_kept p k)
  seqs := h.seqs.trans (t.removePending_seqs p k)
  queue := by
    obtain ⟨al, removed, lists⟩ := t.removePending_eq p k
    rw [removed]
    exact (lists a).2.2.trans ((if_neg unasked).trans h.queue)
  books := .inr (by rw [State.removePending_books, books])
  list order parked := (State.listed_of_drv (t.removePending_drv p k) p a).trans (h.list order parked)

namespace Released

variable {w : State}

theorem heldAnt (h : Released s w p k a) (q : Pos) (j : Slot) :
    w.heldAnt q j = if p = q ∧ j = k then none else s.heldAnt q j := by
  change w.books.held q j = _
  rcases h.books with books | books <;> rw [books] <;> rfl

theorem pend (h : Released s w p k a) (q : Pos) (j : Slot) (c : Ant) (waits : w.hold[q].pend j = some c) :
    s.hold[q].pend j = some c := by
  change w.books.pend q j = some c at waits
  rcases h.books with books | books <;> rw [books] at waits
  · exact waits
  · simp only [Books.forget, Books.vacate] at waits
    split at waits
    · cases waits
    · exact waits

/-- The slot released is open. -/
theorem slotOpen (h : Released s w p k a) (hs : s.BooksAgree) (held : s.heldAnt p k = some a) : w.slotOpen a k := by
  have agree := s.booksAgree_iff.mp hs
  change s.books.held p k = some a at held
  cases k with
  | main =>
    change w.books.holder a = none
    rcases h.books with books | books <;> rw [books] <;> simp [Books.vacate, Books.forget, held]
  | listen =>
    have lists : w.books.listeners a = (s.books.listeners a).filter (· != p) := by
      rcases h.books with books | books <;> rw [books] <;> simp [Books.vacate, Books.forget, held]
    have shorter : ((s.books.listeners a).filter (· != p)).length < (s.books.listeners a).length :=
      List.length_filter_lt_length_iff_exists.mpr ⟨p, (agree.listens p a).mpr held, by simp⟩
    refine decide_eq_true ?_
    change (w.books.listeners a).length < w.cfg.ants[a].capacity
    rw [lists, h.frame.cfg]
    exact shorter.trans_le (agree.shares a)

/-- The books of a position that has dropped an antenna: it has and awaits it in no slot. -/
theorem spared (h : Released s w p k a) (hs : s.BooksAgree) (held : s.heldAnt p k = some a) : w.Spared k p a := by
  have agree := s.booksAgree_iff.mp hs
  intro j c only waits
  have before := h.pend p j c waits
  have unheld := agree.unheld p a k
  have own := agree.own p a
  have slots := agree.slots p a
  change s.books.pend p j = some c at before
  change s.books.held p k = some a at held
  rw [h.heldAnt]
  change c ≠ a ∧ (if p = p ∧ j = k then none else s.books.held p j) ≠ some a
  cases k <;> cases j <;> grind

variable (h : Released s w p k a) (hs : s.BooksAgree) (held : s.heldAnt p k = some a)

include h hs held

/-- The released slot handed on: whom it goes to, what it leaves without a waiter, and what is listed (R53, R66, R67). -/
theorem served {e : WaitEntry} (first : s.FirstInLine a k e) :
    ∃ v, AllocFrame s v ∧ OrderKept s v ∧ Granted v (w.handSlot k a) e.pos k a e.origin (slotGoal k) := by
  obtain ⟨v, frame, kept, granted⟩ := (State.handSlot_handsOver (h.slotOpen hs held)).granted (e := e) (h.kept.books hs) (by
    rw [State.arbitration_congr h.frame h.queue, State.mayGrant_congr h.frame fun listen q => by rw [h.heldAnt]; simp [listen]]
    exact first.find?)
  exact ⟨v, h.frame.trans frame, h.kept.trans kept, granted⟩

theorem unserved (none : ∀ e ∈ s.alloc[a].queue, ¬s.MayGrant a k e) :
    (w.handSlot k a).alloc[a].holder = w.alloc[a].holder ∧ (w.handSlot k a).alloc[a].listeners = w.alloc[a].listeners ∧
      (w.handSlot k a).alloc[a].queue = s.alloc[a].queue.filter fun e => e.kind != k || s.passes k e := by
  have passes : w.passes k = s.passes k := funext fun e => congrArg (k == .main && ·) (h.frame.inSpan e.pos)
  rw [← passes, ← h.queue]
  refine (State.handSlot_handsOver (h.slotOpen hs held)).nobody fun e he => ?_
  rw [State.arbitration_congr h.frame h.queue] at he
  rw [State.mayGrant_congr h.frame fun listen q => by rw [h.heldAnt]; simp [listen]]
  obtain ⟨he, kind⟩ := State.mem_arbitration.mp he
  exact Bool.eq_false_iff.mpr fun may => none e he (State.mayGrant_iff.mpr ⟨kind, may⟩)

theorem handed (order : s.ListOrder) (parked : s.isParked p = false) : Handed s (w.handSlot k a) p a .opened :=
  ((w.handSlot_steps k a).listed (h.kept.books hs) (h.kept.list order) (h.spared hs held)).trans (h.list order parked)

end Released

end Release

end Sys2Proof.Machine
end

section
/-! SUPPORT. DROP_MAIN and DROP_LISTEN (R61, R62). -/

namespace Sys2Proof.Machine

section Drops

variable {s : State} {p : Pos}

/-- What DROP_MAIN comes to for the position itself: no main, no pending main, and no sequencer has moved. -/
theorem State.dropMainEffect_drops (hs : s.BooksAgree) :
    (s.dropMainEffect p).heldAnt p .main = none ∧ (s.dropMainEffect p).hold[p].pend .main = none ∧
      SeqsSame s (s.dropMainEffect p) := by
  unfold State.dropMainEffect
  have forgotten (t : State) : (t.removePending p .main).hold[p].pend .main = none ∧
      (t.removePending p .main).heldAnt p .main = t.heldAnt p .main := by
    have books := t.removePending_books p .main
    exact ⟨(congrArg (fun B : Books => B.pend p .main) books).trans (by simp [Books.forget]),
      congrArg (fun B : Books => B.held p .main) books⟩
  split
  · next none => exact ⟨(forgotten s).2.trans none, (forgotten s).1, s.removePending_seqs p .main⟩
  · next a held =>
    have released := State.releaseSlot_released (s := s) held none
    have kept := released.kept.trans ((s.releaseSlot p .main a none).removePending_kept p .main)
    obtain ⟨pend, empty⟩ := forgotten (s.releaseSlot p .main a none)
    have run := ((s.releaseSlot p .main a none).removePending p .main).handSlot_steps .main a
    obtain ⟨holding, stays⟩ := run.slot_kept (p := p) (i := .main) (kept.books hs) nofun (.inr pend)
    refine ⟨?_, stays.trans pend, (released.seqs.trans (State.removePending_seqs _ p .main)).trans run.seqs⟩
    exact (congrArg (Option.map fun x : Holding => x.ant) holding).trans (empty.trans (s.releaseSlot_empty p .main a none))

/-- The state from which DROP_MAIN hands the antenna on. -/
theorem State.dropMain_released (hs : s.BooksAgree) {a : Ant} (held : s.heldAnt p .main = some a) :
    Released s ((s.releaseMain p a none).removePending p .main) p .main a := by
  have released := State.releaseSlot_released (s := s) held none
  have books := State.releaseSlot_books held none
  refine released.removePending (fun waits => ?_) books
  exact (s.booksAgree_iff.mp hs).unheld p a .main (released.pend p .main a waits) held

end Drops

/-- Settles O20: the checks, then a slot released and handed on, or nothing where there is nothing to drop. -/
theorem dropsReleaseSlots : Obligations.DropsReleaseSlots := by
  intro s p serving
  have planMain (parked : s.isParked p = false) (out : s.inSpan p = false) :
      s.dropMain p = (.done, fun t => t.dropMainEffect p) := by
    rw [State.dropMain, if_neg (by simp [parked]), if_neg (by simp [out])]
  have planListen (parked : s.isParked p = false) (out : s.inSpan p = false) :
      s.dropListen p = (.done, fun t => t.lose p .listen fun _ => none) := by
    rw [State.dropListen, if_neg (by simp [parked]), if_neg (by simp [out])]
  refine ⟨fun parked => ?_, fun keyed => ?_,
    fun parked out hs => ⟨?_, fun none unasked => ?_, fun none => ?_, fun a held => ?_⟩⟩
  · rw [exec_dropMain serving, exec_dropListen serving, State.dropMain, State.dropListen, if_pos parked, if_pos parked]
    exact ⟨rfl, rfl⟩
  · have parked := State.isParked_of_inSpan keyed
    rw [exec_dropMain serving, exec_dropListen serving]
    simp only [State.dropMain, State.dropListen, parked, keyed, if_true, Bool.false_eq_true, if_false]
    exact ⟨rfl, rfl⟩
  · let u := s.onlyAnswers (linkOf p) 3 .done
    have hu : u.BooksAgree := hs
    have frame := u.dropMainEffect_frame p
    obtain ⟨held, pend, seqs⟩ := State.dropMainEffect_drops (p := p) hu
    have books := (u.dropMainEffect_kept p).books hu
    refine ⟨_, (exec_dropMain serving).trans (by rw [planMain parked out]), frame.restKept.answered rfl, held, pend,
      fun a holds => ?_, (s.onlyAnswers_restKept _ _ _).trans frame.restKept, frame.bands, frame.spans, frame.drv,
      seqs.onlySettles, fun a held => ?_⟩
    · have main := (books.1 p a).mp holds
      rw [held] at main
      cases main
    · have released := State.dropMain_released hu held
      have effect : u.dropMainEffect p = ((u.releaseMain p a none).removePending p .main).handSlot .main a := by
        rw [State.dropMainEffect, show u.heldAnt p .main = some a from held]
      change (_ → Handed s (u.dropMainEffect p) p a .opened) ∧ _
      rw [effect]
      refine ⟨fun order => released.handed hu held order parked, fun e first => ?_, fun nobody => ?_⟩
      · obtain ⟨v, frame, kept, granted⟩ := released.served hu held (e := e) first
        exact ⟨(granted.holder a).mpr rfl, granted.pend, granted.granted,
          fun order free => granted.handed_from (s := u) frame kept order free⟩
      · obtain ⟨holder, -, queue⟩ := released.unserved hu held nobody
        exact ⟨holder.trans (released.slotOpen hu held), queue.trans (List.filter_congr fun e _ => by
          change _ = (e.kind == .listen || u.inSpan e.pos)
          cases kind : e.kind <;> simp [State.passes])⟩
  · rw [exec_dropMain serving, planMain parked out]
    refine congrArg _ ?_
    change State.dropMainEffect _ p = _
    rw [State.dropMainEffect, show (s.onlyAnswers (linkOf p) 3 .done).heldAnt p .main = .none from none]
    change State.removePending _ p .main = _
    rw [State.removePending, show (s.onlyAnswers (linkOf p) 3 .done).hold[p].pend .main = .none from unasked]
  · rw [exec_dropListen serving, planListen parked out]
    refine congrArg _ ?_
    change State.lose _ p .listen _ = _
    rw [State.lose, show (s.onlyAnswers (linkOf p) 4 .done).heldAnt p .listen = .none from none]
  · let u := s.onlyAnswers (linkOf p) 4 .done
    have hu : u.BooksAgree := hs
    have frame := u.lose_frame p .listen fun _ => none
    have books := (u.lose_kept p .listen fun _ => none).books hu
    have released := State.releaseSlot_released (s := u) (k := .listen) held none
    have effect : u.lose p .listen (fun _ => none) = (u.releaseSlot p .listen a none).handSlot .listen a :=
      State.lose_of_held (s := u) (k := .listen) held fun _ => none
    have run := (u.releaseSlot p .listen a none).handSlot_steps .listen a
    have unheld : (u.lose p .listen fun _ => none).heldAnt p .listen ≠ some a := by
      rw [effect]
      refine (run.avoids (released.kept.books hu) ⟨?_, fun waits => ?_⟩).1
      · rw [u.releaseSlot_empty]
        nofun
      · exact (u.booksAgree_iff.mp hu).unheld p a .listen (released.pend p .listen a waits) held
    refine ⟨_, (exec_dropListen serving).trans (by rw [planListen parked out]), frame.restKept.answered rfl, unheld,
      fun lists => unheld ((books.2.1.1 p a).mp lists), (s.onlyAnswers_restKept _ _ _).trans frame.restKept, frame.bands,
      frame.spans, frame.drv, ?_⟩
    change OnlySettles u (u.lose p .listen fun _ => none) ∧ (_ → Handed s (u.lose p .listen fun _ => none) p a .opened) ∧ _
    rw [effect]
    refine ⟨(released.seqs.trans run.seqs).onlySettles, fun order => released.handed hu held order parked, fun e first => ?_,
      fun nobody => ?_⟩
    · obtain ⟨v, frame, kept, granted⟩ := released.served hu held (e := e) first
      exact ⟨(granted.listeners a).mpr rfl, granted.granted,
          fun order free => granted.handed_from (s := u) frame kept order free⟩
    · obtain ⟨-, listeners, queue⟩ := released.unserved hu held nobody
      refine ⟨listeners.trans ?_, queue.trans (List.filter_congr fun e _ => by cases kind : e.kind <;> simp [State.passes])⟩
      refine (congrArg (fun B : Books => B.listeners a) (State.releaseSlot_books (s := u) (k := .listen) held none)).trans ?_
      have held' : u.books.held p .listen = some a := held
      simp [Books.vacate, held']
      rfl

end Sys2Proof.Machine
end

section
/-! SUPPORT. Preemption by the yield timer (R78, R80, R81). -/

namespace Sys2Proof.Machine

section Settling

theorem State.removeEntry_seqs (s : State) (a : Ant) (p : Pos) (k : Slot) : SeqsSame s (s.removeEntry a p k) := ⟨rfl, rfl⟩

variable {s t u : State} {p : Pos}

theorem SettlesAt.onlySettles (h : SettlesAt p s t) : OnlySettles s t := by
  intro q
  rcases h.seqs with ⟨seqs, outs⟩ | ⟨since, settling, due, cond, seqs, outs⟩
  · exact .inl ⟨by rw [seqs], by rw [outs]⟩
  · by_cases same : p = q
    · subst same
      exact .inr ⟨since, settling, due, cond, by rw [seqs, upd_get_same], by rw [outs, upd_get_same]; rfl⟩
    · exact .inl ⟨by rw [seqs, upd_get, if_neg same], by rw [outs, upd_get, if_neg same]⟩

theorem OnlySettles.of_seqsSame (k : OnlySettles t u) (h : SeqsSame s t) (frame : AllocFrame s t) : OnlySettles s u := by
  intro p
  have settles := k p
  rw [h.1, h.2, frame.cfg, frame.now] at settles
  exact settles

/-- The hand-overs after a main grant leave the settling of its position as it is. -/
theorem HandRun.settlesAt {k : Slot} (run : HandRun k s t) (hs : s.BooksAgree) (none : s.hold[p].pend .main = none) :
    SettlesAt p s t := by
  obtain ⟨holding, -⟩ := run.slot_kept (p := p) (i := .main) hs nofun (.inr none)
  exact .of_same run.frame run.seqs.1 run.seqs.2 fun _ => congrArg (Option.map fun x : Holding => x.sw) holding

/-- A main grant of a free antenna settles at most the position granted. -/
theorem State.grantMain_settles {a : Ant} (hs : s.BooksAgree) (free : s.alloc[a].holder = none) (o : Origin) :
    OnlySettles s (s.grantMain p a o) := by
  have agree := (State.grantMainBooks_kept (p := p) (.refl s) (fun _ => free) o).books hs
  have pend : (s.grantMainBooks p a o).hold[p].pend .main = none :=
    (congrArg (fun B : Books => B.pend p .main) (State.grantMainBooks_books hs free o)).trans
      (by simp [BookAct.on, Books.cleared_pend])
  have handed : SettlesAt p (s.grantMainBooked p a o) (s.grantMainBooks p a o) := by
    rw [State.grantMainBooks_handed]
    exact State.handChangeSet_settlesAt _ p _
  exact (handed.trans ((s.grantMain_steps p a o).settlesAt agree pend)).onlySettles.of_seqsSame (s.grantMainBooked_seqs p a o)
    (s.grantMainBooked_frame p a o)

end Settling

section Preempts

variable {s : State} {a : Ant} {h w : Pos}

theorem State.headWaiter_pend (hs : s.BooksAgree) (head : s.headWaiter a = some w) : s.hold[w].pend .main = some a := by
  obtain ⟨e, waits, rfl⟩ := State.headWaiter_mem head
  exact hs.pend_of_arbitration waits

/-- The state from which a preemption grants the antenna: released, and the entry of the head main-waiter removed. -/
def State.yielded (s : State) (a : Ant) (h w : Pos) : State :=
  (s.releaseMain h a (some (.preempted .main a w))).removeEntry a w .main

theorem State.preempt_eq (s : State) (a : Ant) (h w : Pos) : ∃ o, s.preempt a h w = (s.yielded a h w).grantMain w a o := ⟨_, rfl⟩

/-- A preemption tells the position that loses the antenna first (R81). -/
theorem State.preempt_tells (up : s.held = false) (room : s.links[linkOf h].hasRoom = true) :
    s.links[linkOf h].queue ++ [noticeFrame h (.preempted .main a w)] <+: (s.preempt a h w).links[linkOf h].queue := by
  obtain ⟨o, eq⟩ := s.preempt_eq a h w
  let u := (s.unbookMain h a).handChangeSet h [⟨a, .opened⟩]
  have links : u.links = s.links := (s.unbookMain h a).handOpening_links h a
  have frame : AllocFrame s u := (s.unbookMain_frame h a).trans (State.handChangeSet_frame _ h _)
  have placed := State.notify_placed (s := u) (p := h) (frame.held.trans up) (by rw [links]; exact room) (.preempted .main a w)
  rw [links] at placed
  rw [eq]
  exact placed.trans ((State.grantMain_frame (s.yielded a h w) w a o).links (linkOf h)).queue

variable (hs : s.BooksAgree) (holds : s.alloc[a].holder = some h) (head : s.headWaiter a = some w)

include hs holds

theorem State.releaseMain_released : Released s (s.releaseMain h a (some (.preempted .main a w))) h .main a :=
  State.releaseSlot_released ((hs.1 h a).mp holds) _

theorem State.yielded_free : (s.yielded a h w).alloc[a].holder = none :=
  State.removeEntry_free ((State.releaseMain_released hs holds).slotOpen hs ((hs.1 h a).mp holds)) a w .main

theorem State.yielded_seqs : SeqsSame s (s.yielded a h w) :=
  (State.releaseMain_released hs holds).seqs.trans (State.removeEntry_seqs _ a w .main)

theorem State.yielded_frame : AllocFrame s (s.yielded a h w) :=
  (State.releaseMain_released hs holds).frame.trans (State.removeEntry_frame _ a w .main)

include head

theorem State.headWaiter_ne : h ≠ w := by
  rintro rfl
  exact (s.booksAgree_iff.mp hs).unheld h a .main (State.headWaiter_pend hs head) ((hs.1 h a).mp holds)

theorem State.yielded_kept : OrderKept s (s.yielded a h w) := by
  have released := State.releaseMain_released (w := w) hs holds
  refine State.removeEntry_kept released.kept fun _ => ?_
  have books := State.releaseSlot_books ((hs.1 h a).mp holds) (some (.preempted .main a w))
  exact (congrArg (fun B : Books => B.pend w .main) books).trans (State.headWaiter_pend hs head)

/-- A preemption grants the antenna to the waiter. -/
theorem State.preempt_granted : ∃ o, Granted (s.yielded a h w) (s.preempt a h w) w .main a o .main := by
  obtain ⟨o, eq⟩ := s.preempt_eq a h w
  exact ⟨o, eq ▸ (State.grantMain_steps _ w a o).mainGranted ((State.yielded_kept hs holds head).books hs)
    (State.yielded_free hs holds)⟩

/-- A preemption leaves the listed target of the crosspoint that it opens. -/
theorem State.preempt_opened (order : s.ListOrder) (parked : s.isParked h = false) :
    Handed s (s.preempt a h w) h a .opened := by
  obtain ⟨o, eq⟩ := s.preempt_eq a h w
  have ne := State.headWaiter_ne hs holds head
  have released := State.releaseMain_released (w := w) hs holds
  have kept := State.yielded_kept hs holds head
  have free := State.yielded_free (w := w) hs holds
  have granted := State.grantMainBooks_kept (p := w) (.refl (s.yielded a h w)) (fun _ => free) o
  have other : (s.yielded a h w).heldAnt w .main ≠ some a := fun held => by
    have back := ((kept.books hs).1 w a).mpr held
    rw [free] at back
    cases back
  have same : ((s.yielded a h w).grantMainBooks w a o).hold[h] = (s.releaseMain h a (some (.preempted .main a w))).hold[h] :=
    (State.grantMainBooks_keeps ne.symm _ a o).hold.trans
      (State.removeEntry_keeps (v := id) _ a w .main fun e => absurd e ne.symm).hold
  have spared : ((s.yielded a h w).grantMainBooks w a o).Spared .main h a := by
    intro k c only waits
    rw [State.heldAnt, same]
    rw [same] at waits
    exact released.spared hs ((hs.1 h a).mp holds) k c only waits
  have listed := ((State.grantMain_steps (s.yielded a h w) w a o).listed (granted.books (kept.books hs))
    (granted.list (kept.list order)) spared).trans ((State.grantMainBooks_listed (kept.list order) other o).2 h a (.inl ne))
  rw [eq]
  exact listed.trans ((State.listed_of_drv rfl h a).trans (released.list order parked))

theorem State.preempt_settles : OnlySettles s (s.preempt a h w) := by
  obtain ⟨o, eq⟩ := s.preempt_eq a h w
  rw [eq]
  exact (State.grantMain_settles ((State.yielded_kept hs holds head).books hs) (State.yielded_free hs holds) o).of_seqsSame
    (State.yielded_seqs hs holds) (State.yielded_frame hs holds)

end Preempts

/-- Settles O23: an eligible head main-waiter preempts, and an ineligible one loses its entry. -/
theorem yieldExpiryPreempts : Obligations.YieldExpiryPreempts := by
  intro s a h w h' w' n since powered up hs holds head timer counted
  have due : exec (.yieldExpiry a) s = .next (s.yieldExpire a) := by
    rw [show exec (.yieldExpiry a) s = whenPowered s fun s => s.yieldIfDue a from rfl, whenPowered_on powered]
    have expired : s.yieldDue a = true := by
      rw [State.yieldDue, timer]
      exact decide_eq_true counted
    rw [State.yieldIfDue, if_pos expired]
  rw [due, State.yieldExpire, holds, head]
  dsimp only
  refine ⟨fun good => ?_, fun bad => ?_⟩
  · rw [if_pos good]
    obtain ⟨o, granted⟩ := State.preempt_granted hs holds head
    have frame := s.preempt_frame a h w
    have ne := State.headWaiter_ne hs holds head
    refine ⟨_, rfl, (granted.holder a).mpr rfl, granted.heldAnt, fun held => ?_, granted.pend,
      State.preempt_tells up, frame.restKept, frame.bands, frame.sam, frame.spans, frame.prot, frame.drv,
      State.preempt_settles hs holds head, fun order => ⟨fun parked => ?_, State.preempt_opened hs holds head order⟩⟩
    · have back := (granted.books.1 h a).mpr held
      rw [(granted.holder a).mpr rfl] at back
      exact ne (Option.some.inj back).symm
    · exact granted.handed_from (State.yielded_frame hs holds) (State.yielded_kept hs holds head) order parked
  · rw [if_neg (by simp [bad])]
    have frame := s.expire_frame a w .main .ineligible
    have seqs := s.expire_seqs w a .main .ineligible
    refine ⟨_, rfl, ?_, ?_, State.notify_links_congr (s := s) (t := s.removeEntry a w .main) rfl rfl rfl w _, fun q => ⟨?_, ?_⟩,
      s.expire_lists a w .main .ineligible, frame.restKept, frame.bands, State.notify_drv _ w _, seqs.1, seqs.2⟩
    · rw [State.waitsOn, State.expire_queue, List.any_filter]
      exact List.any_eq_false.mpr fun e _ => by cases e.pos == w && e.kind == .main <;> simp
    · exact (congrArg (fun B : Books => B.pend w .main) (State.expire_books (State.headWaiter_pend hs head) _)).trans
        (by simp [Books.forget])
    · exact (s.expire_keeps (v := (·.main)) (p := q) a w .main _ fun e => by subst e; rfl).hold
    · exact (s.expire_keeps (v := (·.listen)) (p := q) a w .main _ fun e => by subst e; rfl).hold

end Sys2Proof.Machine
end

section
/-! SUPPORT. The start of a change set (R104, R106): crosspoints commanded, holdings that go to SWITCHING, the phase that
begins, and the entry of the pending list that starts. -/

namespace Sys2Proof.Machine

/-! ## Crosspoints commanded -/

/-- From `s` to `t` crosspoints of a position have been commanded to their targets, and nothing else has changed. -/
structure Commanded (s t : State) (p : Pos) (gs : List Target) : Prop where
  eq : t = { s with drv := { s.drv with xps := t.drv.xps } }
  closed : ∀ q a, (t.xp q a).closed = (s.xp q a).closed
  others : ∀ q a, (q ≠ p ∨ ∀ g ∈ gs, g.ant ≠ a) → t.xp q a = s.xp q a
  cmd : (gs.map (·.ant)).Nodup → ∀ g ∈ gs, (t.xp p g.ant).cmd = g.goal

theorem State.setXp_xp (s : State) (p q : Pos) (a b : Ant) (x : Crosspoint) :
    (s.setXp p a x).xp q b = if p = q ∧ a = b then x else s.xp q b := by
  rw [State.xp, State.setXp]
  change (upd s.drv.xps p (upd s.drv.xps[p] a x))[q][b] = _
  rw [upd_get]
  by_cases e : p = q
  · subst e
    rw [if_pos rfl, upd_get]
    simp only [true_and]
    rfl
  · rw [if_neg e, if_neg fun h => e h.1]
    rfl

theorem State.commands (s : State) (p : Pos) (gs : List Target) :
    Commanded s (s.each gs fun g x => x.command p g) p gs := by
  induction gs generalizing s with
  | nil => exact ⟨rfl, fun _ _ => rfl, fun _ _ _ => rfl, fun _ _ h => by cases h⟩
  | cons g gs ih =>
    obtain ⟨eq, closed, others, cmd⟩ := ih (s.command p g)
    have get (q : Pos) (a : Ant) := s.setXp_xp p q g.ant a { s.xp p g.ant with cmd := g.goal, watch := none }
    refine ⟨eq.trans rfl, fun q a => ?_, fun q a other => ?_, fun once x hx => ?_⟩
    · refine (closed q a).trans ((congrArg (·.closed) (get q a)).trans ?_)
      split
      · next e => rw [e.1, e.2]
      · rfl
    · refine (others q a (other.imp id fun h x hx => h x (List.mem_cons_of_mem g hx))).trans ((get q a).trans (if_neg ?_))
      rintro ⟨pos, ant⟩
      exact other.elim (fun ne => ne pos.symm) fun h => h g List.mem_cons_self ant
    · obtain ⟨new, once⟩ := List.nodup_cons.mp once
      rcases List.mem_cons.mp hx with rfl | hx
      · rw [State.each_cons, others p x.ant (.inr fun y hy e => new (List.mem_map.mpr ⟨y, hy, e⟩))]
        exact (congrArg (·.cmd) (get p x.ant)).trans (by rw [if_pos ⟨rfl, rfl⟩])
      · exact cmd once x hx

/-! ## Holdings served -/

theorem State.moveServed_hold (s : State) (p : Pos) (g : Target) (x y : SwitchState) :
    s.moveServed p g x y = { s with hold := (s.moveServed p g x y).hold } := by
  unfold State.moveServed State.moveHolding
  split
  · split
    · split <;> rfl
    · rfl
  · rfl

theorem State.moveServed_others {p q : Pos} (ne : q ≠ p) (s : State) (g : Target) (x y : SwitchState) :
    (s.moveServed p g x y).hold[q] = s.hold[q] := by
  unfold State.moveServed State.moveHolding
  split
  · split
    · split
      · exact upd_get_ne _ _ ne.symm
      · rfl
    · rfl
  · rfl

/-- A step of the service of a change set leaves a holding on another antenna or in another switch state, and moves that
which its target serves. -/
theorem State.moveServed_holding {s : State} {p : Pos} {k : Slot} {a : Ant} {w : SwitchState} {o : Origin} {f : Bool}
    (h : s.hold[p].holding k = some ⟨a, w, o, f⟩) (g : Target) (x y : SwitchState) :
    (s.moveServed p g x y).hold[p].holding k =
      some ⟨a, if slotOf g.goal = some k ∧ a = g.ant ∧ w = x then y else w, o, f⟩ := by
  unfold State.moveServed State.moveHolding
  split
  · next j slot =>
    by_cases same : j = k
    · subst same
      simp only [h, slot, true_and, Bool.and_eq_true, beq_iff_eq]
      split
      · simp [-Fin.getElem_fin, upd_get]
      · exact h
    · have other : slotOf g.goal ≠ some k := fun e => same (Option.some.inj (slot.symm.trans e))
      rw [if_neg fun c => other c.1]
      split
      · split
        · simp [-Fin.getElem_fin, upd_get, Ne.symm same, h]
        · exact h
      · exact h
  · next none =>
    rw [if_neg fun c => by simp [none] at c]
    exact h

/-- A change set that starts takes the AWAITING holdings that it serves to SWITCHING (R52). -/
theorem State.services (s : State) (p : Pos) (gs : List Target) {g : Target} (hg : g ∈ gs) {k : Slot} {o : Origin} {f : Bool}
    (slot : slotOf g.goal = some k) (awaits : s.hold[p].holding k = some ⟨g.ant, .awaiting, o, f⟩) :
    (s.each gs fun g x => x.moveServed p g .awaiting .switching).hold[p].holding k = some ⟨g.ant, .switching, o, f⟩ := by
  have stays (xs : List Target) (t : State) (ht : t.hold[p].holding k = some ⟨g.ant, .switching, o, f⟩) :
      (t.each xs fun g x => x.moveServed p g .awaiting .switching).hold[p].holding k = some ⟨g.ant, .switching, o, f⟩ :=
    State.each_keeps (fun u => u.hold[p].holding k = some ⟨g.ant, .switching, o, f⟩) xs _
      (fun x u _ hu => (State.moveServed_holding hu x _ _).trans (by simp)) t ht
  induction gs generalizing s with
  | nil => cases hg
  | cons x xs ih =>
    have moved := State.moveServed_holding awaits x .awaiting .switching
    rw [State.each_cons]
    split at moved
    · exact stays xs _ moved
    · next other =>
      rcases List.mem_cons.mp hg with rfl | hg
      · exact absurd ⟨slot, rfl, rfl⟩ other
      · exact ih _ hg moved

theorem State.services_hold (s : State) (p : Pos) (gs : List Target) :
    s.each gs (fun g x => x.moveServed p g .awaiting .switching) =
        { s with hold := (s.each gs fun g x => x.moveServed p g .awaiting .switching).hold } ∧
      ∀ q, q ≠ p → (s.each gs fun g x => x.moveServed p g .awaiting .switching).hold[q] = s.hold[q] :=
  State.each_rel (fun s t => t = { s with hold := t.hold } ∧ ∀ q, q ≠ p → t.hold[q] = s.hold[q])
    (fun _ => ⟨rfl, fun _ _ => rfl⟩)
    (fun ⟨eq, others⟩ ⟨eq', others'⟩ => ⟨by rw [eq', eq], fun q ne => (others' q ne).trans (others q ne)⟩) gs _
    (fun g t => ⟨t.moveServed_hold p g _ _, fun _ ne => State.moveServed_others ne t g _ _⟩) s

/-! ## Phases (R106) -/

theorem State.longest_ge (s : State) {xs : List Ant} {a : Ant} (h : a ∈ xs) : s.switchTime a ≤ s.longest xs := by
  have run (ys : List Ant) (n : Nat) : n ≤ ys.foldl (fun n a => max n (s.switchTime a)) n ∧
      ∀ a ∈ ys, s.switchTime a ≤ ys.foldl (fun n a => max n (s.switchTime a)) n := by
    induction ys generalizing n with
    | nil => simp
    | cons y ys ih =>
      obtain ⟨start, each⟩ := ih (max n (s.switchTime y))
      refine ⟨(le_max_left _ _).trans start, fun b hb => ?_⟩
      rcases List.mem_cons.mp hb with rfl | hb
      · exact (le_max_right _ _).trans start
      · exact each b hb
  exact (run xs 0).2 a h

theorem State.longest_mem (s : State) {xs : List Ant} (h : xs ≠ []) : ∃ a ∈ xs, s.longest xs = s.switchTime a := by
  have run (ys : List Ant) (n : Nat) : ys.foldl (fun n a => max n (s.switchTime a)) n = n ∨
      ∃ a ∈ ys, ys.foldl (fun n a => max n (s.switchTime a)) n = s.switchTime a := by
    induction ys generalizing n with
    | nil => exact .inl rfl
    | cons y ys ih =>
      rcases ih (max n (s.switchTime y)) with e | ⟨a, ha, e⟩
      · rcases max_choice n (s.switchTime y) with m | m
        · exact .inl (e.trans m)
        · exact .inr ⟨y, List.mem_cons_self, e.trans m⟩
      · exact .inr ⟨a, List.mem_cons_of_mem y ha, e⟩
  rcases run xs 0 with e | found
  · obtain ⟨a, ha⟩ := List.exists_mem_of_ne_nil xs h
    exact ⟨a, ha, e.trans (Nat.le_zero.mp (e ▸ s.longest_ge ha)).symm⟩
  · exact found

/-- A phase that begins now over some antennas lasts the longest of their switch times. -/
theorem State.lastsLongest (s : State) {xs : List Ant} (h : xs ≠ []) : s.LastsLongest xs (s.now + s.longest xs) := by
  obtain ⟨a, ha, e⟩ := s.longest_mem h
  exact ⟨fun b hb => Nat.add_le_add_left (s.longest_ge hb) _, a, ha, by rw [e]; rfl⟩

end Sys2Proof.Machine
end

section
/-! SUPPORT. The start of a change set, continued: its whole effect, and the entry of the pending list that starts. -/

namespace Sys2Proof.Machine

section Start

variable {s t : State} {p : Pos} {ts : List Target}

/-- The targets of a change set that are commanded OPEN first (R106). -/
def State.openedFirst (s : State) (p : Pos) (ts : List Target) : List Target :=
  ts.filter fun g => g.goal == .opened || ((s.xp p g.ant).cmd != .opened && (s.xp p g.ant).cmd != g.goal)

/-- Targets as they are commanded in an opening phase. -/
def openings (gs : List Target) : List Target := gs.map fun g => ⟨g.ant, .opened⟩

/-- A change set as it begins, in its opening phase (R106). -/
def State.firstSet (s : State) (p : Pos) (ts : List Target) : ChangeSet :=
  ⟨p, ts, .opening (s.now + s.longest ((s.openedFirst p ts).map (·.ant))),
    (s.openedFirst p ts).map fun g => ⟨g.ant, (s.xp p g.ant).cmd == .main⟩⟩

/-- The state in which a change set has begun, with its openings commanded. -/
def State.opening (s : State) (p : Pos) (ts : List Target) : State :=
  (s.setProgress (s.drv.inProg ++ [s.firstSet p ts])).each (openings (s.openedFirst p ts)) fun g x => x.command p g

/-- The state in which a change set has begun and serves its holdings. -/
def State.begun (s : State) (p : Pos) (ts : List Target) : State :=
  (s.opening p ts).each ts fun g x => x.moveServed p g .awaiting .switching

theorem State.startSet_eq (s : State) (p : Pos) (ts : List Target) : s.startSet p ts =
    if (s.openedFirst p ts).isEmpty then (s.begun p ts).afterOpening (s.firstSet p ts) else s.begun p ts := by
  have first : ts.filter (s.opensFirst p) = s.openedFirst p ts :=
    List.filter_congr fun g _ => by rw [State.opensFirst, Target.closes, bne, Bool.not_not]
  have ants : ((s.openedFirst p ts).map fun g => (⟨g.ant, (s.xp p g.ant).cmd == .main⟩ : OpenedXp)).map (·.ant) =
      (s.openedFirst p ts).map (·.ant) := by simp
  simp only [State.startSet, first, ants, State.begun, State.opening, openings, State.each, List.foldl_map, State.firstSet,
    List.isEmpty_map]

/-- What a change set in progress as `c` has done so far: it serves its holdings, and has commanded crosspoints of its own. -/
structure Begun (s t : State) (p : Pos) (ts : List Target) (c : ChangeSet) : Prop where
  eq : t = { s with drv := { s.drv with inProg := s.drv.inProg ++ [c], xps := t.drv.xps }, hold := t.hold }
  serves : ∀ g ∈ ts, ∀ (k : Slot) (o : Origin) (f : Bool), slotOf g.goal = some k →
    s.hold[p].holding k = some ⟨g.ant, .awaiting, o, f⟩ → t.hold[p].holding k = some ⟨g.ant, .switching, o, f⟩
  others : ∀ q, q ≠ p → t.hold[q] = s.hold[q]
  closed : ∀ q a, (t.xp q a).closed = (s.xp q a).closed
  apart : ∀ q a, (q ≠ p ∨ ∀ g ∈ ts, g.ant ≠ a) → t.xp q a = s.xp q a

theorem Begun.put {c : ChangeSet} (h : Begun s t p ts c) (cs : List ChangeSet) (xps : Vector (Vector Crosspoint 20) 6) :
    { t with drv := { t.drv with inProg := cs, xps := xps } } =
      { s with drv := { s.drv with inProg := cs, xps := xps }, hold := t.hold } :=
  congrArg (fun u : State => { u with drv := { u.drv with inProg := cs, xps := xps } }) h.eq

/-- Whether an antenna is cold is read from the crosspoints, the lines and the sequencers. -/
theorem State.cold_congr (xps : ∀ q a, t.xp q a = s.xp q a) (sam : t.sam = s.sam) (seqs : t.seqs = s.seqs) (a : Ant) :
    t.cold a = s.cold a := by
  simp only [State.cold, State.hasXp, State.inSpan, State.rfsActive, xps, sam, seqs]

theorem State.opening_commanded (s : State) (p : Pos) (ts : List Target) :
    Commanded (s.setProgress (s.drv.inProg ++ [s.firstSet p ts])) (s.opening p ts) p (openings (s.openedFirst p ts)) :=
  State.commands _ p _

theorem State.begun_xp (s : State) (p q : Pos) (ts : List Target) (a : Ant) : (s.begun p ts).xp q a = (s.opening p ts).xp q a := by
  rw [State.begun, ((s.opening p ts).services_hold p ts).1]
  rfl

/-- With nothing to open no crosspoint is commanded before the closing phase. -/
theorem State.begun_xp_same (none : s.openedFirst p ts = []) (q : Pos) (a : Ant) : (s.begun p ts).xp q a = s.xp q a :=
  (s.begun_xp p q ts a).trans ((s.opening_commanded p ts).others q a (.inr (by simp [openings, none])))

theorem State.begun_begun (s : State) (p : Pos) (ts : List Target) : Begun s (s.begun p ts) p ts (s.firstSet p ts) := by
  have commanded := s.opening_commanded p ts
  obtain ⟨holds, others⟩ := (s.opening p ts).services_hold p ts
  have hold : (s.opening p ts).hold = s.hold := (congrArg State.hold commanded.eq :)
  refine ⟨?_, fun g hg k o f slot awaits => ?_, fun q ne => ?_, fun q a => ?_, fun q a h => ?_⟩
  · have xps : (s.begun p ts).drv.xps = (s.opening p ts).drv.xps := (congrArg (·.drv.xps) holds :)
    rw [xps]
    exact holds.trans (congrArg (fun u : State => { u with hold := (s.begun p ts).hold }) commanded.eq)
  · exact (s.opening p ts).services p ts hg slot (by rw [hold]; exact awaits)
  · exact (others q ne).trans (by rw [hold])
  · rw [State.begun_xp]
    exact commanded.closed q a
  · rw [State.begun_xp]
    refine commanded.others q a (h.imp id fun apart x hx => ?_)
    obtain ⟨y, hy, rfl⟩ := List.mem_map.mp hx
    exact apart y (List.mem_of_mem_filter hy)

/-- The effect of a change set's start: it is in progress as `c`, with its openings commanded in an opening phase, or, where
there are none, its closings commanded in a closing phase. -/
structure Started (s t : State) (p : Pos) (ts : List Target) (c : ChangeSet) : Prop extends Begun s t p ts c where
  pos : c.pos = p
  targets : c.targets = ts
  opening : s.openedFirst p ts ≠ [] → (∃ n, c.phase = .opening n ∧ s.LastsLongest ((s.openedFirst p ts).map (·.ant)) n) ∧
    (∀ g ∈ s.openedFirst p ts, (t.xp p g.ant).cmd = .opened) ∧
    ∀ g ∈ ts, g ∉ s.openedFirst p ts → t.xp p g.ant = s.xp p g.ant
  closing : s.openedFirst p ts = [] → (∃ n, c.phase = .closing n ∧ s.LastsLongest (ts.map (·.ant)) n) ∧
    ∀ g ∈ ts, (t.xp p g.ant).cmd = g.goal

/-- A change set put in the place of one that its position has just begun. -/
theorem map_replace_last {xs : List ChangeSet} {c d : ChangeSet} (new : ∀ x ∈ xs, x.pos ≠ c.pos) (same : d.pos = c.pos) :
    (xs ++ [d]).map (fun x => if x.pos == c.pos then c else x) = xs ++ [c] := by
  rw [List.map_append]
  refine congrArg₂ _ ?_ (by simp [same])
  exact (List.map_congr_left fun x hx => by rw [if_neg (by simpa using new x hx)]).trans (List.map_id' xs)

/-- A change set without openings, in its closing phase. -/
def State.closingSet (s : State) (p : Pos) (ts : List Target) : ChangeSet :=
  { s.firstSet p ts with phase := .closing (s.now + s.longest (ts.map (·.ant))) }

/-- A change set with nothing to open goes to its closing phase at once, as its antennas are cold. -/
theorem State.begun_closes (free : s.progress p = none) (some : ts ≠ []) (cold : ∀ g ∈ ts, s.cold g.ant = true)
    (none : s.openedFirst p ts = []) : (s.begun p ts).afterOpening (s.firstSet p ts) =
      ((s.begun p ts).setProgress (s.drv.inProg ++ [s.closingSet p ts])).each ts fun g x => x.command p g := by
  have new (x : ChangeSet) (hx : x ∈ s.drv.inProg) : x.pos ≠ p := by
    simpa using List.find?_eq_none.mp free x hx
  have closings : (s.firstSet p ts).closings = ts := List.filter_eq_self.mpr fun g hg => by
    have stays := List.filter_eq_nil_iff.mp none g hg
    simp only [Bool.or_eq_true, not_or, beq_iff_eq] at stays
    simpa [Target.closes] using stays.1
  have begun := (s.begun_begun p ts).eq
  have all : (ts.all fun g => (s.begun p ts).cold g.ant) = true :=
    List.all_eq_true.mpr fun g hg => 
      (State.cold_congr (State.begun_xp_same none) (congrArg State.sam begun :) (congrArg State.seqs begun :) g.ant).trans (cold g hg)
  have progress : (s.begun p ts).drv.inProg = s.drv.inProg ++ [s.firstSet p ts] := (congrArg (·.drv.inProg) begun :)
  have phase : (s.begun p ts).now + (s.begun p ts).longest (ts.map (·.ant)) = s.now + s.longest (ts.map (·.ant)) := by
    rw [begun]
    rfl
  rw [State.afterOpening, closings, if_neg (by simpa using some), if_pos all, State.beginClosing, closings, State.putProgress,
    progress, phase]
  exact congrArg (fun ys => ((s.begun p ts).setProgress ys).each ts fun g x => x.command p g)
    (map_replace_last (c := s.closingSet p ts) (d := s.firstSet p ts) new rfl)

theorem State.startSet_started (once : (ts.map (·.ant)).Nodup) (free : s.progress p = none) (some : ts ≠ [])
    (cold : ∀ g ∈ ts, s.cold g.ant = true) : ∃ c, Started s (s.startSet p ts) p ts c := by
  have begun := s.begun_begun p ts
  rw [State.startSet_eq]
  by_cases none : s.openedFirst p ts = []
  · have after := State.commands ((s.begun p ts).setProgress (s.drv.inProg ++ [s.closingSet p ts])) p ts
    have xps := State.begun_xp_same none
    rw [if_pos (by simp [none]), State.begun_closes free some cold none]
    have hold : (((s.begun p ts).setProgress (s.drv.inProg ++ [s.closingSet p ts])).each ts fun g x => x.command p g).hold =
        (s.begun p ts).hold := (congrArg State.hold after.eq :)
    refine ⟨s.closingSet p ts, ⟨?_, fun g hg k o f slot awaits => ?_, fun q ne => ?_,
      fun q a => (after.closed q a).trans (congrArg (·.closed) (xps q a)), fun q a h => (after.others q a h).trans (xps q a)⟩,
      rfl, rfl, fun h => absurd none h, fun _ => ⟨⟨_, rfl, s.lastsLongest (by simpa using some)⟩, after.cmd once⟩⟩
    · have put := begun.put (s.drv.inProg ++ [s.closingSet p ts])
        (((s.begun p ts).setProgress (s.drv.inProg ++ [s.closingSet p ts])).each ts fun g x => x.command p g).drv.xps
      rw [hold]
      exact after.eq.trans put
    · rw [hold]
      exact begun.serves g hg k o f slot awaits
    · rw [hold]
      exact begun.others q ne
  · have commanded := s.opening_commanded p ts
    have opensOnce : ((openings (s.openedFirst p ts)).map (·.ant)).Nodup := by
      rw [openings, List.map_map]
      exact once.sublist (List.filter_sublist.map _)
    rw [if_neg (by simpa using none)]
    refine ⟨s.firstSet p ts, begun, rfl, rfl, fun _ => ⟨⟨_, rfl, s.lastsLongest (by simpa using none)⟩, fun g hg => ?_,
      fun g hg out => ?_⟩, fun h => absurd h none⟩
    · rw [State.begun_xp]
      exact commanded.cmd opensOnce ⟨g.ant, .opened⟩ (List.mem_map_of_mem hg)
    · rw [State.begun_xp]
      refine commanded.others p g.ant (.inr fun x hx e => ?_)
      obtain ⟨y, hy, rfl⟩ := List.mem_map.mp hx
      exact out (List.inj_on_of_nodup_map once (List.mem_of_mem_filter hy) hg e ▸ hy)

end Start

end Sys2Proof.Machine
end

section
/-! SUPPORT. CHANGE_SET_START: the entry of the pending list that starts, and what of it starts (R104). -/

namespace Sys2Proof.Machine

section Entry

variable {s : State} {e : PendEntry} {pre rest : List PendEntry} {ts : List Target}

theorem State.startTargets_passedOver (h : s.PassedOver e) : s.startTargets e = [] := by
  unfold State.startTargets
  rcases h with running | ⟨g, hg, hot⟩ | ⟨⟨g, hg, waits⟩, closes⟩
  · have busy : s.mayStart e = false := by
      cases progress : s.progress e.pos with
      | none => simp [progress] at running
      | some c => simp [State.mayStart, progress]
    rw [if_neg (by simp [busy])]
  · have hot : (e.targets.all fun g => s.cold g.ant) = false := List.all_eq_false.mpr ⟨g, hg, by simp [hot]⟩
    rw [if_neg (by simp [State.mayStart, hot])]
  · have open_ : (e.targets.all fun g => s.mainClear e.pos g) = false := List.all_eq_false.mpr ⟨g, hg, by simp [waits]⟩
    split
    · rw [if_neg (by simp [open_])]
      exact List.filter_eq_nil_iff.mpr fun x hx => by simp [Target.closes, closes x hx]
    · rfl

/-- The targets of an entry that starts: all of them, or those that open (R104). -/
theorem State.startTargets_of (count : s.drv.inProg.length < 2) (free : s.progress e.pos = none) (release : s.drv.release = .none)
    (cold : ∀ g ∈ e.targets, s.cold g.ant = true)
    (parts : (∀ g ∈ e.targets, s.mainClear e.pos g = true) ∧ ts = e.targets ∨
      (∃ g ∈ e.targets, s.mainClear e.pos g = false) ∧ ts = e.targets.filter fun g => g.goal == .opened) :
    s.startTargets e = ts := by
  have may : s.mayStart e = true := by
    have most : s.drv.inProg.length < Config.inProgressMost := count
    simp [State.mayStart, most, free, release, List.all_eq_true.mpr cold]
  rw [State.startTargets, if_pos may]
  rcases parts with ⟨clear, rfl⟩ | ⟨⟨g, hg, waits⟩, rfl⟩
  · exact if_pos (List.all_eq_true.mpr clear)
  · rw [if_neg (by simpa using ⟨g, hg, waits⟩)]
    exact List.filter_congr fun x _ => by rw [Target.closes, bne, Bool.not_not]

theorem State.startFirst_of (list : s.drv.list = pre ++ e :: rest) (passed : ∀ x ∈ pre, s.PassedOver x)
    (starts : s.startTargets e = ts) (some : ts ≠ []) : s.startFirst = (s.listTake e.pos ts).startSet e.pos ts := by
  have first : (s.drv.list.find? fun x => !(s.startTargets x).isEmpty) = .some e := by
    refine List.find?_eq_some_iff_append.mpr ⟨by simpa [starts] using some, pre, rest, list, fun x hx => ?_⟩
    simp [State.startTargets_passedOver (passed x hx)]
  rw [State.startFirst, first]
  dsimp only
  rw [starts]

/-- Targets taken from an entry of a list in which its position has no other entry leave the rest of the list. -/
theorem dropTargets_entry (list : s.drv.list = pre ++ e :: rest) (others : ∀ x ∈ pre ++ rest,
    x.pos ≠ e.pos ∧ x.targets ≠ []) :
    (s.listTake e.pos ts).drv.list = pre ++ (if e.targets.filter (fun g => !ts.contains g) = [] then []
      else [{ e with targets := e.targets.filter fun g => !ts.contains g }]) ++ rest := by
  have stays (xs : List PendEntry) (h : ∀ x ∈ xs, x ∈ pre ++ rest) :
      dropTargets xs (fun x g => x.pos == e.pos && ts.contains g) = xs := by
    have same : ∀ x ∈ xs,
        ({ x with targets := x.targets.filter fun g => !(x.pos == e.pos && ts.contains g) } : PendEntry) = x := by
      intro x hx
      have ne : (x.pos == e.pos) = false := by simpa using (others x (h x hx)).1
      simp [ne]
    rw [dropTargets, List.map_congr_left same, List.map_id']
    exact List.filter_eq_self.mpr fun x hx => by simpa using (others x (h x hx)).2
  change dropTargets s.drv.list _ = _
  rw [list, ← List.singleton_append, ← List.append_assoc]
  simp only [dropTargets, List.map_append, List.filter_append]
  refine congrArg₂ _ (congrArg₂ _ (stays pre fun x hx => List.mem_append_left _ hx) ?_)
    (stays rest fun x hx => List.mem_append_right _ hx)
  simp only [List.map_cons, List.map_nil, beq_self_eq_true, Bool.true_and]
  split
  · next none => rw [none]; rfl
  · next some => exact List.filter_eq_self.mpr fun x hx => by rw [List.mem_singleton.mp hx]; simpa using some

end Entry

/-- Settles O24: the first entry that can start is found, its targets leave the list, and its change set begins. -/
theorem changeSetStartsInOrder : Obligations.ChangeSetStartsInOrder := by
  intro s e pre rest ts powered list passed others once count free release cold some parts
  have sub : ts.Sublist e.targets := by
    rcases parts with ⟨-, rfl⟩ | ⟨-, rfl⟩
    · exact List.Sublist.refl _
    · exact List.filter_sublist
  let u := s.listTake e.pos ts
  obtain ⟨c, started⟩ := State.startSet_started (s := u) (p := e.pos) (ts := ts) (once.sublist (sub.map _)) free some
    fun g hg => (State.cold_congr (s := s) (t := u) (fun _ _ => rfl) rfl rfl g.ant).trans (cold g (sub.subset hg))
  have first := State.startFirst_of list passed (State.startTargets_of count free release cold parts) some
  have quiet := s.startFirst_quiet.restKept.trans s.startFirst.recomputeBlank_quiet.restKept
  have listed : u.drv.list = _ := dropTargets_entry (ts := ts) list others
  have ran : exec .changeSetStart s = .next s.startFirst.recomputeBlank :=
    whenPowered_on powered fun s => s.startFirst.recomputeBlank
  rw [first, State.recomputeBlank_eq] at quiet ran
  have drv := (congrArg State.drv started.eq :)
  refine ⟨_, ran, fun whole => ?_, fun part => ?_, ⟨c, (congrArg Driver.inProg drv :), started.pos, started.targets, ?_⟩,
    started.serves, started.others, fun q a => ⟨started.closed q a, started.apart q a⟩, (congrArg Driver.faults drv :),
    (congrArg State.alloc started.eq :), (congrArg State.links started.eq :), quiet, (congrArg State.seqs started.eq :)⟩
  · refine (congrArg Driver.list drv :).trans (listed.trans ?_)
    rw [if_pos (List.filter_eq_nil_iff.mpr fun g hg => by simpa [whole] using hg), List.append_nil]
  · rcases parts with ⟨-, whole⟩ | ⟨⟨g, hg, waits⟩, rfl⟩
    · exact absurd whole part
    · have left : (e.targets.filter fun g => !(e.targets.filter fun x => x.goal == .opened).contains g) =
          e.targets.filter fun g => g.goal != .opened :=
        List.filter_congr fun x hx => by simp [hx, bne, beq_eq_decide]
      have main : g.goal ≠ .opened := fun opened => by simp [State.mainClear, opened] at waits
      refine (congrArg Driver.list drv :).trans (listed.trans ?_)
      rw [left, if_neg fun none => by simpa [main] using List.filter_eq_nil_iff.mp none g hg, List.append_assoc]
      rfl
  · rintro opens rfl
    exact ⟨started.opening, started.closing⟩

end Sys2Proof.Machine
end

section
/-! SUPPORT. Work on a listen slot, with its hand-overs and its follow, leaves every main slot (R65, R67, R90 to R92). -/

namespace Sys2Proof.Machine

/-- The main part of a holding record: the main slot, its pending request and its mark. -/
def HoldRecord.mainPart (h : HoldRecord) : Option Holding × Option Ant × Option Mark := (h.main, h.pendMain, h.markMain)

/-- From `s` to `t` every position keeps its main part. -/
def MainKept (s t : State) : Prop := ∀ p : Pos, t.hold[p].mainPart = s.hold[p].mainPart

namespace MainKept

variable {s t u : State}

theorem refl (s : State) : MainKept s s := fun _ => rfl

theorem trans (h : MainKept s t) (k : MainKept t u) : MainKept s u := fun p => (k p).trans (h p)

theorem of_keeps (h : ∀ p, KeepsHold HoldRecord.mainPart p s t) : MainKept s t := fun p => (h p).hold

theorem of_hold (h : t.hold = s.hold) : MainKept s t := fun p => by rw [h]

theorem main (h : MainKept s t) (p : Pos) : t.hold[p].main = s.hold[p].main := congrArg (·.1) (h p)

theorem mark (h : MainKept s t) (p : Pos) : t.hold[p].markMain = s.hold[p].markMain := congrArg (·.2.2) (h p)

theorem heldAnt (h : MainKept s t) (p : Pos) : t.heldAnt p .main = s.heldAnt p .main :=
  congrArg (Option.map fun x : Holding => x.ant) (h.main p)

end MainKept

section Work

variable (s : State) (q : Pos) (a : Ant)

theorem State.removeEntry_mainKept : MainKept s (s.removeEntry a q .listen) :=
  .of_keeps fun _ => s.removeEntry_keeps a q .listen fun e => by subst e; rfl

theorem State.notify_mainKept (n : Notice) : MainKept s (s.notify q n) := .of_keeps fun _ => s.notify_keeps q n

theorem State.expire_mainKept (c : Cause) : MainKept s (s.expire a q .listen c) :=
  (s.removeEntry_mainKept q a).trans (State.notify_mainKept _ q _)

theorem State.grantListenBooks_mainKept (o : Origin) : MainKept s (s.grantListenBooks q a o) :=
  .of_keeps fun _ => State.grantListenBooks_keeps (v := HoldRecord.mainPart) (fun _ _ _ _ => rfl) s a o

theorem HandRun.mainKept {s t : State} (run : HandRun .listen s t) : MainKept s t := by
  refine run.keeps (P := MainKept s) (fun u v j only step ih => ih.trans ?_) (.refl s)
  cases step with
  | @expire b _ e _ =>
    rw [only rfl]
    exact u.expire_mainKept e.pos b _
  | @listen b e _ _ _ _ => exact (u.removeEntry_mainKept e.pos b).trans (State.grantListenBooks_mainKept _ e.pos b _)
  | main _ _ _ _ => cases only rfl

theorem State.releaseListen_mainKept (n : Option Notice) : MainKept s (s.releaseListen q a n) :=
  .of_keeps fun _ => ((s.unbookListen_keeps q a fun e => by subst e; rfl).trans (State.handOpening_keeps _ q a)).trans
    (State.notifyOpt_keeps _ q n)

theorem State.loseListen_mainKept (n : Ant → Option Notice) : MainKept s (s.lose q .listen n) := by
  unfold State.lose
  split
  · exact .refl s
  · next a _ => exact (s.releaseListen_mainKept q a _).trans (State.handSlot_steps _ .listen a).mainKept

theorem State.appendEntry_mainKept (o : Origin) : MainKept s (s.appendEntry a q .listen o) := by
  intro p
  simp only [State.appendEntry, State.redetermine, State.setAlloc_hold, State.setHold_hold, upd_get]
  split
  · next e => subst e; rfl
  · rfl

theorem State.queuePass_mainKept (b : Band) : MainKept s (s.queuePass q .listen b) := by
  unfold State.queuePass
  split
  · exact s.notify_mainKept q _
  · next c _ =>
    dsimp only
    split
    · exact s.appendEntry_mainKept q c _
    · next d _ =>
      exact ((s.removeEntry_mainKept q d).trans (State.notify_mainKept _ q _)).trans (State.appendEntry_mainKept _ q c _)

theorem State.followListen_mainKept : MainKept s (s.followSlot q .listen) := by
  rcases s.followSlot_acts q .listen with e | ⟨-, b, -, ⟨c, -, -, -, e⟩ | ⟨-, e⟩⟩ <;> rw [e]
  · exact .refl s
  · exact (s.grantListenBooks_mainKept q c _).trans (State.grantListen_steps s q c .follow).mainKept
  · exact s.queuePass_mainKept q b

theorem State.loseIf_mainKept (b : Bool) (c : Cause) :
    MainKept s ((if b then s.loseFor q .listen c else s).followOne q .listen) := by
  refine MainKept.trans (t := if b then s.loseFor q .listen c else s) ?_ (State.followListen_mainKept _ q)
  split
  · exact s.loseListen_mainKept q _
  · exact .refl s

theorem State.faultWork_mainKept : MainKept s (s.faultWork q .listen a) :=
  s.loseIf_mainKept q (s.heldAnt q .listen == some a || s.slotIneligible q .listen) .fault

/-- The work of a mark on a listen slot leaves every main slot. -/
theorem State.markWork_mainKept (m : Mark) : MainKept s (s.markWork q .listen m) := by
  cases m with
  | band =>
    simp only [State.markWork, State.bandRelease]
    split
    · exact s.loseIf_mainKept q (s.slotIneligible q .listen) .band
    · exact s.loseIf_mainKept q true .band
  | segment => exact s.loseIf_mainKept q (s.slotIneligible q .listen) .segment
  | fault a => exact s.faultWork_mainKept q a
  | edit =>
    simp only [State.markWork, State.editWork]
    split
    · exact s.loseIf_mainKept q true .edit
    · exact .refl s

theorem State.faultLoss_mainKept : MainKept s (s.faultLoss q .listen a) := by
  unfold State.faultLoss
  split
  · split
    · intro p
      simp only [State.keepFaulted, State.mark, State.setHold_hold, upd_get]
      split
      · next e => subst e; rfl
      · rfl
    · exact s.faultWork_mainKept q a
  · exact .refl s

end Work

end Sys2Proof.Machine
end

section
/-! SUPPORT. A fault event taken by allocation (R108, R111): what comes of the antenna's queue and of its main holder. -/

namespace Sys2Proof.Machine

/-! ## A faulted antenna is granted to nobody -/

section Faulted

variable {s t u : State} {a : Ant}

theorem State.elig_of_fault (h : s.drv.faults[a] = true) (k : Slot) (p : Pos) : s.elig k a p = false := by
  cases k <;> simp [-Fin.getElem_fin, State.elig, State.mainElig, State.listenElig, h]

/-- From `s` to `t` nobody comes to hold an antenna or to wait for it. -/
structure NobodyGains (a : Ant) (s t : State) : Prop where
  frame : AllocFrame s t
  queue : s.alloc[a].queue = [] → t.alloc[a].queue = []
  held : ∀ p k, s.heldAnt p k ≠ some a → t.heldAnt p k ≠ some a

theorem NobodyGains.refl (a : Ant) (s : State) : NobodyGains a s s := ⟨.refl s, id, fun _ _ => id⟩

theorem NobodyGains.trans (h : NobodyGains a s t) (k : NobodyGains a t u) : NobodyGains a s u :=
  ⟨h.frame.trans k.frame, fun e => k.queue (h.queue e), fun p j e => k.held p j (h.held p j e)⟩

theorem AllocFrame.fault (h : AllocFrame s t) (fault : s.drv.faults[a] = true) : t.drv.faults[a] = true := by
  rw [h.drv]
  exact fault

/-- Grants and entries are for eligible antennas, so a run of the work of slots leaves a faulted antenna alone. -/
theorem BookRun.nobodyGains (run : BookRun working s t) (fault : s.drv.faults[a] = true) : NobodyGains a s t := by
  induction run with
  | refl => exact .refl a s
  | @act t run x hx ih =>
    have bad := State.elig_of_fault (ih.frame.fault fault)
    have any := working_any hx
    refine ih.trans ⟨BookAct.frame any, fun e => ?_, fun p k e => ?_⟩
    · rw [(BookAct.apply_queue any a).1]
      cases x with
      | append b q k o =>
        obtain ⟨good, -⟩ := hx
        refine (if_neg fun same => ?_).trans e
        rw [same, bad k q] at good
        cases good
      | remove b q k =>
        simp only [BookAct.queue, e, List.filter_nil, ite_self]
      | _ => exact e
    · rw [BookAct.apply_heldAnt any]
      have no (k : Slot) {q : Pos} {b : Ant} (good : t.elig k b q = true) : b ≠ a := fun same => by
        rw [same, bad k q] at good
        cases good
      cases x with
      | main q b o =>
        obtain ⟨good, -⟩ := hx
        simp only [BookAct.held]
        split
        · exact fun same => no .main good (Option.some.inj same)
        · exact e
      | listen q b o =>
        simp only [BookAct.held]
        split
        · exact fun same => no .listen hx (Option.some.inj same)
        · exact e
      | drop q j =>
        simp only [BookAct.held]
        split
        · nofun
        · exact e
      | _ => exact e

/-- The loss of a faulted antenna by a position leaves it to nobody else (R111). -/
theorem State.faultLoss_nobodyGains (fault : s.drv.faults[a] = true) (q : Pos) (k : Slot) : NobodyGains a s (s.faultLoss q k a) := by
  unfold State.faultLoss
  split
  · split
    · refine ⟨(s.mark_frame q k _).trans (State.keepFaulted_frame _ q k), id, fun p j e => ?_⟩
      rw [State.keepFaulted_heldAnt]
      exact fun held => e ((BookAct.apply_heldAnt (x := .mark q k (some (.fault a))) trivial p j).symm.trans held)
    · next out => exact (State.faultWork_run (Bool.eq_false_iff.mpr out) k a).nobodyGains fault
  · exact .refl a s

/-- A position outside key span that loses a faulted antenna has it no more. -/
theorem State.faultLoss_lost (fault : s.drv.faults[a] = true) {p : Pos} (out : s.inSpan p = false) (k : Slot) :
    (s.faultLoss p k a).heldAnt p k ≠ some a := by
  by_cases held : s.heldAnt p k = some a
  · have lost : s.faultLoss p k a = (s.loseFor p k .fault).followOne p k := by
      simp [State.faultLoss, State.faultWork, held, out]
    have frame := s.loseFor_frame p k .fault
    have good := ((State.followOne_run ((frame.inSpan p).trans out) k).mono working_revising).slotGood
      (s.lose_slotGood p k fun b => some (.released k b .fault))
    rw [lost]
    intro still
    rcases good a still with elig | ⟨inside, -⟩
    · rw [((frame.trans (State.followOne_frame _ p k)).elig k a p), State.elig_of_fault fault] at elig
      cases elig
    · rw [(frame.trans (State.followOne_frame _ p k)).inSpan, out] at inside
      cases inside
  · exact (State.faultLoss_nobodyGains fault p k).held p k held

/-- A position in key span keeps a faulted main under its mark (R111). -/
theorem State.faultLoss_keeps {p : Pos} (inside : s.inSpan p = true) {w : SwitchState} {o : Origin} {f : Bool}
    (main : s.hold[p].main = some ⟨a, w, o, f⟩) :
    (s.faultLoss p .main a).hold[p].main = some ⟨a, w, o, true⟩ ∧
      (s.faultLoss p .main a).hold[p].markMain = some (.fault a) := by
  have held : s.heldAnt p .main = some a := congrArg (Option.map fun x : Holding => x.ant) main
  rw [State.faultLoss, if_pos (by simp [held]), if_pos inside]
  simp only [State.keepFaulted, State.mark, State.setHold_hold, upd_get_same]
  refine ⟨?_, rfl⟩
  change Option.map _ s.hold[p].main = _
  rw [main]
  rfl

end Faulted

/-! ## The fault event -/

section Event

variable {s : State} {a : Ant}

/-- A fault event with the entries of the antenna's queue expired. -/
def State.faultExpired (s : State) (a : Ant) : State :=
  s.each s.alloc[a].queue fun e t => t.expire a e.pos e.kind .fault

/-- A fault event with the loss of the main holder taken. -/
def State.faultMain (s : State) (a : Ant) : State := (s.alloc[a].holder).elim s fun h => s.faultLoss h .main a

theorem State.allocFault_eq (s : State) (a : Ant) : s.allocFault a =
    ((s.faultExpired a).faultMain a).each ((s.faultExpired a).faultMain a).alloc[a].listeners fun q t => t.faultLoss q .listen a := by
  unfold State.allocFault State.faultMain State.faultExpired
  dsimp only
  split
  · next h e => rw [e]; rfl
  · next e => rw [e]; rfl

theorem State.faultExpired_queue (s : State) (a : Ant) : (s.faultExpired a).alloc[a].queue = [] := by
  refine List.eq_nil_iff_forall_not_mem.mpr fun e he => ?_
  obtain ⟨mem, good⟩ := State.each_expires (bad := fun _ => true) (fun _ => .fault) (fun e _ t _ => (if_pos rfl).symm) e he
  cases good mem

theorem State.faultExpired_frame (s : State) (a : Ant) : AllocFrame s (s.faultExpired a) :=
  s.each_frame _ _ fun e t => t.expire_frame a e.pos e.kind .fault

theorem State.faultExpired_holder (s : State) (a : Ant) : (s.faultExpired a).alloc[a].holder = s.alloc[a].holder := by
  rw [State.faultExpired]
  exact State.each_keeps (fun t => t.alloc[a].holder = s.alloc[a].holder) _ _
    (fun e t _ same => (t.expire_lists a e.pos e.kind .fault a).1.trans same) s rfl

theorem State.expire_main (s : State) (a : Ant) (p q : Pos) (k : Slot) (c : Cause) :
    (s.expire a p k c).hold[q].main = s.hold[q].main :=
  (s.expire_keeps (v := (·.main)) (p := q) a p k c fun e => by
    subst e
    exact HoldRecord.setPend_holding _ k .main none).hold

theorem State.faultExpired_main (s : State) (a : Ant) (p : Pos) : (s.faultExpired a).hold[p].main = s.hold[p].main := by
  rw [State.faultExpired]
  exact State.each_keeps (fun t => t.hold[p].main = s.hold[p].main) _ _
    (fun e t _ same => (t.expire_main a e.pos p e.kind .fault).trans same) s rfl

theorem State.faultMain_eq {h : Pos} (holds : s.alloc[a].holder = some h) : s.faultMain a = s.faultLoss h .main a := by
  rw [State.faultMain, holds]
  rfl

theorem State.faultMain_nobodyGains (fault : s.drv.faults[a] = true) : NobodyGains a s (s.faultMain a) := by
  cases holds : s.alloc[a].holder with
  | none => rw [State.faultMain, holds]; exact .refl a s
  | some h => rw [State.faultMain_eq holds]; exact State.faultLoss_nobodyGains fault h .main

/-- What a fault event makes of a faulted antenna: nobody waits for it, and its main holder loses it outside key span, and
keeps it under its mark in key span (R111). -/
structure FaultTaken (s t : State) (a : Ant) : Prop where
  queue : t.alloc[a].queue = []
  lost : ∀ p, s.alloc[a].holder = some p → s.inSpan p = false → t.heldAnt p .main ≠ some a
  keeps : ∀ p w o f, s.alloc[a].holder = some p → s.inSpan p = true → s.hold[p].main = some ⟨a, w, o, f⟩ →
    t.hold[p].main = some ⟨a, w, o, true⟩ ∧ t.hold[p].markMain = some (.fault a)

theorem State.allocFault_taken (fault : s.drv.faults[a] = true) : FaultTaken s (s.allocFault a) a := by
  have expired := s.faultExpired_frame a
  have fault' := expired.fault fault
  have main := State.faultMain_nobodyGains fault'
  have listens : NobodyGains a ((s.faultExpired a).faultMain a) (s.allocFault a) ∧
      MainKept ((s.faultExpired a).faultMain a) (s.allocFault a) := by
    rw [State.allocFault_eq]
    refine State.each_keeps (fun t => NobodyGains a ((s.faultExpired a).faultMain a) t ∧ MainKept ((s.faultExpired a).faultMain a) t)
      _ _ (fun q t _ ⟨gains, kept⟩ => ⟨gains.trans ?_, kept.trans (t.faultLoss_mainKept q a)⟩) _ ⟨.refl a _, .refl _⟩
    exact State.faultLoss_nobodyGains (gains.frame.fault (main.frame.fault fault')) q .listen
  have holder {p : Pos} (holds : s.alloc[a].holder = some p) :
      (s.faultExpired a).faultMain a = (s.faultExpired a).faultLoss p .main a :=
    State.faultMain_eq ((s.faultExpired_holder a).trans holds)
  refine ⟨listens.1.queue (main.queue (s.faultExpired_queue a)), fun p holds out => listens.1.held p .main ?_,
    fun p w o f holds inside held => ?_⟩
  · rw [holder holds]
    exact State.faultLoss_lost fault' ((expired.inSpan p).trans out) .main
  · obtain ⟨kept, marked⟩ := State.faultLoss_keeps ((expired.inSpan p).trans inside) ((s.faultExpired_main a p).trans held)
    rw [← holder holds] at kept marked
    exact ⟨(listens.2.main p).trans kept, (listens.2.mark p).trans marked⟩

theorem State.yieldExpire_faulted (fault : s.drv.faults[a] = true) :
    s.yieldExpire a = s ∨ ∃ w, s.yieldExpire a = s.expire a w .main .ineligible := by
  unfold State.yieldExpire
  split
  · next h w _ _ => exact .inr ⟨w, if_neg (by rw [show s.mainElig a w = false from State.elig_of_fault fault .main w]; simp)⟩
  · exact .inl rfl

/-- A fault event taken with a yield expiry that is due, or alone (R84, R111). -/
theorem State.takeFault_taken (fault : s.drv.faults[a] = true) : FaultTaken s (s.takeFault a) a := by
  rcases s.takeFault_cases a with ⟨-, e⟩ | ⟨-, e | e⟩ <;> rw [e]
  · exact State.allocFault_taken fault
  · have taken := State.allocFault_taken (s := { s with freeIx := s.freeIx + 1 }) (a := a) fault
    exact ⟨taken.queue, taken.lost, taken.keeps⟩
  · rcases State.yieldExpire_faulted (s := { s with freeIx := s.freeIx + 1 }) fault with same | ⟨w, expires⟩
    · have taken := State.allocFault_taken (s := { s with freeIx := s.freeIx + 1 }) (a := a) fault
      rw [same]
      exact ⟨taken.queue, taken.lost, taken.keeps⟩
    · rw [expires]
      have frame := State.expire_frame { s with freeIx := s.freeIx + 1 } a w .main .ineligible
      have holder := (State.expire_lists { s with freeIx := s.freeIx + 1 } a w .main .ineligible a).1
      have main (p : Pos) := State.expire_main { s with freeIx := s.freeIx + 1 } a w p .main .ineligible
      obtain ⟨queue, lost, keeps⟩ := State.allocFault_taken (frame.fault fault)
      exact ⟨queue, fun p holds out => lost p (holder.trans holds) ((frame.inSpan p).trans out),
        fun p y o f holds inside held => keeps p y o f (holder.trans holds) ((frame.inSpan p).trans inside) ((main p).trans held)⟩

/-- Allocation changes nothing of the driver but its list when it takes a fault event. -/
theorem State.takeFault_drv (s : State) (a : Ant) : (s.takeFault a).drv = { s.drv with list := (s.takeFault a).drv.list } := by
  rcases s.takeFault_cases a with ⟨-, e⟩ | ⟨-, e | e⟩ <;> rw [e]
  · exact (s.allocFault_frame a).drv
  · exact (State.allocFault_frame { s with freeIx := s.freeIx + 1 } a).drv
  · exact ((State.yieldExpire_frame { s with freeIx := s.freeIx + 1 } a).trans (State.allocFault_frame _ a)).drv

end Event

end Sys2Proof.Machine
end

section
/-! SUPPORT. The end of a closing phase: the crosspoint that reads back well, and the RELAY fault (R107 to R112). -/

namespace Sys2Proof.Machine

/-! ## What a fault changes beside allocation -/

/-- From `s` to `t` only the pending list, the change sets in progress, the fault flags and the links have changed. -/
structure DriverOnly (s t : State) : Prop where
  eq : t = { s with
    drv := { s.drv with list := t.drv.list, inProg := t.drv.inProg, faults := t.drv.faults }
    links := t.links }

namespace DriverOnly

variable {s t u : State}

theorem refl (s : State) : DriverOnly s s := ⟨rfl⟩

theorem trans (h : DriverOnly s t) (k : DriverOnly t u) : DriverOnly s u := by
  refine ⟨k.eq.trans ?_⟩
  conv_lhs => rw [h.eq]

theorem of_grow (h : LinksGrow s t) : DriverOnly s t := ⟨by rw [h.eq]⟩

end DriverOnly

/-- No change set of a position is in progress. -/
def State.idleAt (s : State) (p : Pos) : Prop := ∀ c ∈ s.drv.inProg, c.pos ≠ p

theorem State.progress_none {s : State} {p : Pos} : s.progress p = none ↔ s.idleAt p := by
  simp [State.progress, State.idleAt]

section Driver

variable (s : State) (a : Ant)

/-- An opening joins the list and does nothing else: it completes no holding (R110). -/
theorem State.addOpening_list (q : Pos) : ∃ xs, s.addTargets q [⟨a, .opened⟩] = s.setList xs := by
  unfold State.addTargets
  cases done : s.nothingToSwitch q ⟨a, .opened⟩ with
  | true =>
    simp only [List.filter_cons, List.filter_nil, done, Bool.not_true, Bool.false_eq_true, if_false, if_true, State.each_nil,
      State.each_cons]
    exact ⟨_, rfl⟩
  | false =>
    simp only [List.filter_cons, List.filter_nil, done, Bool.not_false, Bool.false_eq_true, if_false, if_true, State.each_nil,
      State.each_cons]
    exact ⟨_, s.listPut_eq q _⟩

theorem State.faultOpening_list : ∃ xs, s.faultOpening a = s.setList xs := by
  refine State.each_rel (fun s t => ∃ xs, t = State.setList s xs) (fun _ => ⟨_, rfl⟩) ?_ _ _ (fun q t => ?_) s
  · rintro s _ _ ⟨xs, rfl⟩ ⟨ys, rfl⟩
    exact ⟨ys, rfl⟩
  · split
    · exact t.addOpening_list a q
    · exact ⟨_, rfl⟩

theorem State.dropClosings_idleAt {s : State} {p : Pos} (h : s.idleAt p) : (s.dropClosings a).idleAt p := by
  intro c hc
  obtain ⟨d, hd, rfl⟩ := List.mem_map.mp (List.mem_of_mem_filter hc)
  have pos := h d hd
  split <;> exact pos

/-- The driver's part of a fault: closings on the antenna are dropped, and its crosspoints are listed for OPEN (R110). -/
theorem State.faultDriver_only : DriverOnly s ((s.dropClosings a).faultOpening a) ∧
    ((s.dropClosings a).faultOpening a).drv.faults = s.drv.faults ∧
      ∀ p, s.idleAt p → ((s.dropClosings a).faultOpening a).idleAt p := by
  obtain ⟨xs, list⟩ := (s.dropClosings a).faultOpening_list a
  rw [list]
  exact ⟨⟨rfl⟩, rfl, fun p h => State.dropClosings_idleAt a h⟩

theorem State.offer_placed {s : State} {l : Link} (up : s.held = false) (room : s.links[l].hasRoom = true) (f : Frame) :
    (s.offer l f).links[l].queue = s.links[l].queue ++ [f] := by
  rw [State.offer, if_neg (by rw [up]; simp), State.setLink_links, upd_get_same, LinkState.offer, if_pos room, LinkState.place_queue]

end Driver

/-! ## A RELAY fault (R109, R110) -/

section Relay

variable {s : State} {p : Pos} {a : Ant}

/-- The frame that tells of a fault. -/
def State.faultFrame (s : State) (p : Pos) (a : Ant) (f : Finding) : Frame :=
  noticeFrame p (.fault a (s.xp p a).cmd (s.xp p a).closed f)

/-- The station link is told first (R109). -/
theorem State.relayFault_tells (up : s.held = false) (room : s.links[stationLink].hasRoom = true) (f : Finding) :
    s.links[stationLink].queue ++ [s.faultFrame p a f] <+: (s.relayFault p a f).links[stationLink].queue := by
  rw [← State.offer_placed up room]
  have after : QuietFrame (s.offer stationLink (s.faultFrame p a f)) (s.relayFault p a f) := by
    unfold State.relayFault
    dsimp only
    split
    · exact (State.dropClosings_quiet _ a).trans (State.faultOpening_quiet _ a)
    · exact ((((State.setFault_quiet _ a true).trans (State.each_quiet _ _ _ fun q t => t.offer_quiet _ _)).trans
        (State.dropClosings_quiet _ a)).trans (State.faultOpening_quiet _ a)).trans (State.takeFault_quiet _ a)
  exact (after.links stationLink).queue

/-- With the flag set before, a fault is the driver's work alone (R109, R110). -/
theorem State.relayFault_flagged (flag : s.drv.faults[a] = true) (f : Finding) : DriverOnly s (s.relayFault p a f) ∧
    (s.relayFault p a f).drv.faults = s.drv.faults ∧ ∀ q, s.idleAt q → (s.relayFault p a f).idleAt q := by
  have told := s.offer_grow stationLink (s.faultFrame p a f)
  have drv : (s.offer stationLink (s.faultFrame p a f)).drv = s.drv := (congrArg State.drv told.eq :)
  have relay : s.relayFault p a f = ((s.offer stationLink (s.faultFrame p a f)).dropClosings a).faultOpening a := if_pos flag
  obtain ⟨only, faults, idle⟩ := (s.offer stationLink (s.faultFrame p a f)).faultDriver_only a
  rw [relay]
  refine ⟨(DriverOnly.of_grow told).trans only, faults.trans (by rw [drv]), fun q h => idle q ?_⟩
  rw [State.idleAt, drv]
  exact h

/-- With the flag clear, allocation takes the fault once the driver has done its part (R109 to R111). -/
theorem State.relayFault_clear (clear : s.drv.faults[a] = false) (f : Finding) : ∃ w, s.relayFault p a f = w.takeFault a ∧
    DriverOnly s w ∧ w.drv.faults = upd s.drv.faults a true ∧ (∀ q, s.idleAt q → w.idleAt q) ∧ OrderKept s w := by
  let u := (s.offer stationLink (s.faultFrame p a f)).setFault a true
  let v := u.each (allPos.filter fun q => s.affected p a q) fun q x => x.offer (linkOf q) (s.faultFrame p a f)
  have first := s.offer_grow stationLink (s.faultFrame p a f)
  have drv : (s.offer stationLink (s.faultFrame p a f)).drv = s.drv := (congrArg State.drv first.eq :)
  have told : LinksGrow u v := State.each_rel LinksGrow .refl (fun h k => h.trans k) _ _ (fun q t => t.offer_grow _ _) u
  have drv' : v.drv = { s.drv with faults := upd s.drv.faults a true } :=
    (congrArg State.drv told.eq :).trans (congrArg (fun d : Driver => { d with faults := upd d.faults a true }) drv)
  have relay : s.relayFault p a f = ((v.dropClosings a).faultOpening a).takeFault a := if_neg (by rw [clear]; simp)
  obtain ⟨only, faults, idle⟩ := v.faultDriver_only a
  refine ⟨_, relay, (((DriverOnly.of_grow first).trans ⟨rfl⟩).trans (DriverOnly.of_grow told)).trans only,
    faults.trans (by rw [drv']), fun q h => idle q (by rw [State.idleAt, drv']; exact h), ?_⟩
  exact ((((s.offer_kept _ _).trans (State.setFault_kept _ a true)).trans told.kept).trans (State.dropClosings_kept v a)).trans
    (State.faultOpening_kept _ a)

end Relay

end Sys2Proof.Machine
end

section
/-! SUPPORT. CLOSING_PHASE_END of a change set that closed one crosspoint to MAIN (R52, R107, R108). -/

namespace Sys2Proof.Machine

section Closing

variable {s : State} {p : Pos} {a : Ant} {o : Origin} {f : Bool} {c : ChangeSet}

theorem State.endProgress_idleAt (s : State) (p : Pos) : (s.endProgress p).idleAt p := by
  intro c hc
  simpa using List.of_mem_filter hc

/-- The end of a closing phase on one crosspoint that is sensed CLOSED. -/
theorem State.endClosing_closed (pos : c.pos = p) (one : c.closings = [⟨a, .main⟩]) (closed : (s.xp p a).closed = true) :
    s.endClosing c = if s.drv.faults[a] = true then s.endProgress p
      else (s.endProgress p).completeHolding p .main a .switching := by
  subst pos
  unfold State.endClosing
  simp only [one, List.filter_cons, List.filter_nil, closed, Bool.not_true, Bool.false_eq_true, if_false, List.map_nil,
    Bool.true_and]
  cases flag : s.drv.faults[a]
  all_goals rfl

/-- The end of a closing phase on one crosspoint that is sensed OPEN. -/
theorem State.endClosing_open (pos : c.pos = p) (one : c.closings = [⟨a, .main⟩]) (open_ : (s.xp p a).closed = false) :
    s.endClosing c = (s.endProgress p).relayFault p a .closing := by
  subst pos
  unfold State.endClosing
  simp only [one, List.filter_cons, List.filter_nil, open_, Bool.not_false, Bool.false_eq_true, if_true, if_false,
    List.map_cons, List.map_nil, Bool.false_and]
  rfl

theorem State.trySettle_hold (s : State) (p : Pos) : (s.trySettle p).hold = s.hold ∧ (s.trySettle p).alloc = s.alloc ∧
    (s.trySettle p).links = s.links := by
  unfold State.trySettle
  split <;> exact ⟨rfl, rfl, rfl⟩

/-- A main holding completed goes to SET, and its position is told (R52, R108). -/
theorem State.completeMain (held : s.hold[p].main = some ⟨a, .switching, o, false⟩) :
    (s.completeHolding p .main a .switching).hold = upd s.hold p { s.hold[p] with main := some ⟨a, .set, o, false⟩ } ∧
      (s.completeHolding p .main a .switching).alloc = s.alloc ∧
      (s.held = false → s.links[linkOf p].hasRoom = true → s.links[linkOf p].queue ++ [noticeFrame p (.granted .main a o)] <+:
        (s.completeHolding p .main a .switching).links[linkOf p].queue) := by
  let u := s.setHold p { s.hold[p] with main := some ⟨a, .set, o, false⟩ }
  have moved : s.moveHolding p .main a .switching .set = u := by
    rw [State.moveHolding, show s.hold[p].holding .main = some ⟨a, .switching, o, false⟩ from held]
    exact if_pos (by simp)
  have done : s.completeHolding p .main a .switching = (u.notify p (.granted .main a o)).trySettle p := by
    rw [State.completeHolding, show s.hold[p].holding .main = some ⟨a, .switching, o, false⟩ from held]
    dsimp only
    rw [if_pos (by simp), moved]
  obtain ⟨hold, alloc, links⟩ := (u.notify p (.granted .main a o)).trySettle_hold p
  have told := u.notify_grow p (.granted .main a o)
  rw [done]
  refine ⟨hold.trans (congrArg State.hold told.eq :), alloc.trans (congrArg State.alloc told.eq :), fun up room => ?_⟩
  rw [links]
  exact State.notify_placed (s := u) up room _

/-- A holding kept although its antenna has faulted is not completed (R108). -/
theorem State.completeMain_faulted (held : s.hold[p].main = some ⟨a, .switching, o, true⟩) :
    s.completeHolding p .main a .switching = s := by
  rw [State.completeHolding, show s.hold[p].holding .main = some ⟨a, .switching, o, true⟩ from held]
  exact if_neg (by simp)

end Closing

/-- Settles O26: the crosspoint sensed CLOSED completes its holding, and sensed OPEN it is a RELAY fault. -/
theorem closingEndGrantsMain : Obligations.ClosingEndGrantsMain := by
  intro s p c a o f n powered up progress phase due one main
  have pos : c.pos = p := by simpa using List.find?_some progress
  let v := s.endProgress p
  have ran : exec (.closingPhaseEnd p) s = .next (s.endClosing c).recomputeBlank := by
    rw [show exec (.closingPhaseEnd p) s = execClosingPhaseEnd p s from rfl, execClosingPhaseEnd, whenPowered_on powered, progress]
    dsimp only
    rw [phase]
    exact congrArg _ (if_pos due)
  have quiet := s.endClosing_quiet c
  have rest := quiet.restKept.trans (s.endClosing c).recomputeBlank_quiet.restKept
  rw [State.recomputeBlank_eq] at ran rest
  have crosspoints (t : State) (xps : t.drv.xps = s.drv.xps) (q : Pos) (b : Ant) :
      (t.xp q b).cmd = (s.xp q b).cmd ∧ (t.xp q b).closed = (s.xp q b).closed := by
    rw [State.xp, xps]
    exact ⟨rfl, rfl⟩
  cases closed : (s.xp p a).closed with
  | true =>
    have ends := State.endClosing_closed pos one closed
    have drv : (s.endClosing c).drv = v.drv := by
      rw [ends]
      split
      · rfl
      · exact State.completeHolding_drv v p .main a .switching
    have alloc : (s.endClosing c).alloc = s.alloc := by
      rw [ends]
      split
      · rfl
      · cases f with
        | false => exact (State.completeMain (s := v) main).2.1
        | true => rw [State.completeMain_faulted (s := v) main]; rfl
    refine ⟨_, ran, ?_, crosspoints _ (congrArg Driver.xps drv :), rest, quiet.bands, fun _ => ⟨fun clear whole => ?_, fun bad => ?_,
      (congrArg Driver.inProg drv :), alloc, (congrArg Driver.list drv :), (congrArg Driver.xps drv :), (congrArg Driver.faults drv :)⟩,
      nofun⟩
    · refine State.progress_none.mpr ?_
      change ∀ x ∈ (s.endClosing c).drv.inProg, x.pos ≠ p
      rw [drv]
      exact s.endProgress_idleAt p
    · subst whole
      obtain ⟨hold, -, told⟩ := State.completeMain (s := v) main
      change (s.endClosing c).hold = _ ∧ (_ → _ <+: (s.endClosing c).links[linkOf p].queue)
      rw [ends, if_neg (by simp [-Fin.getElem_fin, clear])]
      exact ⟨hold, told up⟩
    · have still : s.endClosing c = v := by
        rw [ends]
        split
        · rfl
        · next clear =>
          have faulted : f = true := bad.resolve_left clear
          subst faulted
          exact State.completeMain_faulted (s := v) main
      change (s.endClosing c).hold = _ ∧ (s.endClosing c).links = _ ∧ (s.endClosing c).seqs = _
      rw [still]
      exact ⟨rfl, rfl, rfl⟩
  | false =>
    have idle := s.endProgress_idleAt p
    have told := State.relayFault_tells (s := v) (p := p) (a := a) up
    have frame : v.faultFrame p a .closing = noticeFrame p (.fault a (s.xp p a).cmd false .closing) :=
      congrArg (fun b => noticeFrame p (.fault a (s.xp p a).cmd b .closing)) closed
    rw [State.endClosing_open pos one closed] at ran rest quiet
    cases flag : s.drv.faults[a] with
    | true =>
      obtain ⟨only, faults, kept⟩ := State.relayFault_flagged (s := v) (p := p) flag .closing
      refine ⟨_, ran, State.progress_none.mpr (kept p idle), crosspoints _ (congrArg (·.drv.xps) only.eq :), rest, quiet.bands,
        nofun, fun _ => ⟨?_, fun room => frame ▸ told room .closing, fun _ => ⟨(congrArg State.hold only.eq :),
          (congrArg State.alloc only.eq :), (congrArg State.seqs only.eq :)⟩, nofun⟩⟩
      refine faults.trans (Eq.symm ?_)
      rw [← flag]
      exact upd_self _ _
    | false =>
      obtain ⟨w, relay, only, faults, kept, order⟩ := State.relayFault_clear (s := v) (p := p) flag .closing
      have fault : w.drv.faults[a] = true := by rw [faults, upd_get_same]
      have drv : (v.relayFault p a .closing).drv = { w.drv with list := (v.relayFault p a .closing).drv.list } := by
        rw [relay]
        exact w.takeFault_drv a
      obtain ⟨queue, lost, keeps⟩ := State.takeFault_taken fault
      rw [← relay] at queue lost keeps
      have xps : (v.relayFault p a .closing).drv.xps = s.drv.xps :=
        (congrArg Driver.xps drv :).trans (congrArg (·.drv.xps) only.eq :)
      have alloc : w.alloc = s.alloc := (congrArg State.alloc only.eq :)
      have hold : w.hold = s.hold := (congrArg State.hold only.eq :)
      have span : w.inSpan p = s.inSpan p := by
        have seqs : w.seqs = s.seqs := (congrArg State.seqs only.eq :)
        rw [State.inSpan, seqs]
        rfl
      refine ⟨_, ran, State.progress_none.mpr ?_, crosspoints _ xps, rest, quiet.bands, nofun, fun _ =>
        ⟨(congrArg Driver.faults drv :).trans faults, fun room => frame ▸ told room .closing, nofun, fun _ books =>
          ⟨queue, fun out => lost p ?_ (span.trans out), fun inside => keeps p _ o f ?_ (span.trans inside) ?_⟩⟩⟩
      · change ∀ x ∈ (v.relayFault p a .closing).drv.inProg, x.pos ≠ p
        rw [drv]
        exact kept p idle
      · rw [alloc]
        exact (books.1 p a).mpr (congrArg (Option.map fun x : Holding => x.ant) main)
      · rw [alloc]
        exact (books.1 p a).mpr (congrArg (Option.map fun x : Holding => x.ant) main)
      · rw [hold]
        exact main

end Sys2Proof.Machine
end

section
/-! SUPPORT. Allocation at the leaving of TAIL (R70): the work of the deferred marks, and the yield timers taken after it
(R78 to R81). -/

namespace Sys2Proof.Machine

/-! ## Acts of yield expiries -/

/-- The acts of a yield expiry: eligible antennas granted, entries removed, no mark and no entry made (R80, R81). -/
def yielding (s : State) (x : BookAct) : Prop :=
  match x with
  | .main p a _ => s.mainElig a p = true
  | .listen p a _ => s.listenElig a p = true
  | .append _ _ _ _ | .mark _ _ _ => False
  | x => anyAct s x

theorem handing_yielding {s : State} {x : BookAct} (h : handing s x) : yielding s x := by
  cases x with
  | main p a o => exact h.1
  | listen p a o => exact h
  | append a p k o => exact h.elim
  | mark p k m => exact h.elim
  | _ => exact handing_any h

theorem yielding_any {s : State} {x : BookAct} (h : yielding s x) : anyAct s x := by
  cases x with
  | still t => exact h
  | _ => trivial

/-- Every antenna held in a slot of a position is eligible. -/
def State.slotElig (s : State) (p : Pos) (k : Slot) : Prop := ∀ a, s.heldAnt p k = some a → s.elig k a p = true

section Leaving

variable {s t : State} {p : Pos} {k : Slot} {a : Ant}

theorem State.yieldIfDue_yielding (s : State) (a : Ant) : BookRun yielding s (s.yieldIfDue a) := by
  have listens {u : State} {x : BookAct} (h : listening u x) : yielding u x := handing_yielding (listening_handing h)
  unfold State.yieldIfDue State.yieldExpire
  split
  · split
    · next h w _ _ =>
      split
      · next good =>
        have released : BookRun yielding s (s.yielded a h w) :=
          (State.releaseMain_run handing_yielding (by trivial) a _).trans (State.removeEntry_run (by trivial))
        exact released.trans (State.grantMain_run handing_yielding (((released.frame yielding_any).elig .main a w).trans good))
      · exact State.expire_run listens (by trivial) _
    · exact .refl
  · exact .refl

/-- Acts other than marks leave every mark. -/
theorem BookRun.marks {c : State → BookAct → Prop} (run : BookRun c s t) (le : ∀ {u x}, c u x → anyAct u x)
    (no : ∀ {u q j m}, ¬c u (.mark q j m)) (p : Pos) (k : Slot) : t.hold[p].mark k = s.hold[p].mark k := by
  refine run.keeps (P := fun u => u.hold[p].mark k = s.hold[p].mark k) (fun u x hx same => ?_) rfl
  rw [BookAct.apply_mark (le hx)]
  cases x with
  | mark q j m => exact (no hx).elim
  | _ => exact same

theorem BookRun.slotElig (run : BookRun yielding s t) (good : s.slotElig p k) : t.slotElig p k := by
  refine run.keeps (P := fun u => u.slotElig p k) (fun u x hx good => ?_) good
  have any := yielding_any hx
  intro b hb
  rw [BookAct.apply_heldAnt any] at hb
  rw [(BookAct.frame any).elig]
  cases x with
  | main q c o =>
    simp only [BookAct.held] at hb
    split at hb
    · next same => obtain ⟨rfl, rfl⟩ := same; cases hb; exact hx
    · exact good b hb
  | listen q c o =>
    simp only [BookAct.held] at hb
    split at hb
    · next same => obtain ⟨rfl, rfl⟩ := same; cases hb; exact hx
    · exact good b hb
  | drop q j =>
    simp only [BookAct.held] at hb
    split at hb
    · cases hb
    · exact good b hb
  | _ => exact good b hb

/-- Outside key span a good slot holds an eligible antenna. -/
theorem State.slotElig_iff (out : s.inSpan p = false) : s.slotElig p k ↔ s.slotGood p k := by
  refine ⟨fun good a ha => .inl (good a ha), fun good a ha => (good a ha).elim id fun inside => ?_⟩
  rw [out] at inside
  cases inside.1

/-! ## The work of a mark (R70) -/

/-- A slot released, or found good, and followed is good. -/
theorem State.loseIf_followOne_good (out : s.inSpan p = false) (b : Bool) (good : b = false → s.slotGood p k) (c : Cause) :
    ((if b then s.loseFor p k c else s).followOne p k).slotGood p k := by
  have released : (if b then s.loseFor p k c else s).slotGood p k ∧ (if b then s.loseFor p k c else s).inSpan p = false := by
    cases b with
    | true => exact ⟨s.lose_slotGood p k _, ((s.loseFor_frame p k c).inSpan p).trans out⟩
    | false => exact ⟨good rfl, out⟩
  exact ((State.followOne_run released.2 k).mono working_revising).slotGood released.1

/-- The work of a mark leaves its slot good: what is not eligible is released (R70). -/
theorem State.markWork_good (out : s.inSpan p = false) (m : Mark) : (s.markWork p k m).slotGood p k := by
  have eligible := State.slotGood_of_eligible (s := s) (p := p) (k := k)
  cases m with
  | band =>
    simp only [State.markWork, State.bandRelease]
    split
    · exact State.loseIf_followOne_good out (s.slotIneligible p k) eligible .band
    · exact State.loseIf_followOne_good out true nofun .band
  | segment => exact State.loseIf_followOne_good out (s.slotIneligible p k) eligible .segment
  | fault a =>
    exact State.loseIf_followOne_good out (s.heldAnt p k == some a || s.slotIneligible p k)
      (fun h => eligible (Bool.or_eq_false_iff.mp h).2) .fault
  | edit =>
    simp only [State.markWork, State.editWork]
    split
    · exact State.loseIf_followOne_good out true nofun .edit
    · next good => exact eligible (by simpa using good)

/-- The work of a mark other than FAULT leaves a main that is still eligible (R70). -/
theorem State.markWork_stays (held : s.heldAnt p .main = some a) (good : s.mainElig a p = true) {m : Mark}
    (other : ∀ b, m ≠ .fault b) : s.markWork p .main m = s := by
  have eligible : s.slotIneligible p .main = false := by simp [State.slotIneligible, held, State.elig, good]
  have still := State.followSlot_of_held (s := s) (p := p) (k := .main) (by rw [held]; rfl)
  have follows : s.followOne p .main = s := (State.followOne_alone fun k' => by rw [still]).trans still
  have band : (s.bandOf p).isSome = true := by
    cases e : s.bandOf p with
    | none => simp [State.mainElig, State.inSettledSet, e] at good
    | some b => rfl
  cases m with
  | band =>
    change (s.bandRelease p .main).followOne p .main = s
    rw [State.bandRelease, if_pos band, State.recheck_stays eligible, follows]
  | segment =>
    change (s.recheck p .main .segment).followOne p .main = s
    rw [State.recheck_stays eligible, follows]
  | fault b => exact absurd rfl (other b)
  | edit => exact if_neg (by simp [eligible])

theorem State.tailSlotWork_some {m : Mark} (h : s.hold[p].mark k = some m) :
    s.tailSlotWork p k = (s.markWork p k m).mark p k none := by rw [State.tailSlotWork, h]

theorem State.tailSlotWork_none (h : s.hold[p].mark k = none) : s.tailSlotWork p k = s := by rw [State.tailSlotWork, h]

/-- A mark worked off is gone, and its slot holds nothing but an eligible antenna. -/
theorem State.tailSlotWork_done (out : s.inSpan p = false) : (s.tailSlotWork p k).hold[p].mark k = none ∧
    (s.hold[p].mark k ≠ none → (s.tailSlotWork p k).slotElig p k) := by
  cases h : s.hold[p].mark k with
  | none =>
    rw [State.tailSlotWork_none h]
    exact ⟨h, fun some => absurd rfl some⟩
  | some m =>
    have run := State.markWork_run out k m
    have out' := ((run.frame working_any).inSpan p).trans out
    rw [State.tailSlotWork_some h]
    refine ⟨(BookAct.apply_mark (x := .mark p k none) trivial p k).trans (by simp [BookAct.marked]), fun _ b hb => ?_⟩
    rw [State.mark_heldAnt] at hb
    exact ((State.mark_frame _ p k none).elig k b p).trans ((State.slotElig_iff out').mpr (State.markWork_good out m) b hb)

/-- The work of one slot's mark leaves that of the other slot. -/
theorem State.tailSlotWork_otherMark {j : Slot} (out : s.inSpan p = false) (other : j ≠ k) :
    (s.tailSlotWork p j).hold[p].mark k = s.hold[p].mark k := by
  cases h : s.hold[p].mark j with
  | none => rw [State.tailSlotWork_none h]
  | some m =>
    rw [State.tailSlotWork_some h]
    refine (BookAct.apply_mark (x := .mark p j none) trivial p k).trans
      (Eq.trans ?_ ((State.markWork_run out j m).marks working_any id p k))
    simp [-Fin.getElem_fin, BookAct.marked, other.symm]

theorem State.tailSlotWork_slotElig (out : s.inSpan p = false) (j : Slot) (good : s.slotElig p k) :
    (s.tailSlotWork p j).slotElig p k := by
  cases h : s.hold[p].mark j with
  | none => rwa [State.tailSlotWork_none h]
  | some m =>
    have run := State.markWork_run out j m
    have out' := ((run.frame working_any).inSpan p).trans out
    have kept := (run.mono working_revising).slotGood ((State.slotElig_iff out).mp good)
    rw [State.tailSlotWork_some h]
    intro b hb
    rw [State.mark_heldAnt] at hb
    exact ((State.mark_frame _ p j none).elig k b p).trans ((State.slotElig_iff out').mpr kept b hb)

theorem State.tailSlotWork_mainKept (s : State) (p : Pos) : MainKept s (s.tailSlotWork p .listen) := by
  cases h : s.hold[p].mark .listen with
  | none => rw [State.tailSlotWork_none h]; exact .refl s
  | some m =>
    rw [State.tailSlotWork_some h]
    refine (s.markWork_mainKept p m).trans fun q => ?_
    simp only [State.mark, State.setHold_hold, upd_get]
    split
    · next e => subst e; rfl
    · rfl

/-! ## The yield timers of the leaving (R70, R78) -/

/-- What the leaving of a position does for the yield timer of one antenna. -/
def State.leaveStep (p : Pos) (a : Ant) (t : State) : State :=
  if t.yieldConcerns p a then (t.redetermine a).yieldIfDue a else t

/-- The work of the marks of a position and the hand-over of its pending main. -/
def State.leaveWork (s : State) (p : Pos) : State := ((s.tailSlotWork p .main).tailSlotWork p .listen).tailHandOver p

theorem State.allocLeaving_eq (s : State) (p : Pos) : s.allocLeaving p = (s.leaveWork p).each allAnts (State.leaveStep p) := rfl

theorem State.leaveStep_run (p : Pos) (a : Ant) (t : State) : BookRun yielding t (State.leaveStep p a t) := by
  unfold State.leaveStep
  split
  · exact (BookRun.one (c := yielding) (x := .redetermine a) (by trivial)).trans (State.yieldIfDue_yielding _ a)
  · exact .refl

/-- After the leaving no mark is left, and a slot that was marked holds nothing but an eligible antenna. -/
theorem State.allocLeaving_marks (out : s.inSpan p = false) (k : Slot) : (s.allocLeaving p).hold[p].mark k = none ∧
    (s.hold[p].mark k ≠ none → (s.allocLeaving p).slotElig p k) := by
  have out' : (s.tailSlotWork p .main).inSpan p = false := (((State.tailSlotWork_run out .main).frame id).inSpan p).trans out
  have rest : BookRun yielding ((s.tailSlotWork p .main).tailSlotWork p .listen) (s.allocLeaving p) :=
    ((State.tailHandOver_run _ p).mono handing_yielding).trans (BookRun.each allAnts _ fun a t _ _ => State.leaveStep_run p a t)
  obtain ⟨goneMain, goodMain⟩ := State.tailSlotWork_done (k := .main) out
  obtain ⟨goneListen, goodListen⟩ := State.tailSlotWork_done (k := .listen) out'
  rw [rest.marks yielding_any id]
  cases k with
  | main =>
    exact ⟨((State.tailSlotWork_mainKept _ p).mark p).trans goneMain, fun marked =>
      rest.slotElig (State.tailSlotWork_slotElig out' .listen (goodMain marked))⟩
  | listen =>
    refine ⟨goneListen, fun marked => ?_⟩
    rw [← State.tailSlotWork_otherMark (j := .main) out (by decide)] at marked
    exact rest.slotElig (goodListen marked)

end Leaving

end Sys2Proof.Machine
end

section
/-! SUPPORT. Allocation at the leaving of TAIL, continued: the main that stays, and the pending main handed over (R66, R70,
R78). -/

namespace Sys2Proof.Machine

/-! ## Without a yield time -/

section Still

variable {s t : State} {p : Pos} {a : Ant}

/-- With a yield time of 0 no timer runs, so a re-determined one is not due (R77). -/
theorem State.redetermine_notDue (time : s.cfg.station.yieldTime = 0) (a : Ant) : (s.redetermine a).yieldDue a = false := by
  have stopped : (s.redetermine a).alloc[a].yieldT = .stopped := by
    by_contra going
    exact ((s.redetermine_byRule a).1.mp going).1 time
  rw [State.yieldDue, stopped]

/-- The yield timers of a leaving change nothing else with a yield time of 0. -/
theorem State.leaveSteps_still (time : s.cfg.station.yieldTime = 0) (p : Pos) :
    (s.each allAnts (State.leaveStep p)).hold = s.hold ∧ (s.each allAnts (State.leaveStep p)).links = s.links := by
  refine (State.each_keeps (fun t => t.cfg = s.cfg ∧ t.hold = s.hold ∧ t.links = s.links) allAnts _
    (fun a t _ ⟨cfg, same⟩ => ?_) s ⟨rfl, rfl, rfl⟩).2
  unfold State.leaveStep
  split
  · rw [State.yieldIfDue, if_neg (by rw [State.redetermine_notDue (by rw [cfg]; exact time)]; simp)]
    exact ⟨cfg, same⟩
  · exact ⟨cfg, same⟩

theorem State.tailHandOver_none (none : s.hold[p].pendMain = none) : s.tailHandOver p = s := by
  rw [State.tailHandOver, none]

/-- Without marks the work of a leaving is the hand-over of the pending main. -/
theorem State.leaveWork_unmarked (main : s.hold[p].markMain = none) (listen : s.hold[p].markListen = none) :
    s.leaveWork p = s.tailHandOver p := by
  rw [State.leaveWork, State.tailSlotWork_none (k := .main) main, State.tailSlotWork_none (k := .listen) listen]

/-- A leaving with nothing to work off tells nobody (R70). -/
theorem State.allocLeaving_links (main : s.hold[p].markMain = none) (listen : s.hold[p].markListen = none)
    (unasked : s.hold[p].pendMain = none) (time : s.cfg.station.yieldTime = 0) : (s.allocLeaving p).links = s.links := by
  rw [State.allocLeaving_eq, State.leaveWork_unmarked main listen, State.tailHandOver_none unasked]
  exact (State.leaveSteps_still time p).2

/-- A main without a mark, or with one other than FAULT and still eligible, comes through the work of its mark. -/
theorem State.tailSlotWork_stays {h : Holding} (main : s.hold[p].main = some h) (marks : s.hold[p].markMain = none ∨
    ((∀ a, s.hold[p].markMain ≠ some (.fault a)) ∧ s.mainElig h.ant p = true)) :
    (s.tailSlotWork p .main).hold[p].main = some h ∧ (s.tailSlotWork p .main).hold[p].pendMain = s.hold[p].pendMain ∧
      (s.tailSlotWork p .main).cfg = s.cfg := by
  have held : s.heldAnt p .main = some h.ant := congrArg (Option.map fun x : Holding => x.ant) main
  cases mark : s.hold[p].mark .main with
  | none =>
    rw [State.tailSlotWork_none mark]
    exact ⟨main, rfl, rfl⟩
  | some m =>
    have marked : s.hold[p].markMain = some m := mark
    obtain ⟨other, good⟩ := marks.resolve_left (by rw [marked]; nofun)
    rw [State.tailSlotWork_some mark, State.markWork_stays held good fun b e => other b (marked.trans (congrArg some e))]
    simp only [State.mark, State.setHold_hold, upd_get_same]
    exact ⟨main, rfl, rfl⟩

theorem State.allocLeaving_main (time : s.cfg.station.yieldTime = 0) (unasked : s.hold[p].pendMain = none) {h : Holding}
    (main : s.hold[p].main = some h) (marks : s.hold[p].markMain = none ∨
      ((∀ a, s.hold[p].markMain ≠ some (.fault a)) ∧ s.mainElig h.ant p = true)) (out : s.inSpan p = false) :
    (s.allocLeaving p).hold[p].main = some h := by
  obtain ⟨stays, pend, cfg⟩ := State.tailSlotWork_stays main marks
  have out' : (s.tailSlotWork p .main).inSpan p = false := (((State.tailSlotWork_run out .main).frame id).inSpan p).trans out
  have listen := (s.tailSlotWork p .main).tailSlotWork_mainKept p
  have cfg' := ((State.tailSlotWork_run out' .listen).frame id).cfg.trans cfg
  have none : ((s.tailSlotWork p .main).tailSlotWork p .listen).hold[p].pendMain = none :=
    (congrArg (·.2.1) (listen p)).trans (pend.trans unasked)
  rw [State.allocLeaving_eq, State.leaveWork, State.tailHandOver_none none, (State.leaveSteps_still (by rw [cfg']; exact time) p).1]
  exact (listen.main p).trans stays

end Still

/-! ## A main that yield expiries of other antennas leave -/

section Expiries

variable {s t : State} {r : Pos} {a b : Ant} {o : Origin}

/-- A position has an antenna as its main, with an origin, and awaits no other. -/
def State.hasMain (s : State) (r : Pos) (a : Ant) (o : Origin) : Prop :=
  s.hold[r].granted .main = some (a, o) ∧ s.hold[r].pend .main = none

theorem State.hasMain.heldAnt (h : s.hasMain r a o) : s.heldAnt r .main = some a := by
  rw [State.heldAnt_eq_granted, h.1]
  rfl

theorem State.hasMain.of_hold (h : s.hasMain r a o) (same : t.hold[r] = s.hold[r]) : t.hasMain r a o := by
  rw [State.hasMain, same]
  exact h

theorem HandRun.hasMain {k : Slot} (run : HandRun k s t) (hs : s.BooksAgree) (h : s.hasMain r a o) : t.hasMain r a o := by
  obtain ⟨granted, pend⟩ := run.granted_same (i := .main) hs nofun h.2
  exact ⟨granted.trans h.1, pend⟩

theorem State.releaseMain_keeps {p q : Pos} (ne : q ≠ p) (s : State) (a : Ant) (n : Option Notice) :
    KeepsHold id p s (s.releaseMain q a n) :=
  (((s.setHold_keeps q _ fun e => absurd e ne).trans (State.unbookHolder_keeps _ a)).trans (State.handOpening_keeps _ q a)).trans
    (State.notifyOpt_keeps _ q n)

/-- A preemption on another antenna leaves a main. -/
theorem State.preempt_hasMain {h w : Pos} (hs : s.BooksAgree) (holds : s.alloc[b].holder = some h)
    (head : s.headWaiter b = some w) (ne : b ≠ a) (has : s.hasMain r a o) : (s.preempt b h w).hasMain r a o := by
  obtain ⟨o', eq⟩ := s.preempt_eq b h w
  have neH : h ≠ r := by
    rintro rfl
    exact ne (Option.some.inj (((hs.1 h b).mp holds).symm.trans has.heldAnt))
  have neW : w ≠ r := by
    rintro rfl
    have waits := State.headWaiter_pend hs head
    rw [has.2] at waits
    cases waits
  have kept := State.yielded_kept hs holds head
  have granted := State.grantMainBooks_kept (p := w) kept (fun _ => State.yielded_free hs holds) o'
  have same : ((s.yielded b h w).grantMainBooks w b o').hold[r] = s.hold[r] :=
    (((State.releaseMain_keeps neH s b _).trans (State.removeEntry_keeps _ b w .main fun e => absurd e neW)).trans
      (State.grantMainBooks_keeps neW _ b o')).hold
  rw [eq]
  exact (State.grantMain_steps _ w b o').hasMain (granted.books hs) (has.of_hold same)

theorem State.yieldIfDue_hasMain (hs : s.BooksAgree) (ne : b ≠ a) (has : s.hasMain r a o) : (s.yieldIfDue b).hasMain r a o := by
  unfold State.yieldIfDue State.yieldExpire
  split
  · split
    · next h w holds head =>
      split
      · exact State.preempt_hasMain hs holds head ne has
      · refine has.of_hold (s.expire_keeps (v := id) (p := r) b w .main _ ?_).hold
        rintro rfl
        have waits := State.headWaiter_pend hs head
        rw [has.2] at waits
        cases waits
    · exact has
  · exact has

/-- The yield timers of a leaving leave a main whose own timer is not due. -/
theorem State.leaveSteps_hasMain (hs : s.BooksAgree) (quiet : s.yieldQuiet a) (has : s.hasMain r a o) (p : Pos) :
    (s.each allAnts (State.leaveStep p)).BooksAgree ∧ (s.each allAnts (State.leaveStep p)).hasMain r a o := by
  have all := State.each_keeps (fun t => t.BooksAgree ∧ t.yieldQuiet a ∧ t.hasMain r a o) allAnts (State.leaveStep p)
    (fun b t _ ⟨ht, quiet, has⟩ => ?_) s ⟨hs, quiet, has⟩
  · exact ⟨all.1, all.2.2⟩
  · have quiet' := ((State.leaveStep_run p b t).mono yielding_any).yieldQuiet quiet
    refine ⟨?_, quiet', ?_⟩
    all_goals
      unfold State.leaveStep
      split
    · exact (State.yieldIfDue_kept _ b).books ((t.redetermine_kept b).books ht)
    · exact ht
    · by_cases same : b = a
      · subst same
        have notDue := (quiet.redetermined (t := t) rfl rfl (fun _ => rfl) rfl).2
        rw [State.yieldIfDue, if_neg (by rw [notDue]; simp)]
        exact has
      · exact State.yieldIfDue_hasMain ((t.redetermine_kept b).books ht) same has
    · exact has

end Expiries

/-! ## The pending main handed over -/

section HandOver

variable {s t : State} {p : Pos} {a : Ant} {k : Slot} {e : WaitEntry}

theorem HandStep.bookRun {j : Slot} (h : HandStep s j t) : BookRun anyAct s t := by
  have any {u : State} {x : BookAct} (hx : handing u x) : anyAct u x := handing_any hx
  have listens {u : State} {x : BookAct} (hx : listening u x) : anyAct u x := any (listening_handing hx)
  have removed (b : Ant) (q : Pos) (i : Slot) : BookRun anyAct s (s.removeEntry b q i) := State.removeEntry_run (by trivial)
  cases h with
  | expire _ => exact State.expire_run listens (by trivial) _
  | @listen b e _ _ good _ =>
    have good' := ((s.removeEntry_frame b e.pos .listen).elig .listen b e.pos).trans good
    exact (removed b e.pos .listen).trans ((State.grantListenBooks_run good' e.origin).mono listens)
  | @main b e _ _ _ _ => exact (removed b e.pos .main).trans (State.grantMainBooks_run any (by trivial))

theorem HandRun.bookRun (run : HandRun k s t) : BookRun anyAct s t :=
  run.keeps (P := fun u => BookRun anyAct s u) (fun _ _ _ _ step ih => ih.trans step.bookRun) .refl

/-- An entry removed from the queue of a free antenna stops its timer. -/
theorem State.removeEntry_yieldQuiet (free : s.alloc[a].holder = none) (q : Pos) : (s.removeEntry a q .main).yieldQuiet a := by
  refine ⟨State.redetermine_byRule _ a, Bool.eq_false_iff.mpr fun due => ?_⟩
  obtain ⟨h, -, holder, -⟩ := State.redetermine_due due
  rw [State.setAlloc_alloc, upd_get_same] at holder
  change s.alloc[a].holder = some h at holder
  rw [free] at holder
  cases holder

/-- A free antenna handed over goes to the first waiter that may be granted, whose main its timer then leaves. -/
theorem State.handMain_first (hs : s.BooksAgree) (free : s.alloc[a].holder = none)
    (found : (s.arbitration a .main).find? (s.mayGrant a .main) = some e) :
    (State.handMain a s).BooksAgree ∧ (State.handMain a s).yieldQuiet a ∧ (State.handMain a s).hasMain e.pos a e.origin := by
  obtain ⟨v, run, waits, open_, may, rest⟩ := (State.handSlot_handsOver (k := .main) free).serves e found
  have granted := rest.entryGranted (run.kept.books hs) waits open_ may
  have books : BookRun anyAct (v.removeEntry a e.pos .main) (State.handMain a s) :=
    (State.grantMainBooks_run handing_any (by trivial)).trans rest.bookRun
  exact ⟨granted.books, books.yieldQuiet (State.removeEntry_yieldQuiet open_ e.pos), granted.granted, granted.pend⟩

/-- The pending main of a leaving position that waits for a free antenna is handed over, and stays where it went (R70). -/
theorem State.allocLeaving_handsOver (hs : s.BooksAgree) (main : s.hold[p].markMain = none) (listen : s.hold[p].markListen = none)
    (pend : s.hold[p].pendMain = some a) (free : s.alloc[a].holder = none)
    (found : (s.arbitration a .main).find? (s.mayGrant a .main) = some e) :
    (s.allocLeaving p).BooksAgree ∧ (s.allocLeaving p).hasMain e.pos a e.origin := by
  obtain ⟨books, quiet, has⟩ := State.handMain_first hs free found
  have hands : s.tailHandOver p = State.handMain a s := by
    rw [State.tailHandOver, pend]
    exact if_pos (by simp [-Fin.getElem_fin, free])
  rw [State.allocLeaving_eq, State.leaveWork_unmarked main listen, hands]
  exact State.leaveSteps_hasMain books quiet has p

end HandOver

end Sys2Proof.Machine
end

section
/-! SUPPORT. TAIL_END (R70, R118, R125, R135, R156). -/

namespace Sys2Proof.Machine

section Leave

variable {s t : State} {p : Pos}

theorem LinksGrow.parts (h : LinksGrow s t) : t.drv = s.drv ∧ t.hold = s.hold ∧ t.alloc = s.alloc := by
  rw [h.eq]
  exact ⟨rfl, rfl, rfl⟩

/-- What the end of a key span leaves of the driver beside the pending list and a filter, and the books, which are those
that allocation leaves. -/
theorem State.leaving_parts (s : State) (p : Pos) :
    (s.leaving p).drv.xps = s.drv.xps ∧ (s.leaving p).drv.inProg = s.drv.inProg ∧
      (s.leaving p).hold = ((s.setSpan p none).allocLeaving p).hold ∧
      (s.leaving p).alloc = ((s.setSpan p none).allocLeaving p).alloc ∧
      (s.leaving p).links = ((s.setSpan p none).allocLeaving p).links := by
  have drv := ((s.setSpan p none).allocLeaving_frame p).drv
  unfold State.leaving
  generalize (s.setSpan p none).allocLeaving p = u at drv ⊢
  have kept : (u.beginPending p).drv.xps = u.drv.xps ∧ (u.beginPending p).drv.inProg = u.drv.inProg ∧
      (u.beginPending p).hold = u.hold ∧ (u.beginPending p).alloc = u.alloc ∧ (u.beginPending p).links = u.links := by
    unfold State.beginPending
    split <;> exact ⟨rfl, rfl, rfl, rfl, rfl⟩
  obtain ⟨xps, inProg, books⟩ := kept
  rw [State.recomputeBlank_eq]
  exact ⟨xps.trans (by rw [drv]; rfl), inProg.trans (by rw [drv]; rfl), books⟩

theorem State.endSpan_parts (s : State) (p : Pos) (c : EndCause) (kt : Nat) (q : SeqState) :
    (s.endSpan p c kt q).drv.xps = s.drv.xps ∧ (s.endSpan p c kt q).drv.inProg = s.drv.inProg ∧
      (s.endSpan p c kt q).hold = (((s.enter p q).setSpan p none).allocLeaving p).hold ∧
      (s.endSpan p c kt q).alloc = (((s.enter p q).setSpan p none).allocLeaving p).alloc := by
  obtain ⟨drv, hold, alloc⟩ := (s.endSpan_grow p c kt q).parts
  obtain ⟨xps, inProg, hold', alloc', -⟩ := (s.enter p q).leaving_parts p
  have entered : (s.enter p q).drv = s.drv := by rw [State.enter, State.setOut_drv, State.setSeq_drv]
  rw [drv, hold, alloc, xps, inProg, hold', alloc', entered]
  exact ⟨rfl, rfl, rfl, rfl⟩

/-- No pair has a source outside key span (R156). -/
theorem State.Blanked.sourceless (blanked : s.Blanked) (out : s.inSpan p = false) (v : Pos) :
    s.prot[v].harmonic.getLsbD p.val = false ∧ s.prot[v].coupled.getLsbD p.val = false ∧
      s.prot[v].shared.getLsbD p.val = false := by
  have pairless : s.mayPair p v = false := by simp [State.mayPair, out]
  obtain ⟨harmonic, coupled, shared⟩ := blanked.1 v p
  refine ⟨Bool.eq_false_iff.mpr fun h => ?_, Bool.eq_false_iff.mpr fun h => ?_, Bool.eq_false_iff.mpr fun h => ?_⟩
  · have due := harmonic.mp h
    simp [State.harmonicDue, pairless] at due
  · have due := coupled.mp h
    simp [State.coupledDue, pairless] at due
  · have due := shared.mp h
    simp [State.sharedDue, pairless] at due

/-- The state chosen at the end of TAIL (R125). -/
theorem State.afterTail_eq (s : State) (p : Pos) (pend : Option LockCause) : s.afterTail p pend = (match pend with
    | some x => .lockout x
    | none => if s.sam.pos[p].rfs.accepted = .active then .lockout .rfHang
      else if s.sam.pos[p].ptt.accepted = .active then .denied else .idle) := by
  cases pend with
  | some x => rfl
  | none => exact s.afterTail_none p

/-- Whom an antenna may be granted to is read alike once a position has left key span, whatever state it has gone to. -/
theorem State.found_after {q : SeqState} (out : q.inSpan = false) {a : Ant} {e : WaitEntry}
    (first : (s.setSeq p .idle).FirstInLine a .main e) : (((s.enter p q).setSpan p none).arbitration a .main).find?
      (((s.enter p q).setSpan p none).mayGrant a .main) = some e := by
  have same : ((s.enter p q).setSpan p none).mayGrant a .main = (s.setSeq p .idle).mayGrant a .main := by
    funext x
    refine congrArg (!· && s.mainElig a x.pos) ?_
    change (upd s.seqs p q)[x.pos].inSpan = (upd s.seqs p .idle)[x.pos].inSpan
    rw [upd_get, upd_get]
    split
    · exact out
    · rfl
  rw [same]
  exact first.find?

end Leave

/-- Settles O37: the end of TAIL enters the state chosen, leaves key span in every block, and tells its position last. -/
theorem tailEndChoosesState : Obligations.TailEndChoosesState := by
  intro s p c pend kt since powered tail due
  let q := s.afterTail p pend
  let v := s.enter p q
  let x := v.setSpan p none
  let t := s.endSpan p (.tail c) kt q
  have out : q.inSpan = false := s.afterTail_inSpan p pend
  have ran : exec (.tailEnd p) s = .next t := by
    rw [show exec (.tailEnd p) s = whenPowered s fun s => s.tailLimit p from rfl, whenPowered_on powered, State.tailLimit, tail]
    exact congrArg _ (if_pos due)
  have left := s.endSpan_leftSpan p (.tail c) kt (q := q) fun n e => by rw [e] at out; cases out
  have quiet := (s.enter_quiet p q).trans (State.leaving_quiet v p)
  have whole := s.endSpan_quiet p (.tail c) kt q
  obtain ⟨xps, inProg, hold, alloc⟩ := s.endSpan_parts p (.tail c) kt q
  have seq : t.seqs[p] = q := left.seq.trans (s.enter_seq p q)
  have outs : ∃ b, t.outs[p] = ⟨false, false, true, b⟩ := by
    obtain ⟨b, h⟩ := left.outs
    refine ⟨b, h.trans ?_⟩
    rw [State.enter_out, State.afterTail_outputs]
  have spanless : x.inSpan p = false := (congrArg SeqState.inSpan (s.enter_seq p q)).trans out
  have spanless' : t.inSpan p = false := (left.inSpan p).trans spanless
  have elig (k : Slot) (b : Ant) : (x.allocLeaving p).elig k b p = s.elig k b p := (x.allocLeaving_frame p).elig k b p
  obtain ⟨b, outs⟩ := outs
  refine ⟨t, ran, left.spans, by rw [outs], by rw [outs], by rw [outs], seq.trans (s.afterTail_eq p pend), whole.restKept,
    whole.bands, whole.sam, xps, inProg, fun r ne => (left.inSpan r).trans (s.enter_inSpan_ne q ne),
    whole.flags, left.blanked, left.blanked.sourceless spanless', ⟨v.leaving p, quiet.restKept, ?_, ?_⟩, fun books => ?_⟩
  · rw [seq]
    change (State.lockNotice ((v.leaving p).notify p (.keyEnded (.tail c) kt q)) p q).links = _
    unfold State.lockNotice
    cases q <;> rfl
  · intro main listen unasked time
    obtain ⟨-, -, -, -, links⟩ := v.leaving_parts p
    exact links.trans (State.allocLeaving_links (s := x) main listen unasked time)
  · have heldAnt (r : Pos) (k : Slot) : t.heldAnt r k = (x.allocLeaving p).heldAnt r k := by
      rw [State.heldAnt, hold]
      rfl
    have marks (k : Slot) := State.allocLeaving_marks (s := x) (p := p) spanless k
    rw [hold, alloc]
    refine ⟨(marks .main).1, (marks .listen).1, fun k m a marked held bad still => ?_, fun time unasked h main marks => ?_,
      fun main listen a e waits free first => ?_⟩
    · have good := (marks k).2 (by rw [show x.hold[p].mark k = some m from marked]; nofun) a ((heldAnt p k).symm.trans still)
      rw [elig, bad] at good
      cases good
    · exact State.allocLeaving_main (s := x) time unasked main marks spanless
    · have agree : x.BooksAgree := books
      obtain ⟨after, has⟩ := State.allocLeaving_handsOver (s := x) agree main listen waits free (State.found_after out first)
      exact ⟨(after.1 e.pos a).mpr has.heldAnt, has.1⟩

end Sys2Proof.Machine
end

section
/-! SUPPORT. The expiry of a wait entry (R75): what it removes from the queue and from the holding record, and that it
leaves the records of every other antenna. -/

namespace Sys2Proof.Machine

/-! ## An entry expired -/

section Expiry

variable (s : State) (a : Ant) (p : Pos) (k : Slot) (c : Cause)

theorem State.expire_waitsOn : (s.expire a p k c).waitsOn p k a = false := by
  rw [State.waitsOn, State.expire_queue, List.any_filter]
  exact List.any_eq_false.mpr fun e _ => by cases e.pos == p && e.kind == k <;> simp

theorem State.removeEntry_hold : (s.removeEntry a p k).hold = upd s.hold p (s.hold[p].setPend k none) := rfl

theorem State.expire_pend : (s.expire a p k c).hold[p].pend k = none := by
  rw [State.expire, (State.notify_grow _ p _).same.pend, State.removeEntry_hold, upd_get_same, HoldRecord.setPend_pend,
    if_pos rfl]

/-- No holding depends on the pending requests. -/
theorem State.expire_holding (q : Pos) (j : Slot) :
    (s.expire a p k c).hold[q].holding j = s.hold[q].holding j :=
  (s.expire_keeps (v := (·.holding j)) (p := q) a p k c fun e => by rw [e, HoldRecord.setPend_holding]).hold

theorem State.removeEntry_alloc_ne {b : Ant} (ne : b ≠ a) : (s.removeEntry a p k).alloc[b] = s.alloc[b] := by
  rw [State.removeEntry, State.redetermine, State.setAlloc_alloc, upd_get_ne _ _ ne.symm, State.setAlloc_alloc,
    upd_get_ne _ _ ne.symm, State.setHold_alloc]

theorem State.expire_alloc_ne {b : Ant} (ne : b ≠ a) : (s.expire a p k c).alloc[b] = s.alloc[b] := by
  rw [State.expire, (State.notify_grow _ p _).same.alloc, State.removeEntry_alloc_ne s a p k ne]

theorem State.expire_links : (s.expire a p k c).links = (s.notify p (.expired k a c)).links :=
  State.notify_links_congr (s := s) (t := s.removeEntry a p k) rfl rfl rfl p _

end Expiry

/-! ## WAIT_EXPIRY (R75) -/

/-- The position's entry in the queue expires once its wait timer has reached the wait limit. -/
theorem exec_waitExpiry {s : State} {a : Ant} {p : Pos} {e : WaitEntry} (powered : s.powered = true)
    (found : (s.alloc[a].queue.find? fun y => y.pos == p) = some e) (due : s.waitDue e = true) :
    exec (.waitExpiry a p) s = .next (s.expire a p e.kind .wait) := by
  rw [show exec (.waitExpiry a p) s = execWaitExpiry a p s from rfl, execWaitExpiry, whenPowered_on powered, found]
  exact congrArg _ (if_pos due)

theorem State.waitDue_iff (s : State) (e : WaitEntry) : s.waitDue e = true ↔
    s.cfg.station.waitLimit ≠ 0 ∧ e.since + s.cfg.station.waitLimit * 1000 ≤ s.now := by
  simp [State.waitDue]

/-- Settles O22: the entry found is due, and its expiry removes it from both books, tells its position, and touches no
holder, listener or other antenna. -/
theorem waitExpiryRemovesEntry : Obligations.WaitExpiryRemovesEntry := by
  intro s a p e powered found limited reached
  have frame := s.expire_frame a p e.kind .wait
  refine ⟨_, exec_waitExpiry powered found ((s.waitDue_iff e).mpr ⟨limited, reached⟩), s.expire_waitsOn a p e.kind .wait,
    s.expire_pend a p e.kind .wait, s.expire_links a p e.kind .wait, fun q => ⟨?main, ?listen⟩, fun c => ?records,
    frame.restKept, frame.bands, ?drv, (s.expire_seqs p a e.kind .wait).1⟩
  case main => exact s.expire_holding a p e.kind .wait q .main
  case listen => exact s.expire_holding a p e.kind .wait q .listen
  case records =>
    obtain ⟨holder, listeners⟩ := s.expire_lists a p e.kind .wait c
    exact ⟨holder, listeners, s.expire_alloc_ne a p e.kind .wait⟩
  case drv => exact State.notify_drv (s.removeEntry a p e.kind) p _

end Sys2Proof.Machine
end

section
/-! SUPPORT. The pending list and a faulted antenna (R103, R110): the work of allocation lists no closing on it, and leaves the
openings of its crosspoints listed. -/

namespace Sys2Proof.Machine

/-! ## Openings alone -/

/-- The pending list is to close no crosspoint of an antenna. -/
def State.ClosesNone (s : State) (a : Ant) : Prop :=
  ∀ (q : Pos) (y : Target), Listed s.drv.list q y → y.ant = a → y.goal = .opened

/-- In a list in order, a position's crosspoint on an antenna is listed for OPEN and would stand closed without. -/
structure State.Opens (s : State) (a : Ant) (q : Pos) : Prop where
  entries : EntriesOk s.drv.list
  closed : s.futureXp q a ≠ .opened
  listed : s.listed q a = some .opened

/-- From `s` to `t` nothing but openings of an antenna's crosspoints has joined the pending list, and none has left it. -/
structure OnlyOpens (a : Ant) (s t : State) : Prop where
  frame : AllocFrame s t
  closes : s.ClosesNone a → t.ClosesNone a
  opens : ∀ q, s.Opens a q → t.Opens a q

namespace OnlyOpens

variable {s t u : State} {a : Ant}

theorem refl (a : Ant) (s : State) : OnlyOpens a s s := ⟨.refl s, id, fun _ => id⟩

theorem trans (h : OnlyOpens a s t) (k : OnlyOpens a t u) : OnlyOpens a s u :=
  ⟨h.frame.trans k.frame, fun c => k.closes (h.closes c), fun q o => k.opens q (h.opens q o)⟩

theorem of_drv (frame : AllocFrame s t) (drv : t.drv = s.drv) : OnlyOpens a s t := by
  refine ⟨frame, fun c => ?_, fun q ⟨entries, closed, listed⟩ => ⟨?_, ?_, (State.listed_of_drv drv q a).trans listed⟩⟩
  · rwa [State.ClosesNone, drv]
  · rwa [drv]
  · rwa [frame.futureXp]

end OnlyOpens

section Lists

variable {s t : State} {a : Ant}

theorem State.listPut_onlyOpens (s : State) (p : Pos) {x : Target} (h : x.ant = a → x.goal = .opened) :
    OnlyOpens a s (s.listPut p x) := by
  refine ⟨s.listPut_frame p x, fun none q y hy ant => ?_, fun q ⟨entries, closed, listed⟩ => ⟨?_, ?_, ?_⟩⟩
  · rw [State.listPut_eq] at hy
    rcases listed_putEntry.mp hy with ⟨-, rfl⟩ | ⟨-, hy⟩
    · exact h ant
    · exact none q y hy ant
  · rw [State.listPut_eq]
    exact entries.put p x
  · rwa [(s.listPut_frame p x).futureXp]
  · rw [State.listPut_listed entries]
    split
    · next here => rw [h here.2.symm]
    · exact listed

theorem State.listRemove_onlyOpens (s : State) (p : Pos) {b : Ant} (h : b = a → s.futureXp p a = .opened) :
    OnlyOpens a s (s.listRemove p b) := by
  refine ⟨s.listRemove_frame p b, fun none q y hy => ?_, fun q ⟨entries, closed, listed⟩ => ⟨entries.drop _, ?_, ?_⟩⟩
  · obtain ⟨e, he, pos, hy, -⟩ := listed_dropTargets.mp hy
    exact none q y ⟨e, he, pos, hy⟩
  · rwa [(s.listRemove_frame p b).futureXp]
  · rw [State.listRemove_listed entries]
    split
    · next here =>
      obtain ⟨rfl, rfl⟩ := here
      exact absurd (h rfl) closed
    · exact listed

/-- A change set that would close no crosspoint of the antenna joins the list. -/
theorem State.addTargets_onlyOpens (s : State) (p : Pos) {ts : List Target} (h : ∀ x ∈ ts, x.ant = a → x.goal = .opened) :
    OnlyOpens a s (s.addTargets p ts) := by
  refine State.each_keeps (OnlyOpens a s) _ _ (fun x t _ ht =>
    ht.trans (.of_drv (t.reportAlready_frame p x) (t.reportAlready_drv p x))) _ ?_
  refine State.each_keeps (OnlyOpens a s) _ _ (fun x t hx ht => ht.trans (t.listRemove_onlyOpens p fun ant => ?_)) _ ?_
  · obtain ⟨mem, done⟩ := List.mem_filter.mp hx
    rw [ht.frame.futureXp, ← ant, ← h x mem ant]
    exact beq_iff_eq.mp done
  · exact State.each_keeps (OnlyOpens a s) _ _ (fun x t hx ht =>
      ht.trans (t.listPut_onlyOpens p (h x (List.mem_of_mem_filter hx)))) _ (.refl a s)

theorem State.handChangeSet_onlyOpens (s : State) (p : Pos) {ts : List Target}
    (h : ∀ x ∈ ts, x.ant = a → x.goal = .opened) : OnlyOpens a s (s.handChangeSet p ts) := by
  unfold State.handChangeSet
  split
  · exact .refl a s
  · exact s.addTargets_onlyOpens p h

/-- The change set of a grant of another antenna. -/
theorem grantTargets_opens {b : Ant} (ne : b ≠ a) (g : XpState) (old : Option Ant) :
    ∀ x ∈ grantTargets b g old, x.ant = a → x.goal = .opened := by
  intro x hx ant
  rcases mem_grantTargets.mp hx with rfl | ⟨m, -, rfl⟩
  · exact absurd ant ne
  · rfl

theorem State.grantMainBooks_onlyOpens (s : State) (p : Pos) {b : Ant} (ne : b ≠ a) (o : Origin) :
    OnlyOpens a s (s.grantMainBooks p b o) := by
  rw [State.grantMainBooks_handed]
  exact (OnlyOpens.of_drv (s.grantMainBooked_frame p b o) (s.grantMainBooked_drv p b o)).trans
    (State.handChangeSet_onlyOpens _ p (grantTargets_opens ne _ _))

theorem State.grantListenBooks_onlyOpens (s : State) (p : Pos) {b : Ant} (ne : b ≠ a) (o : Origin) :
    OnlyOpens a s (s.grantListenBooks p b o) := by
  rw [State.grantListenBooks_handed]
  exact (OnlyOpens.of_drv (s.grantListenBooked_frame p b o) (s.grantListenBooked_drv p b o)).trans
    (State.handChangeSet_onlyOpens _ p (grantTargets_opens ne _ _))

theorem State.releaseSlot_onlyOpens (s : State) (p : Pos) (k : Slot) (b : Ant) (n : Option Notice) :
    OnlyOpens a s (s.releaseSlot p k b n) := by
  have told (u : State) : OnlyOpens a u ((u.handChangeSet p [⟨b, .opened⟩]).notifyOpt p n) := by
    refine (u.handChangeSet_onlyOpens p fun x hx _ => by rw [List.mem_singleton.mp hx]).trans
      (.of_drv (State.notifyOpt_frame _ p n) ?_)
    cases n with
    | none => rfl
    | some x => exact State.notify_drv _ p x
  cases k with
  | main => exact (OnlyOpens.of_drv (s.unbookMain_frame p b) rfl).trans (told _)
  | listen => exact (OnlyOpens.of_drv (s.unbookListen_frame p b) rfl).trans (told _)

/-! ## The work of allocation -/

/-- An eligible antenna is not the faulted one. -/
theorem State.ne_of_elig (fault : s.drv.faults[a] = true) {k : Slot} {b : Ant} {p : Pos} (good : s.elig k b p = true) :
    b ≠ a := by
  rintro rfl
  rw [State.elig_of_fault fault] at good
  cases good

theorem HandStep.onlyOpens {j : Slot} (h : HandStep s j t) (fault : s.drv.faults[a] = true) : OnlyOpens a s t := by
  have removed (b : Ant) (q : Pos) (k : Slot) : OnlyOpens a s (s.removeEntry b q k) :=
    .of_drv (s.removeEntry_frame b q k) rfl
  cases h with
  | expire _ => exact .of_drv (s.expire_frame _ _ _ _) (State.notify_drv _ _ _)
  | @listen b e _ _ good _ =>
    exact (removed b e.pos .listen).trans
      (State.grantListenBooks_onlyOpens _ e.pos (State.ne_of_elig (k := .listen) fault good) _)
  | @main b e _ _ good _ =>
    exact (removed b e.pos .main).trans (State.grantMainBooks_onlyOpens _ e.pos (State.ne_of_elig (k := .main) fault good) _)

theorem HandRun.onlyOpens {k : Slot} (run : HandRun k s t) (fault : s.drv.faults[a] = true) : OnlyOpens a s t :=
  run.keeps (P := OnlyOpens a s) (fun _ _ _ _ step ih => ih.trans (step.onlyOpens (ih.frame.fault fault))) (.refl a s)

/-- A queue pass touches neither the driver nor what other positions hold and await. -/
theorem State.queuePass_local (s : State) (p : Pos) (k : Slot) (b : Band) :
    (s.queuePass p k b).drv = s.drv ∧ ∀ q, q ≠ p → (s.queuePass p k b).hold[q] = s.hold[q] := by
  cases found : (s.prefList p b k).find? fun a => s.candidate k p a && s.mayQueue k p a with
  | none =>
    have told := s.notify_grow p (.followNone k b (s.bands[p].settled (sideOf k)))
    rw [State.queuePass_none found, told.eq]
    exact ⟨rfl, fun _ _ => rfl⟩
  | some c =>
    obtain ⟨al, withdrawn, -⟩ := s.withdraw_eq p k
    rw [State.queuePass_some found, withdrawn]
    exact ⟨rfl, fun q ne => (upd_get_ne _ _ ne.symm).trans (upd_get_ne _ _ ne.symm)⟩

theorem State.followGrant_onlyOpens (fault : s.drv.faults[a] = true) (p : Pos) (k : Slot) {b : Ant}
    (good : s.candidate k p b = true) : OnlyOpens a s (s.followGrant p k b) := by
  have ne := State.ne_of_elig fault (State.candidate_elig good)
  cases k with
  | main =>
    have booked := s.grantMainBooks_onlyOpens p ne .follow
    exact booked.trans ((s.grantMain_steps p b .follow).onlyOpens (booked.frame.fault fault))
  | listen =>
    have booked := s.grantListenBooks_onlyOpens p ne .follow
    exact booked.trans ((s.grantListen_steps p b .follow).onlyOpens (booked.frame.fault fault))

theorem State.followSlot_onlyOpens (fault : s.drv.faults[a] = true) (p : Pos) (k : Slot) :
    OnlyOpens a s (s.followSlot p k) := by
  have frame := s.followSlot_frame p k
  rcases s.followSlot_acts p k with e | ⟨-, b, -, ⟨c, -, good, -, e⟩ | ⟨-, e⟩⟩ <;> rw [e] at frame ⊢
  · exact .refl a s
  · exact State.followGrant_onlyOpens fault p k good
  · exact .of_drv frame (s.queuePass_local p k b).1

theorem State.followOne_onlyOpens (fault : s.drv.faults[a] = true) (p : Pos) (k : Slot) :
    OnlyOpens a s (s.followOne p k) := by
  cases k with
  | listen => exact State.followSlot_onlyOpens fault p .listen
  | main =>
    have main := State.followSlot_onlyOpens fault p .main
    unfold State.followOne State.followMain
    dsimp only
    split
    · exact main.trans (State.followSlot_onlyOpens (main.frame.fault fault) p .listen)
    · exact main

theorem State.lose_onlyOpens (fault : s.drv.faults[a] = true) (p : Pos) (k : Slot) (n : Ant → Option Notice) :
    OnlyOpens a s (s.lose p k n) := by
  cases held : s.heldAnt p k with
  | none => rw [State.lose, held]; exact .refl a s
  | some b =>
    have released : OnlyOpens a s (s.releaseSlot p k b (n b)) := s.releaseSlot_onlyOpens p k b (n b)
    rw [State.lose_of_held held]
    exact released.trans ((State.handSlot_steps _ k b).onlyOpens (released.frame.fault fault))

theorem State.faultWork_onlyOpens (fault : s.drv.faults[a] = true) (p : Pos) (k : Slot) (b : Ant) :
    OnlyOpens a s (s.faultWork p k b) := by
  have lost : OnlyOpens a s (if s.heldAnt p k == some b || s.slotIneligible p k then s.loseFor p k .fault else s) := by
    split
    · exact State.lose_onlyOpens fault p k _
    · exact .refl a s
  exact lost.trans (State.followOne_onlyOpens (lost.frame.fault fault) p k)

theorem State.faultLoss_onlyOpens (fault : s.drv.faults[a] = true) (p : Pos) (k : Slot) :
    OnlyOpens a s (s.faultLoss p k a) := by
  unfold State.faultLoss
  split
  · split
    · exact .of_drv ((s.mark_frame p k _).trans (State.keepFaulted_frame _ p k)) rfl
    · exact State.faultWork_onlyOpens fault p k a
  · exact .refl a s

theorem State.faultMain_onlyOpens (fault : s.drv.faults[a] = true) : OnlyOpens a s (s.faultMain a) := by
  cases holds : s.alloc[a].holder with
  | none => rw [State.faultMain, holds]; exact .refl a s
  | some h => rw [State.faultMain_eq holds]; exact State.faultLoss_onlyOpens fault h .main

end Lists

/-! ## The driver's part of a fault (R110) -/

section Driver

variable (s : State) (a : Ant)

theorem State.dropClosings_closesNone : (s.dropClosings a).ClosesNone a := by
  intro q y hy ant
  obtain ⟨e, -, -, -, stays⟩ := listed_dropTargets (f := fun _ x => x.ant == a && x.closes).mp hy
  simpa [ant, Target.closes] using stays

/-- The fault opening of one position's crosspoint (R110). -/
def State.faultOpen (a : Ant) (q : Pos) (t : State) : State :=
  if (t.xp q a).cmd != .opened then t.addTargets q [⟨a, .opened⟩] else t

theorem State.faultOpening_eq : s.faultOpening a = s.each allPos (State.faultOpen a) := rfl

theorem State.faultOpen_onlyOpens (q : Pos) : OnlyOpens a s (State.faultOpen a q s) := by
  unfold State.faultOpen
  split
  · exact s.addTargets_onlyOpens q fun x hx _ => by rw [List.mem_singleton.mp hx]
  · exact .refl a s

theorem State.faultOpen_kept (q : Pos) : OrderKept s (State.faultOpen a q s) := by
  unfold State.faultOpen
  split
  · exact s.addTargets_kept q _
  · exact .refl s

variable {s a} in
/-- A crosspoint that would stay closed is listed for OPEN. -/
theorem State.faultOpen_opens (order : s.ListOrder) {q : Pos} (closed : s.futureXp q a ≠ .opened)
    (cmd : (s.xp q a).cmd ≠ .opened) : (State.faultOpen a q s).Opens a q := by
  have listed := (State.addTargets_listed (p := q) (ts := [⟨a, .opened⟩]) order (by simp)).1 _ (List.mem_singleton_self _)
  rw [if_neg closed] at listed
  refine ⟨((State.listOrder_iff _).mp ((s.faultOpen_kept a q).list order)).1, ?_, ?_⟩
  · rwa [(s.faultOpen_onlyOpens a q).frame.futureXp]
  · rwa [State.faultOpen, if_pos (by simpa using cmd)]

/-- The fault opening lists every crosspoint of the antenna that would stay closed for OPEN, and lists no closing. -/
theorem State.faultOpening_opens (none : s.ClosesNone a) : (s.faultOpening a).ClosesNone a ∧
    (s.ListOrder → ∀ q, s.futureXp q a ≠ .opened → (s.xp q a).cmd ≠ .opened → (s.faultOpening a).Opens a q) := by
  rw [State.faultOpening_eq]
  refine ⟨State.each_keeps (State.ClosesNone · a) _ _ (fun q t _ h => (t.faultOpen_onlyOpens a q).closes h) s none,
    fun order q closed cmd => ?_⟩
  refine (State.each_gives (inv := fun t => AllocFrame s t ∧ t.ListOrder)
    (P := fun q t => s.futureXp q a ≠ .opened → (s.xp q a).cmd ≠ .opened → t.Opens a q) allPos (State.faultOpen a)
    (fun q t h => ⟨h.1.trans (t.faultOpen_onlyOpens a q).frame, (t.faultOpen_kept a q).list h.2⟩)
    (fun q t ⟨frame, order⟩ closed cmd => State.faultOpen_opens order ?_ ?_)
    (fun q r t _ h closed cmd => (t.faultOpen_onlyOpens a q).opens r (h closed cmd)) ⟨.refl s, order⟩).2 q
    (mem_allPos q) closed cmd
  · rwa [frame.futureXp]
  · rw [State.xp, frame.drv]
    exact cmd

/-- Once the driver has done its part, the list closes no crosspoint of the antenna, and opens each that no other work will
open (R110). -/
theorem State.faultDriver_opens : ((s.dropClosings a).faultOpening a).ClosesNone a ∧
    (s.ListOrder → s.drv.release = .none → ∀ q, (s.xp q a).cmd ≠ .opened → s.progress q = none →
      ((s.dropClosings a).faultOpening a).Opens a q) := by
  obtain ⟨closes, opens⟩ := (s.dropClosings a).faultOpening_opens a (s.dropClosings_closesNone a)
  refine ⟨closes, fun order release q cmd idle => opens ((s.dropClosings_kept a).list order) q ?_ cmd⟩
  have idle' := State.progress_none.mpr (State.dropClosings_idleAt a (State.progress_none.mp idle))
  have release' : (s.dropClosings a).drv.release = .none := release
  rw [State.futureXp, State.carriedGoal, idle']
  simpa [release', show (s.dropClosings a).xp q a = s.xp q a from rfl] using cmd

end Driver

end Sys2Proof.Machine
end

section
/-! SUPPORT. A fault event taken by allocation, continued (R97, R111): what comes of the listeners, and the follow of a main
holder that has lost its antenna. -/

namespace Sys2Proof.Machine

/-! ## The entries that a fault event expires -/

/-- From `s` to `t` nothing but wait entries has gone, with their notices. -/
structure Expired (s t : State) : Prop where
  drv : t.drv = s.drv
  cfg : t.cfg = s.cfg
  bands : t.bands = s.bands
  seqs : t.seqs = s.seqs
  spans : t.spans = s.spans
  holding : ∀ (q : Pos) (k : Slot), t.hold[q].holding k = s.hold[q].holding k
  pend : ∀ (q : Pos) (k : Slot), s.hold[q].pend k = none → t.hold[q].pend k = none
  holder : ∀ b : Ant, t.alloc[b].holder = s.alloc[b].holder

namespace Expired

variable {s t u : State}

theorem refl (s : State) : Expired s s := ⟨rfl, rfl, rfl, rfl, rfl, fun _ _ => rfl, fun _ _ => id, fun _ => rfl⟩

theorem trans (h : Expired s t) (k : Expired t u) : Expired s u where
  drv := k.drv.trans h.drv
  cfg := k.cfg.trans h.cfg
  bands := k.bands.trans h.bands
  seqs := k.seqs.trans h.seqs
  spans := k.spans.trans h.spans
  holding q j := (k.holding q j).trans (h.holding q j)
  pend q j e := k.pend q j (h.pend q j e)
  holder b := (k.holder b).trans (h.holder b)

theorem heldAnt (h : Expired s t) (q : Pos) (k : Slot) : t.heldAnt q k = s.heldAnt q k :=
  congrArg (Option.map fun x : Holding => x.ant) (h.holding q k)

theorem inSpan (h : Expired s t) (q : Pos) : t.inSpan q = s.inSpan q := by rw [State.inSpan, State.inSpan, h.seqs]

theorem bandOf (h : Expired s t) (q : Pos) : t.bandOf q = s.bandOf q := by rw [State.bandOf, State.bandOf, h.bands]

theorem mainElig (h : Expired s t) (b : Ant) (q : Pos) : t.mainElig b q = s.mainElig b q := by
  simp only [State.mainElig, State.inSettledSet, State.bandOf, State.entry, h.cfg, h.bands, h.drv]

end Expired

section Expiries

variable {s : State} {a : Ant}

theorem State.expire_expired (s : State) (a : Ant) (p : Pos) (k : Slot) (c : Cause) : Expired s (s.expire a p k c) where
  drv := State.notify_drv (s.removeEntry a p k) p _
  cfg := (s.expire_frame a p k c).cfg
  bands := (s.expire_frame a p k c).bands
  seqs := (s.expire_seqs p a k c).1
  spans := (s.expire_frame a p k c).spans
  holding := s.expire_holding a p k c
  pend q j none := by
    rw [State.expire, (State.notify_grow _ p _).same.pend]
    refine (BookAct.apply_pend (x := .remove a p k) trivial q j).trans ?_
    simp only [BookAct.pend]
    split
    · rfl
    · exact none
  holder b := (s.expire_lists a p k c b).1

theorem State.faultExpired_expired (s : State) (a : Ant) : Expired s (s.faultExpired a) := by
  unfold State.faultExpired
  refine State.each_rel Expired .refl (fun h k => h.trans k) _ _ (fun e t => ?_) s
  exact t.expire_expired a e.pos e.kind .fault

theorem State.faultExpired_kept (s : State) (a : Ant) : OrderKept s (s.faultExpired a) :=
  s.eachEntry_kept a (List.Sublist.refl _) fun _ _ _ => .inr ⟨_, rfl⟩

/-- The losses of an antenna that a fault event brings: that of the main holder, then those of the listeners. -/
def State.faultLosses (s : State) (a : Ant) : State :=
  (s.faultMain a).each (s.faultMain a).alloc[a].listeners fun q t => t.faultLoss q .listen a

/-- A fault event, with a due yield expiry or without, expires entries until nobody waits for the antenna, and then takes its
losses (R84, R111). -/
theorem State.takeFault_expires (fault : s.drv.faults[a] = true) : ∃ v, Expired s v ∧ OrderKept s v ∧
    v.alloc[a].queue = [] ∧ s.takeFault a = v.faultLosses a := by
  have taken (u : State) (expired : Expired s u) (kept : OrderKept s u) (e : s.takeFault a = u.allocFault a) :
      ∃ v, Expired s v ∧ OrderKept s v ∧ v.alloc[a].queue = [] ∧ s.takeFault a = v.faultLosses a :=
    ⟨u.faultExpired a, expired.trans (u.faultExpired_expired a), kept.trans (u.faultExpired_kept a), u.faultExpired_queue a,
      e.trans (u.allocFault_eq a)⟩
  let m : State := { s with freeIx := s.freeIx + 1 }
  have moved : Expired s m := ⟨rfl, rfl, rfl, rfl, rfl, fun _ _ => rfl, fun _ _ => id, fun _ => rfl⟩
  have kept : OrderKept s m := .of_same rfl rfl rfl rfl
  rcases s.takeFault_cases a with ⟨-, e⟩ | ⟨-, e | e⟩
  · exact taken s (.refl s) (.refl s) e
  · exact taken m moved kept e
  · refine taken (m.yieldExpire a) (moved.trans ?_) (kept.trans (m.yieldExpire_kept a)) e
    rcases State.yieldExpire_faulted (s := m) fault with same | ⟨w, expires⟩
    · rw [same]; exact .refl m
    · rw [expires]; exact m.expire_expired a w .main .ineligible

end Expiries

/-! ## What the loss of one position leaves to the others -/

section Others

variable {s t : State} {a : Ant} {q r : Pos}

/-- Nobody is handed an antenna that nobody waits for. -/
theorem State.handSlot_idle (empty : s.alloc[a].queue = []) (k : Slot) : s.handSlot k a = s := by
  have nobody (j : Slot) : s.arbitration a j = [] := by simp [-Fin.getElem_fin, State.arbitration, empty]
  cases k with
  | main =>
    rw [State.handSlot, State.handMain, State.handMainFuel, nobody]
    split <;> rfl
  | listen =>
    rw [State.handSlot, State.handListen, State.handListenFuel, nobody]
    split <;> rfl

theorem State.loseFor_idle {k : Slot} (held : s.heldAnt r k = some a) (empty : s.alloc[a].queue = []) (c : Cause) :
    s.loseFor r k c = s.releaseSlot r k a (some (.released k a c)) := by
  rw [State.loseFor, State.lose_of_held held]
  exact State.handSlot_idle ((s.releaseSlot_queue r k a _ a).trans empty) k

theorem State.releaseSlot_others (ne : q ≠ r) (s : State) (k : Slot) (a : Ant) (n : Option Notice) :
    (s.releaseSlot r k a n).hold[q] = s.hold[q] := by
  cases k with
  | main => exact (State.releaseMain_keeps ne.symm s a n).hold
  | listen =>
    exact (((s.unbookListen_keeps (v := id) r a fun e => absurd e.symm ne).trans (State.handOpening_keeps _ r a)).trans
      (State.notifyOpt_keeps _ r n)).hold

/-- A listen hand-over leaves the record of a position that does not wait to listen. -/
theorem HandRun.others (run : HandRun .listen s t) (books : s.BooksAgree) (idle : s.hold[q].pend .listen = none) :
    t.hold[q] = s.hold[q] := by
  refine (run.keeps (P := fun u => u.BooksAgree ∧ u.hold[q] = s.hold[q]) (fun u v j only step ⟨agree, same⟩ => ?_)
    ⟨books, rfl⟩).2
  obtain ⟨r, b, waits, others, -⟩ := step.serves agree
  have ne : q ≠ r := by
    rintro rfl
    rw [only rfl, same, idle] at waits
    cases waits
  exact ⟨step.kept.books agree, (others q ne).trans same⟩

/-- A main grant into an empty slot sets off no hand-over but that of the listen slot taken up (R56). -/
theorem State.grantMain_steps_empty (empty : s.heldAnt r .main = none) (b : Ant) (o : Origin) :
    HandRun .listen (s.grantMainBooks r b o) (s.grantMain r b o) := by
  rw [State.grantMain, State.grantMainWith_eq, empty]
  split
  · exact State.handListen_steps b _
  · exact .refl _ _

/-- A follow leaves the records of other positions that do not wait to listen. -/
theorem State.followSlot_others (ne : q ≠ r) (books : s.BooksAgree) (idle : s.hold[q].pend .listen = none) (k : Slot) :
    (s.followSlot r k).hold[q] = s.hold[q] := by
  rcases s.followSlot_acts r k with e | ⟨empty, b, -, ⟨c, -, good, free, e⟩ | ⟨-, e⟩⟩ <;> rw [e]
  · cases k with
    | main =>
      have same : (s.grantMainBooks r c .follow).hold[q] = s.hold[q] := (State.grantMainBooks_keeps ne.symm s c .follow).hold
      have agree := (State.grantMainBooks_kept (p := r) (.refl s)
        (fun _ => Option.isNone_iff_eq_none.mp free) .follow).books books
      exact ((State.grantMain_steps_empty empty c .follow).others agree (by rw [same]; exact idle)).trans same
    | listen =>
      have own := (Bool.and_eq_true_iff.mp good).2
      have same : (s.grantListenBooks r c .follow).hold[q] = s.hold[q] :=
        (State.grantListenBooks_keeps (v := id) (fun e => absurd e.symm ne) s c .follow).hold
      have agree := (State.grantListenBooks_kept (p := r) (.refl s)
        (fun _ => ⟨free, by rw [empty]; nofun, by simpa using own⟩) .follow).books books
      exact ((s.grantListen_steps r c .follow).others agree (by rw [same]; exact idle)).trans same
  · exact (s.queuePass_local r k b).2 q ne

theorem State.followOne_others (ne : q ≠ r) (books : s.BooksAgree) (idle : s.hold[q].pend .listen = none) (k : Slot) :
    (s.followOne r k).hold[q] = s.hold[q] := by
  cases k with
  | listen => exact State.followSlot_others ne books idle .listen
  | main =>
    have main := State.followSlot_others ne books idle .main
    unfold State.followOne State.followMain
    dsimp only
    split
    · exact (State.followSlot_others ne ((s.followSlot_kept r .main).books books) (by rw [main]; exact idle) .listen).trans main
    · exact main

/-- Outside key span the loss is a release and a follow (R97, R111). -/
theorem State.faultLoss_outside {k : Slot} (held : s.heldAnt r k = some a) (empty : s.alloc[a].queue = [])
    (out : s.inSpan r = false) :
    s.faultLoss r k a = (s.releaseSlot r k a (some (.released k a .fault))).followOne r k := by
  rw [← State.loseFor_idle held empty]
  simp [State.faultLoss, State.faultWork, held, out]

/-- In key span the loss is a mark (R111). -/
theorem State.faultLoss_inside {k : Slot} (held : s.heldAnt r k = some a) (inside : s.inSpan r = true) :
    s.faultLoss r k a = (s.mark r k (some (.fault a))).keepFaulted r k := by
  simp [State.faultLoss, held, inside]

/-- The loss of an antenna that nobody waits for leaves the records of other positions that do not wait to listen. -/
theorem State.faultLoss_others (ne : q ≠ r) (books : s.BooksAgree) (empty : s.alloc[a].queue = [])
    (idle : s.hold[q].pend .listen = none) (k : Slot) : (s.faultLoss r k a).hold[q] = s.hold[q] := by
  by_cases held : s.heldAnt r k = some a
  · cases inside : s.inSpan r with
    | true =>
      rw [State.faultLoss_inside held inside]
      exact (upd_get_ne _ _ ne.symm).trans (upd_get_ne _ _ ne.symm)
    | false =>
      have same := State.releaseSlot_others ne s k a (some (.released k a .fault))
      have agree := (State.releaseSlot_kept (.refl s) (fun _ => held) (some (.released k a .fault))).books books
      rw [State.faultLoss_outside held empty inside]
      exact (State.followOne_others ne agree (by rw [same]; exact idle) k).trans same
  · rw [State.faultLoss, if_neg (by simpa using held)]

end Others

/-! ## The listeners (R111) -/

section Listeners

variable {s : State} {a : Ant} {q : Pos}

/-- A position in key span listens on a faulted antenna that nobody waits for, and awaits no listen. -/
structure State.ListensFaulted (s : State) (q : Pos) (a : Ant) : Prop where
  fault : s.drv.faults[a] = true
  books : s.BooksAgree
  empty : s.alloc[a].queue = []
  inside : s.inSpan q = true
  held : s.heldAnt q .listen = some a
  idle : s.hold[q].pend .listen = none

/-- A listener in key span keeps its listen and its mark through the losses of other positions, and through its own under
its mark. -/
theorem State.ListensFaulted.loss (h : s.ListensFaulted q a) {r : Pos} {k : Slot} (other : r = q → k = .listen) :
    (s.faultLoss r k a).ListensFaulted q a ∧ (r = q ∨ s.hold[q].mark .listen = some (.fault a) →
      (s.faultLoss r k a).hold[q].mark .listen = some (.fault a)) := by
  have gains := State.faultLoss_nobodyGains h.fault r k
  have rest (held : (s.faultLoss r k a).heldAnt q .listen = some a)
      (idle : (s.faultLoss r k a).hold[q].pend .listen = none) : (s.faultLoss r k a).ListensFaulted q a :=
    ⟨gains.frame.fault h.fault, (s.faultLoss_kept r k a).books h.books, gains.queue h.empty,
      (gains.frame.inSpan q).trans h.inside, held, idle⟩
  by_cases same : r = q
  · subst same
    obtain rfl := other rfl
    have loss := State.faultLoss_inside h.held h.inside
    refine ⟨rest ?_ ?_, fun _ => ?_⟩ <;> rw [loss]
    · rw [State.keepFaulted_heldAnt, State.mark_heldAnt]
      exact h.held
    · simpa [-Fin.getElem_fin, State.keepFaulted, State.mark, upd_get_same] using h.idle
    · simp [-Fin.getElem_fin, State.keepFaulted, State.mark, upd_get_same]
  · have record := State.faultLoss_others (Ne.symm same) h.books h.empty h.idle k
    refine ⟨rest ?_ (by rw [record]; exact h.idle), fun marked => ?_⟩
    · rw [State.heldAnt, record]
      exact h.held
    · rw [record]
      exact marked.resolve_left same

/-- What the losses of a fault event make of a listener: outside key span it loses the antenna, and in key span it keeps it
under its mark (R111). -/
structure ListenerTaken (s t : State) (a : Ant) (q : Pos) : Prop where
  lost : s.inSpan q = false → t.heldAnt q .listen ≠ some a
  keeps : s.inSpan q = true → s.hold[q].pend .listen = none →
    t.heldAnt q .listen = some a ∧ t.hold[q].mark .listen = some (.fault a)

theorem State.faultMain_kept (s : State) (a : Ant) : OrderKept s (s.faultMain a) := by
  cases holds : s.alloc[a].holder with
  | none => rw [State.faultMain, holds]; exact .refl s
  | some h => rw [State.faultMain_eq holds]; exact s.faultLoss_kept h .main a

/-- The loss of the main holder leaves a listener of key span. -/
theorem State.ListensFaulted.main (h : s.ListensFaulted q a) : (s.faultMain a).ListensFaulted q a := by
  cases holds : s.alloc[a].holder with
  | none => rw [State.faultMain, holds]; exact h
  | some r =>
    rw [State.faultMain_eq holds]
    refine (h.loss fun same => ?_).1
    obtain ⟨mains, -, -, ⟨slots, -⟩, -⟩ := h.books
    exact absurd h.held (slots q a ((mains q a).mp (same ▸ holds)))

theorem State.faultLosses_listener (fault : s.drv.faults[a] = true) (books : s.BooksAgree) (empty : s.alloc[a].queue = [])
    (listens : s.heldAnt q .listen = some a) : ListenerTaken s (s.faultLosses a) a q := by
  have main := State.faultMain_nobodyGains fault
  have agree := (s.faultMain_kept a).books books
  refine ⟨fun out => ?_, fun inside idle => ?_⟩
  · obtain ⟨gains, lost⟩ := State.each_gives (inv := NobodyGains a (s.faultMain a))
      (P := fun r t => r = q → t.heldAnt q .listen ≠ some a)
      (s.faultMain a).alloc[a].listeners (fun r t => t.faultLoss r .listen a)
      (fun r t gains => gains.trans (State.faultLoss_nobodyGains (gains.frame.fault (main.frame.fault fault)) r .listen))
      (fun r t gains same => by
        subst same
        exact State.faultLoss_lost (gains.frame.fault (main.frame.fault fault))
          (((main.frame.trans gains.frame).inSpan r).trans out) .listen)
      (fun r p t gains lost same =>
        (State.faultLoss_nobodyGains (gains.frame.fault (main.frame.fault fault)) r .listen).held q .listen (lost same))
      (.refl a _)
    by_cases still : (s.faultMain a).heldAnt q .listen = some a
    · exact lost q ((agree.2.1.1 q a).mpr still) rfl
    · exact gains.held q .listen still
  · have start : (s.faultMain a).ListensFaulted q a :=
      State.ListensFaulted.main ⟨fault, books, empty, inside, listens, idle⟩
    obtain ⟨ends, marked⟩ := State.each_gives (inv := fun t => t.ListensFaulted q a)
      (P := fun r t => r = q → t.hold[q].mark .listen = some (.fault a))
      (s.faultMain a).alloc[a].listeners (fun r t => t.faultLoss r .listen a)
      (fun r t h => (h.loss fun _ => rfl).1) (fun r t h same => (h.loss fun _ => rfl).2 (.inl same))
      (fun r p t h marked same => (h.loss fun _ => rfl).2 (.inr (marked same))) start
    exact ⟨ends.held, marked q ((agree.2.1.1 q a).mpr start.held) rfl⟩

end Listeners

/-! ## The follow of the main holder (R97) -/

section Follow

variable {s : State} {a c : Ant} {h : Pos} {b : Band}

/-- A release leaves the main holders of other antennas. -/
theorem State.releaseSlot_holder (held : s.heldAnt h .main = some a) (n : Option Notice) {x : Ant} (ne : x ≠ a) :
    (s.releaseSlot h .main a n).alloc[x].holder = s.alloc[x].holder := by
  refine (congrArg (fun B : Books => B.holder x) (State.releaseSlot_books held n)).trans (if_neg fun here => ?_)
  exact ne (Option.some.inj (here.2.symm.trans held))

/-- A main holder outside key span that loses its faulted antenna has the first free candidate of its list (R90, R97). -/
theorem State.faultLosses_follows (fault : s.drv.faults[a] = true) (books : s.BooksAgree) (empty : s.alloc[a].queue = [])
    (holds : s.alloc[a].holder = some h) (out : s.inSpan h = false) (on : s.cfg.pos[h].follow = true)
    (band : s.bandOf h = some b)
    (first : FirstOf s.cfg.prefs[h][b].main (fun x => s.mainElig x h && s.alloc[x].holder.isNone) c) :
    (s.faultLosses a).hold[h].granted .main = some (c, .follow) := by
  have held := (books.1 h a).mp holds
  let u := s.releaseSlot h .main a (some (.released .main a .fault))
  have frame : AllocFrame s u := s.releaseSlot_frame h .main a _
  have loss : s.faultMain a = u.followOne h .main :=
    (State.faultMain_eq holds).trans (State.faultLoss_outside held empty out)
  have free (x : Ant) : (u.candidate .main h x && u.slotFree .main x) = (s.mainElig x h && s.alloc[x].holder.isNone) := by
    change (u.elig .main x h && u.alloc[x].holder.isNone) = (s.elig .main x h && s.alloc[x].holder.isNone)
    rw [frame.elig]
    by_cases same : x = a
    · rw [same, State.elig_of_fault fault]; rfl
    · rw [State.releaseSlot_holder held _ same]
  have found : (u.prefList h b .main).find? (fun x => u.candidate .main h x && u.slotFree .main x) = some c := by
    rw [funext free, State.prefList, frame.cfg]
    exact (firstOf_iff _ _ c).mp first
  have granted := (State.followOne_grants (by rw [frame.cfg]; exact on) (s.releaseSlot_empty h .main a _)
    ((frame.bandOf h).trans band) found).1
  have rest : MainKept (s.faultMain a) (s.faultLosses a) :=
    State.each_rel MainKept .refl (fun j k => j.trans k) _ _ (fun q t => t.faultLoss_mainKept q a) _
  rw [← loss] at granted
  exact (congrArg (Option.map fun x : Holding => (x.ant, x.origin)) (rest.main h)).trans granted

theorem State.faultLosses_onlyOpens (fault : s.drv.faults[a] = true) : OnlyOpens a s (s.faultLosses a) :=
  State.each_keeps (OnlyOpens a s) _ _ (fun q _ _ ht =>
    ht.trans (State.faultLoss_onlyOpens (ht.frame.fault fault) q .listen)) _ (State.faultMain_onlyOpens fault)

end Follow

end Sys2Proof.Machine
end

section
/-! SUPPORT. CROSSPOINT_WATCH_FAULT: a watch that finds a RELAY fault (R97, R109 to R112). -/

namespace Sys2Proof.Machine

section Watch

variable {s : State} {p : Pos} {a : Ant}

/-- A watch that has run its 5 ms starts again, and its crosspoint has a RELAY fault (R109). -/
theorem exec_crosspointWatchFault {n : Nat} (powered : s.powered = true) (watch : (s.xp p a).watch = some n)
    (due : n + 5 ≤ s.now) : exec (.crosspointWatchFault p a) s =
      .next ((s.setXp p a { s.xp p a with watch := some s.now }).relayFault p a .watch) := by
  rw [show exec (.crosspointWatchFault p a) s = execCrosspointWatchFault p a s from rfl, execCrosspointWatchFault,
    whenPowered_on powered, watch]
  exact congrArg _ (if_pos due)

/-- With the flag set before, the station link is told, and the driver does its part (R112). -/
theorem State.relayFault_set (flag : s.drv.faults[a] = true) (f : Finding) : ∃ v : State,
    s.relayFault p a f = (v.dropClosings a).faultOpening a ∧ v = { s with links := v.links } ∧
      ∀ l : Link, l ≠ stationLink → v.links[l] = s.links[l] := by
  have relay : s.relayFault p a f = ((s.offer stationLink (s.faultFrame p a f)).dropClosings a).faultOpening a := if_pos flag
  refine ⟨_, relay, (s.offer_grow _ _).eq, fun l other => ?_⟩
  unfold State.offer
  split
  · rfl
  · exact upd_get_ne _ _ other.symm

/-- With the flag clear before, it is set and links are told; then the driver does its part, and allocation takes the fault
(R110, R111). -/
theorem State.relayFault_first (clear : s.drv.faults[a] = false) (f : Finding) : ∃ v : State,
    s.relayFault p a f = ((v.dropClosings a).faultOpening a).takeFault a ∧
      v = { s with drv := { s.drv with faults := upd s.drv.faults a true }, links := v.links } := by
  let u := (s.offer stationLink (s.faultFrame p a f)).setFault a true
  let v := u.each (allPos.filter fun q => s.affected p a q) fun q x => x.offer (linkOf q) (s.faultFrame p a f)
  have first := s.offer_grow stationLink (s.faultFrame p a f)
  have told : LinksGrow u v := State.each_rel LinksGrow .refl (fun h k => h.trans k) _ _ (fun q t => t.offer_grow _ _) u
  have flagged : u = { s with drv := { s.drv with faults := upd s.drv.faults a true }, links := u.links } :=
    (congrArg (fun t : State => t.setFault a true) first.eq :)
  refine ⟨v, if_neg (by rw [clear]; simp), ?_⟩
  conv_lhs => rw [told.eq, flagged]

/-- With only this antenna's flag set anew, eligibility on other antennas is as before, and on this one there is none. -/
theorem State.mainElig_flagged {t : State} (cfg : t.cfg = s.cfg) (bands : t.bands = s.bands)
    (faults : t.drv.faults = upd s.drv.faults a true) (x : Ant) (h : Pos) :
    t.mainElig x h = (x != a && s.mainElig x h) := by
  simp only [State.mainElig, State.inSettledSet, State.bandOf, State.entry, cfg, bands, faults, upd_get]
  by_cases same : a = x
  · simp [-Fin.getElem_fin, same]
  · simp [-Fin.getElem_fin, same, Ne.symm same]

end Watch

/-- What a RELAY fault makes of the holdings and of the pending list, with books that agree before (R97, R110, R111). -/
structure RelayTaken (s t : State) (a : Ant) : Prop where
  queue : t.alloc[a].queue = []
  slots : ∀ (q : Pos) (slot : Slot), s.heldAnt q slot = some a → (s.inSpan q = false → t.heldAnt q slot ≠ some a) ∧
    (s.inSpan q = true → slot = .main ∨ s.hold[q].pendListen = none →
      t.heldAnt q slot = some a ∧ t.hold[q].mark slot = some (.fault a))
  follows : ∀ (h : Pos) (b : Band) (c : Ant), s.alloc[a].holder = some h → s.inSpan h = false →
    s.cfg.pos[h].follow = true → s.bandOf h = some b →
    FirstOf s.cfg.prefs[h][b].main (fun x => x != a && s.mainElig x h && s.alloc[x].holder.isNone) c →
    t.hold[h].granted .main = some (c, .follow)

/-- What allocation makes of a fault event, from the state in which the driver has done its part. -/
theorem State.takeFault_relayTaken {s w : State} {a : Ant} (only : DriverOnly s w)
    (faults : w.drv.faults = upd s.drv.faults a true) (books : w.BooksAgree) : RelayTaken s (w.takeFault a) a := by
  have fault : w.drv.faults[a] = true := by rw [faults, upd_get_same]
  have taken := State.takeFault_taken fault
  obtain ⟨v, expired, kept, empty, losses⟩ := State.takeFault_expires fault
  have fault' : v.drv.faults[a] = true := by rw [expired.drv]; exact fault
  have agree := kept.books books
  have hold : w.hold = s.hold := (congrArg State.hold only.eq :)
  have alloc : w.alloc = s.alloc := (congrArg State.alloc only.eq :)
  have cfg : w.cfg = s.cfg := (congrArg State.cfg only.eq :)
  have bands : w.bands = s.bands := (congrArg State.bands only.eq :)
  have seqs : w.seqs = s.seqs := (congrArg State.seqs only.eq :)
  have held (q : Pos) (k : Slot) : w.heldAnt q k = s.heldAnt q k := by rw [State.heldAnt, hold]; rfl
  have span (q : Pos) : w.inSpan q = s.inSpan q := by rw [State.inSpan, seqs]; rfl
  refine ⟨taken.queue, fun q slot holds => ?_, fun h b c holds out on band first => ?_⟩
  · rw [← held] at holds
    rw [← span]
    cases slot with
    | main =>
      have holder := (books.1 q a).mpr holds
      refine ⟨taken.lost q holder, fun inside _ => ?_⟩
      obtain ⟨⟨b, sw, o, f⟩, main, rfl⟩ := Option.map_eq_some_iff.mp holds
      obtain ⟨main', mark⟩ := taken.keeps q sw o f holder inside main
      exact ⟨congrArg (Option.map fun x : Holding => x.ant) main', mark⟩
    | listen =>
      obtain ⟨lost, keeps⟩ := State.faultLosses_listener fault' agree empty ((expired.heldAnt q .listen).trans holds)
      rw [expired.inSpan] at lost keeps
      rw [losses]
      refine ⟨lost, fun inside idle => keeps inside (expired.pend q .listen ?_)⟩
      rw [hold]
      exact idle.resolve_left nofun
  · have free (x : Ant) : (v.mainElig x h && v.alloc[x].holder.isNone) =
        (x != a && s.mainElig x h && s.alloc[x].holder.isNone) := by
      rw [State.mainElig_flagged (expired.cfg.trans cfg) (expired.bands.trans bands)
        ((congrArg Driver.faults expired.drv).trans faults), expired.holder, alloc]
    rw [losses]
    refine State.faultLosses_follows (b := b) fault' agree empty ?_ ?_ ?_ ?_ ?_
    · rw [expired.holder, alloc]; exact holds
    · rw [expired.inSpan, span]; exact out
    · rw [expired.cfg, cfg]; exact on
    · rw [expired.bandOf, State.bandOf, bands]; exact band
    · rw [funext free, expired.cfg, cfg]; exact first

/-- What allocation makes of the pending list and of the rest in a fault event: it opens crosspoints of the antenna alone. -/
theorem State.takeFault_opens {s : State} {a : Ant} (fault : s.drv.faults[a] = true) :
    (s.takeFault a).spans = s.spans ∧ (s.ClosesNone a → (s.takeFault a).ClosesNone a) ∧
      ∀ q, s.Opens a q → (s.takeFault a).Opens a q := by
  obtain ⟨v, expired, -, -, losses⟩ := State.takeFault_expires fault
  have opens := State.faultLosses_onlyOpens (s := v) (a := a) (by rw [expired.drv]; exact fault)
  rw [losses]
  refine ⟨opens.frame.spans.trans expired.spans, fun none => opens.closes ?_, fun q ⟨entries, closed, listed⟩ =>
    opens.opens q ⟨?_, ?_, (State.listed_of_drv expired.drv q a).trans listed⟩⟩
  · rwa [State.ClosesNone, expired.drv]
  · rwa [expired.drv]
  · rwa [State.futureXp, State.carriedGoal, State.progress, State.xp, expired.drv]

/-- What a RELAY fault leaves of the pending list, and what it leaves alone, with the flag set before or clear (R110). -/
structure RelayListed (s t : State) (a : Ant) : Prop where
  faults : t.drv.faults = upd s.drv.faults a true
  closes : t.ClosesNone a
  opens : s.ListOrder → s.drv.release = .none → ∀ q, (s.xp q a).cmd ≠ .opened → s.progress q = none → t.Opens a q
  xps : t.drv.xps = s.drv.xps
  spans : t.spans = s.spans

theorem State.relayFault_listed (s : State) (p : Pos) (a : Ant) (f : Finding) : RelayListed s (s.relayFault p a f) a := by
  cases flag : s.drv.faults[a] with
  | true =>
    obtain ⟨v, relay, told, -⟩ := State.relayFault_set (p := p) flag f
    obtain ⟨only, faults, -⟩ := v.faultDriver_only a
    obtain ⟨closes, opens⟩ := v.faultDriver_opens a
    rw [relay]
    have drv : v.drv = s.drv := (congrArg State.drv told :)
    refine ⟨?_, closes, fun order release q cmd idle => opens (order.of_drv drv) (by rw [drv]; exact release) q ?_ ?_,
      (congrArg (·.drv.xps) only.eq :).trans (congrArg (·.drv.xps) told :),
      (congrArg State.spans only.eq :).trans (congrArg State.spans told :)⟩
    · rw [faults, drv, ← flag]
      exact (upd_self _ _).symm
    · rw [State.xp, drv]; exact cmd
    · rw [State.progress, drv]; exact idle
  | false =>
    obtain ⟨v, relay, told⟩ := State.relayFault_first (p := p) flag f
    obtain ⟨only, faults, -⟩ := v.faultDriver_only a
    obtain ⟨closes, opens⟩ := v.faultDriver_opens a
    have drv : v.drv = { s.drv with faults := upd s.drv.faults a true } := (congrArg State.drv told :)
    generalize (v.dropClosings a).faultOpening a = w at relay only faults closes opens
    have flagged : w.drv.faults = upd s.drv.faults a true := faults.trans (by rw [drv])
    obtain ⟨spans, closes', opens'⟩ := State.takeFault_opens (s := w) (a := a) (by rw [flagged, upd_get_same])
    have after := w.takeFault_drv a
    rw [relay]
    refine ⟨(congrArg Driver.faults after :).trans flagged, closes' closes, fun order release q cmd idle =>
      opens' q (opens ?_ (by rw [drv]; exact release) q ?_ ?_),
      (congrArg Driver.xps after :).trans ((congrArg (·.drv.xps) only.eq :).trans (congrArg (·.drv.xps) told :)),
      spans.trans ((congrArg State.spans only.eq :).trans (congrArg State.spans told :))⟩
    · rw [State.ListOrder, drv]; exact order
    · rw [State.xp, drv]; exact cmd
    · rw [State.progress, drv]; exact idle

/-- Settles O27: the watch starts again and its crosspoint has a RELAY fault, which the driver lists, and of which allocation
takes the losses where the flag was clear. -/
theorem watchFindsRelayFault : Obligations.WatchFindsRelayFault := by
  intro s p a n powered up watch due
  let u := s.setXp p a { s.xp p a with watch := some s.now }
  have xps (q : Pos) (b : Ant) : (u.xp q b).cmd = (s.xp q b).cmd ∧ (u.xp q b).closed = (s.xp q b).closed := by
    rw [State.setXp_xp]
    split
    · next same => obtain ⟨rfl, rfl⟩ := same; exact ⟨rfl, rfl⟩
    · exact ⟨rfl, rfl⟩
  have frame : u.faultFrame p a .watch = noticeFrame p (.fault a (s.xp p a).cmd (s.xp p a).closed .watch) := by
    rw [State.faultFrame, (xps p a).1, (xps p a).2]
  have listed := u.relayFault_listed p a .watch
  have quiet := (s.setXp_quiet p a { s.xp p a with watch := some s.now }).trans (u.relayFault_quiet p a .watch)
  refine ⟨_, exec_crosspointWatchFault powered watch due, listed.faults,
    fun room => frame ▸ State.relayFault_tells (s := u) up room .watch, fun flag => ?flagged, fun clear books => ?clear,
    fun e he y hy ant => listed.closes e.pos y ⟨e, he, rfl, hy⟩ ant, fun order release q cmd idle => ?opens, fun q b => ?xps,
    quiet.restKept, quiet.bands, quiet.sam, listed.spans⟩
  case flagged =>
    obtain ⟨v, relay, told, others⟩ := State.relayFault_set (s := u) (p := p) flag .watch
    obtain ⟨xs, list⟩ := (v.dropClosings a).faultOpening_list a
    rw [relay, list]
    exact ⟨(congrArg State.hold told :), (congrArg State.alloc told :), (congrArg State.seqs told :), others⟩
  case clear =>
    obtain ⟨w, relay, only, faults, -, order⟩ := State.relayFault_clear (s := u) (p := p) clear .watch
    obtain ⟨queue, slots, follows⟩ := State.takeFault_relayTaken only faults (order.books books)
    rw [relay]
    exact ⟨queue, slots, follows⟩
  case opens => exact (listed.opens order release q (by rw [(xps q a).1]; exact cmd) idle).listed
  case xps =>
    rw [State.xp, listed.xps]
    exact xps q b

end Sys2Proof.Machine
end

section
/-! SUPPORT. The timers of SETTLING and KEYED (R121, R123, R124). -/

namespace Sys2Proof.Machine

section Timers

variable {s : State} {p : Pos} {since : Nat}

/-- An amplifier settle that has been reached leads to KEYED exactly when the settle condition holds (R121). -/
theorem State.trySettle_due (settling : s.seqs[p] = .settling since) (due : since + s.cfg.pos[p].ampSettle ≤ s.now) :
    s.trySettle p = if s.settleCond p = true then s.enter p (.keyed s.now) else s := by
  have reached : s.settleReached p = true := by
    rw [State.settleReached, settling]
    exact decide_eq_true due
  rw [State.trySettle, reached, Bool.true_and]

/-- A key time limit that has been reached leads to TAIL, where the tail setting gives it a length (R123, R124). -/
theorem State.keyLimit_due (keyed : s.seqs[p] = .keyed since) (due : since + s.cfg.pos[p].keyLimit * 1000 ≤ s.now)
    (tail : s.cfg.pos[p].tail ≠ 0) : s.keyLimit p = s.enter p (.tail .timeout none (s.now - since) s.now) := by
  have time : s.keyTime p = s.now - since := by rw [State.keyTime, keyed]
  rw [State.keyLimit, keyed]
  dsimp only
  rw [if_pos due, State.enterTail, time]
  exact if_neg (by simpa [-Fin.getElem_fin] using tail)

end Timers

/-- Settles O36: each expiry that is due enters its state, whose outputs are those of R118. -/
theorem settleAndLimitTimers : Obligations.SettleAndLimitTimers := by
  intro s p since powered
  refine ⟨fun settling due => ⟨fun cond => ?_, fun cond => ?_⟩, fun keyed due tail => ?_⟩
  · exact (whenPowered_on powered fun s => s.trySettle p).trans
      (congrArg _ ((State.trySettle_due settling due).trans (if_pos cond)))
  · exact (whenPowered_on powered fun s => s.trySettle p).trans
      (congrArg _ ((State.trySettle_due settling due).trans (if_neg (by rw [cond]; nofun))))
  · exact (whenPowered_on powered fun s => s.keyLimit p).trans (congrArg _ (State.keyLimit_due keyed due tail))

end Sys2Proof.Machine
end

section
/-! SUPPORT. FILTER_SWITCH_BEGIN and FILTER_SWITCH_END (R114). -/

namespace Sys2Proof.Machine

section Filters

variable {s : State} {p : Pos}

/-- A PENDING filter switch of a position that may switch begins (R114). -/
theorem State.beginPending_may (pending : s.drv.filters[p].sw = .pending) (may : s.mayFilter p = true) :
    s.beginPending p = s.setFilter p ⟨s.drv.filters[p].selected, s.drv.filters[p].selected, .switching s.now⟩ := by
  rw [State.beginPending, pending, may]
  rfl

/-- A filter that is to stay as it is commanded is in IDLE after a start of its switch (R113). -/
theorem State.startFilter_same (idle : s.drv.filters[p].sw = .idle)
    (same : s.drv.filters[p].selected = s.drv.filters[p].commanded) : s.startFilter p = s := by
  have stays : ({ s.drv.filters[p] with sw := .idle } : FilterState) = s.drv.filters[p] := by rw [← idle]
  rw [State.startFilter, idle]
  dsimp only
  rw [if_pos (by rw [same]; exact beq_self_eq_true _), stays, State.setFilter, upd_self]
  rfl

/-- A filter switch that has run its time ends in IDLE, where no other filter has been selected meanwhile, and the settle
condition is looked at again (R114, R121). -/
theorem State.endFilter_due {n : Nat} (switching : s.drv.filters[p].sw = .switching n) (due : n + 10 ≤ s.now)
    (same : s.drv.filters[p].selected = s.drv.filters[p].commanded) :
    s.endFilter p = (s.setFilter p { s.drv.filters[p] with sw := .idle }).trySettle p := by
  have get : (s.setFilter p { s.drv.filters[p] with sw := .idle }).drv.filters[p] =
      { s.drv.filters[p] with sw := .idle } := upd_get_same _ _ _
  have idle := State.startFilter_same (s := s.setFilter p { s.drv.filters[p] with sw := .idle }) (p := p)
    (by rw [get]) (by rw [get]; exact same)
  rw [State.endFilter, switching]
  exact (if_pos due).trans (congrArg (State.trySettle · p) idle)

/-- A position that settles shows in no other sequencer and in no other outputs. -/
theorem State.trySettle_others {q : Pos} (ne : q ≠ p) :
    (s.trySettle p).seqs[q] = s.seqs[q] ∧ (s.trySettle p).outs[q] = s.outs[q] := by
  rcases s.trySettle_cases p with h | ⟨since, -, -, -, h⟩ <;> rw [h]
  · exact ⟨rfl, rfl⟩
  · exact ⟨s.enter_seq_ne _ ne, upd_get_ne _ _ ne.symm⟩

end Filters

/-- Settles O30: a switch that may begin takes the selection, and one that has run its time is over. -/
theorem filterSwitchBeginsAndEnds : Obligations.FilterSwitchBeginsAndEnds := by
  intro s p powered
  refine ⟨fun pending out rfs release => ?_, fun n switching due same => ?_⟩
  · have may : s.mayFilter p = true := by rw [State.mayFilter, out, rfs, release]; rfl
    exact (whenPowered_on powered fun s => s.beginPending p).trans (congrArg _ (State.beginPending_may pending may))
  · let u := s.setFilter p { s.drv.filters[p] with sw := .idle }
    have ran : exec (.filterSwitchEnd p) s = .next (u.trySettle p) :=
      (whenPowered_on powered fun s => s.endFilter p).trans (congrArg _ (State.endFilter_due switching due same))
    obtain ⟨hold, alloc, links⟩ := u.trySettle_hold p
    exact ⟨_, ran, u.trySettle_drv p, alloc, hold, links,
      ((s.setFilter_quiet p _).trans (u.trySettle_frame p).quiet).restKept, fun q ne => State.trySettle_others ne⟩

end Sys2Proof.Machine
end

section
/-! SUPPORT. The release delay and the release opening (R113, R115). -/

namespace Sys2Proof.Machine

section Release

variable {s : State} {n : Nat}

/-- In the release opening every crosspoint is commanded OPEN, without a watch (R115). -/
theorem openAll_get (d : Driver) (p : Pos) (a : Ant) :
    (openAll d)[p][a] = { d.xps[p][a] with cmd := .opened, watch := none } := by
  let row (w : Vector Crosspoint 20) : Vector Crosspoint 20 :=
    allAnts.foldl (fun w a => upd w a { w[a] with cmd := .opened, watch := none }) w
  have outer := foldl_upd_get (fun _ => row) allPos allPos_nodup d.xps p
  have inner := foldl_upd_get (fun (_ : Ant) (x : Crosspoint) => { x with cmd := .opened, watch := none }) allAnts
    allAnts_nodup d.xps[p] a
  rw [if_pos (mem_allPos p)] at outer
  rw [if_pos (mem_allAnts a)] at inner
  exact (congrArg (·[a]) outer).trans inner

theorem State.releaseOpening_xp (s : State) (p : Pos) (a : Ant) :
    s.releaseOpening.xp p a = { s.xp p a with cmd := .opened, watch := none } := openAll_get s.drv p a

theorem State.releaseOpening_filters (s : State) (p : Pos) :
    s.releaseOpening.drv.filters[p] = { s.drv.filters[p] with commanded := none } :=
  (foldl_upd_get (fun _ (f : FilterState) => { f with commanded := none }) allPos allPos_nodup s.drv.filters p).trans
    (if_pos (mem_allPos p))

/-- The antennas with a crosspoint to open. -/
def State.releasedAnts (s : State) : List Ant := allAnts.filter s.anyCommanded

/-- The release opening lasts as long as the switch of every antenna that it opens (R115). -/
theorem State.releasedAnts_switchTime {p : Pos} {a : Ant} (cmd : (s.xp p a).cmd ≠ .opened) :
    s.cfg.ants[a].switchTime ≤ s.longest s.releasedAnts := by
  refine s.longest_ge (List.mem_filter.mpr ⟨mem_allAnts a, List.any_eq_true.mpr ⟨p, mem_allPos p, ?_⟩⟩)
  simpa using cmd

/-- With every contact sensed OPEN the readback at the end of the release opening finds no fault, and the filters are
selected again (R115). -/
theorem State.endRelease_open (opened : ∀ (p : Pos) (a : Ant), (s.xp p a).closed = false) :
    s.endRelease = (s.setDrv { s.drv with release := .none }).each allPos fun p x => x.reselect p := by
  have read : s.each allPos (fun p x => x.relayFaults p (allAnts.filter fun a => (s.xp p a).closed) .opening) = s := by
    refine State.each_keeps (· = s) _ _ (fun p t _ same => ?_) s rfl
    have none : (allAnts.filter fun a => (s.xp p a).closed) = [] := List.filter_eq_nil_iff.mpr fun a _ => by simp [opened p a]
    rw [none]
    exact same
  rw [State.endRelease, read]

/-- From `s` to `t` nothing but filters has changed. -/
structure FiltersOnly (s t : State) : Prop where
  eq : t = { s with drv := { s.drv with filters := t.drv.filters } }

/-- A selection of every filter leaves all the rest, and each filter is as R113 selects it. -/
theorem State.reselects (s : State) : FiltersOnly s (s.each allPos fun p x => x.reselect p) ∧
    ∀ p, (s.each allPos fun p x => x.reselect p).drv.filters[p].selected = s.selectedFilter p := by
  have step (p : Pos) {t : State} (only : FiltersOnly s t) : FiltersOnly s (t.reselect p) ∧
      (t.reselect p).drv.filters[p].selected = s.selectedFilter p ∧
      ∀ q, t.drv.filters[q].selected = s.selectedFilter q → (t.reselect p).drv.filters[q].selected = s.selectedFilter q := by
    obtain ⟨f, e, selected, -⟩ := t.reselect_eq p
    have rule : f.selected = s.selectedFilter p := selected.trans (by rw [only.eq]; rfl)
    rw [e]
    refine ⟨⟨congrArg (fun u : State => { u with drv := { u.drv with filters := upd t.drv.filters p f } }) only.eq⟩, ?_,
      fun q before => ?_⟩
    · change (upd t.drv.filters p f)[p].selected = _
      rw [upd_get_same, rule]
    · change (upd t.drv.filters p f)[q].selected = _
      rw [upd_get]
      split
      · next same => rw [rule, same]
      · exact before
  obtain ⟨only, selected⟩ := State.each_gives (inv := FiltersOnly s)
    (P := fun p t => t.drv.filters[p].selected = s.selectedFilter p) allPos (fun p x => x.reselect p)
    (fun p _ only => (step p only).1) (fun p _ only => (step p only).2.1) (fun p q _ only => (step p only).2.2 q)
    (s := s) ⟨rfl⟩
  exact ⟨only, fun p => selected p (mem_allPos p)⟩

end Release

/-- Settles O31: the opening commands every crosspoint and filter, and its readback finds nothing where all contacts are
OPEN. -/
theorem releaseOpensEverything : Obligations.ReleaseOpensEverything := by
  intro s n powered due
  refine ⟨fun since delay passed => ?_, fun opening opened => ?_⟩
  · have ran : exec .releaseDelayExpiry s = .next s.releaseOpening.recomputeBlank := by
      rw [show exec .releaseDelayExpiry s = execReleaseDelayExpiry s from rfl, execReleaseDelayExpiry, whenPowered_on powered,
        delay]
      exact congrArg _ (if_pos passed)
    have rest := ((s.setDrv_quiet _).trans s.releaseOpening.recomputeBlank_quiet).restKept
    change RestKept s s.releaseOpening.recomputeBlank at rest
    rw [State.recomputeBlank_eq] at ran rest
    refine ⟨_, s.now + max 10 (s.longest s.releasedAnts), ran, rfl, Nat.add_le_add_left (le_max_left _ _) _, fun p a => ?_,
      s.releaseOpening_filters, rfl, rfl, rfl, rfl, rfl, rest⟩
    change (s.releaseOpening.xp p a).cmd = _ ∧ (s.releaseOpening.xp p a).closed = _ ∧ _
    rw [State.releaseOpening_xp]
    exact ⟨rfl, rfl, fun cmd => Nat.add_le_add_left ((State.releasedAnts_switchTime cmd).trans (le_max_right _ _)) _⟩
  · let u := s.setDrv { s.drv with release := .none }
    have ran : exec .releaseOpeningEnd s = .next (u.each allPos fun p x => x.reselect p) := by
      rw [show exec .releaseOpeningEnd s = execReleaseOpeningEnd s from rfl, execReleaseOpeningEnd, whenPowered_on powered,
        opening]
      exact (congrArg _ (if_pos due)).trans (congrArg _ (State.endRelease_open opened))
    obtain ⟨only, selected⟩ := u.reselects
    have rest := (s.setDrv_quiet _).trans (u.each_quiet allPos (fun p x => x.reselect p) fun p t => t.reselect_quiet p)
    refine ⟨_, ran, ?_, ?_, ?_, ?_, selected, ?_, ?_, ?_, ?_, rest.restKept⟩ <;> rw [only.eq] <;> rfl

end Sys2Proof.Machine
end

section
/-! SUPPORT. CONTACT_SENSE_CHANGE: when a blanking pair is due (R149 to R153), and the outputs that follow (R154, R159). -/

namespace Sys2Proof.Machine

section Pairs

variable (s : State) (u v : Pos)

theorem State.mayPair_iff : s.mayPair u v = true ↔ u ≠ v ∧ s.inSpan u = true ∧ s.isParked v = false := by
  simp [State.mayPair, and_assoc]

/-- A position in key span is not PARKED. -/
theorem State.unparked_of_inSpan {s : State} {u : Pos} (inside : s.inSpan u = true) : s.isParked u = false := by
  cases parked : s.isParked u with
  | false => rfl
  | true =>
    rw [State.inSpan, beq_iff_eq.mp parked] at inside
    cases inside

/-- The transmit frequency made available is that of a fresh report (R26). -/
theorem State.txFreq_iff (f : Nat) : s.txFreq u = some f ↔
    ∃ x, s.bands[u].report = some x ∧ x.fresh.isSome = true ∧ x.tx.getD x.rx = f := by
  unfold State.txFreq
  cases s.bands[u].report with
  | none => simp
  | some x => cases fresh : x.fresh.isSome <;> simp [fresh]

/-- The receive frequency made available is that of a fresh report (R26). -/
theorem State.rxFreq_iff (f : Nat) : s.rxFreq u = some f ↔
    ∃ x, s.bands[u].report = some x ∧ x.fresh.isSome = true ∧ x.rx = f := by
  unfold State.rxFreq
  cases s.bands[u].report with
  | none => simp
  | some x => cases fresh : x.fresh.isSome <;> simp [fresh]

/-- Two positions that may pair conflict when the test of R150 finds it so for their frequencies (R149, R150). -/
theorem State.inConflict_iff {s : State} {u v : Pos} (pair : s.mayPair u v = true) : s.inConflict u v = true ↔
    ∃ b ft fr, s.bandOf v = some b ∧ s.txFreq u = some ft ∧ s.rxFreq v = some fr ∧
      harmonicTest ft fr s.cfg.bands[b].guardBase = true := by
  obtain ⟨ne, inside, unparked⟩ := (s.mayPair_iff u v).mp pair
  have apart : (u != v && !s.isParked u && !s.isParked v) = true := by
    simp [ne, State.unparked_of_inSpan inside, unparked]
  rw [State.inConflict, apart, Bool.true_and]
  cases s.bandOf v <;> cases s.txFreq u <;> cases s.rxFreq v <;> simp

theorem State.harmonicDue_iff : s.harmonicDue u v = true ↔ u ≠ v ∧ s.inSpan u = true ∧ s.isParked v = false ∧
    ∃ (b : Band) (x y : Report), s.bandOf v = some b ∧ s.cfg.bands[b].policy ≠ .ignore ∧ s.bands[u].report = some x ∧
      s.bands[v].report = some y ∧ x.fresh.isSome = true ∧ y.fresh.isSome = true ∧
      harmonicTest (x.tx.getD x.rx) y.rx s.cfg.bands[b].guardBase = true := by
  have blanks (b : Band) (band : s.bandOf v = some b) : s.policyBlanks v = true ↔ s.cfg.bands[b].policy ≠ .ignore := by
    simp [-Fin.getElem_fin, State.policyBlanks, band]
  rw [State.harmonicDue, Bool.and_eq_true, Bool.and_eq_true]
  constructor
  · rintro ⟨⟨pair, conflict⟩, policy⟩
    obtain ⟨ne, inside, unparked⟩ := (s.mayPair_iff u v).mp pair
    obtain ⟨b, ft, fr, band, tx, rx, test⟩ := (State.inConflict_iff pair).mp conflict
    obtain ⟨x, report, fresh, rfl⟩ := (s.txFreq_iff u ft).mp tx
    obtain ⟨y, report', fresh', rfl⟩ := (s.rxFreq_iff v fr).mp rx
    exact ⟨ne, inside, unparked, b, x, y, band, (blanks b band).mp policy, report, report', fresh, fresh', test⟩
  · rintro ⟨ne, inside, unparked, b, x, y, band, policy, report, report', fresh, fresh', test⟩
    have pair := (s.mayPair_iff u v).mpr ⟨ne, inside, unparked⟩
    exact ⟨⟨pair, (State.inConflict_iff pair).mpr ⟨b, _, _, band, (s.txFreq_iff u _).mpr ⟨x, report, fresh, rfl⟩,
      (s.rxFreq_iff v _).mpr ⟨y, report', fresh', rfl⟩, test⟩⟩, (blanks b band).mpr policy⟩

theorem State.coupledDue_iff : s.coupledDue u v = true ↔ u ≠ v ∧ s.inSpan u = true ∧ s.isParked v = false ∧
    ∃ m a : Ant, s.heldAnt u .main = some m ∧ s.cfg.ants[m].group ≠ 0 ∧ a ≠ m ∧
      s.cfg.ants[a].group = s.cfg.ants[m].group ∧ s.hasXp v a = true := by
  rw [State.coupledDue, Bool.and_eq_true, s.mayPair_iff, and_assoc, and_assoc]
  cases s.heldAnt u .main with
  | none => simp
  | some m => simp [-Fin.getElem_fin, and_assoc]

theorem State.sharedDue_iff : s.sharedDue u v = true ↔ u ≠ v ∧ s.inSpan u = true ∧ s.isParked v = false ∧
    ∃ m : Ant, s.heldAnt u .main = some m ∧ s.hasXp v m = true := by
  rw [State.sharedDue, Bool.and_eq_true, s.mayPair_iff, and_assoc, and_assoc]
  cases s.heldAnt u .main <;> simp

/-- What is due is due by the conditions of R149 to R153. -/
theorem State.pairsByRule : s.PairsByRule :=
  fun v u => ⟨s.harmonicDue_iff u v, s.coupledDue_iff u v, s.sharedDue_iff u v⟩

/-- A set of positions is not empty when a position is in it. -/
theorem PosSet.ne_zero_iff (x : PosSet) : x ≠ 0 ↔ ∃ u : Pos, x.getLsbD u.val = true := by
  constructor
  · intro ne
    by_contra none
    refine ne (BitVec.eq_of_getLsbD_eq fun i hi => ?_)
    simpa using fun h => none ⟨⟨i, hi⟩, h⟩
  · rintro ⟨u, hu⟩ rfl
    simp at hu

/-- BLK is active where a pair of some kind is due (R159). -/
theorem State.Blanked.blk_iff {s : State} (blanked : s.Blanked) (v : Pos) : s.outs[v].blk = true ↔
    ∃ u, s.harmonicDue u v = true ∨ s.coupledDue u v = true ∨ s.sharedDue u v = true := by
  obtain ⟨due, blk⟩ := blanked
  rw [blk v, Protection.nonempty]
  simp only [Bool.or_eq_true, bne_iff_ne, PosSet.ne_zero_iff, (due v _).1, (due v _).2.1, (due v _).2.2, ← exists_or,
    or_assoc]

end Pairs

section Sense

variable {s : State} {p : Pos} {a : Ant} {x : Bool}

/-- A crosspoint with its contact sensed anew (R101). -/
def State.sense (s : State) (p : Pos) (a : Ant) (x : Bool) : State := s.setXp p a { s.xp p a with closed := x }

theorem exec_contactSenseChange (powered : s.powered = true) :
    exec (.contactSenseChange p a x) s = .next (s.sense p a x).recomputeBlank :=
  whenPowered_on powered fun s => (s.sense p a x).recomputeBlank

theorem State.sense_xp_same : (s.sense p a x).xp p a = { s.xp p a with closed := x } :=
  (s.setXp_xp p p a a _).trans (if_pos ⟨rfl, rfl⟩)

theorem State.sense_xp_other {q : Pos} {b : Ant} (other : q ≠ p ∨ b ≠ a) : (s.sense p a x).xp q b = s.xp q b := by
  refine (s.setXp_xp p q a b _).trans (if_neg ?_)
  rintro ⟨rfl, rfl⟩
  exact other.elim (· rfl) (· rfl)

end Sense

/-- Settles O28: the contact is set, and then every blanking cause set and BLK are made as due. -/
theorem contactChangeRecomputesBlanking : Obligations.ContactChangeRecomputesBlanking := by
  intro s p a x powered
  have ran := exec_contactSenseChange (p := p) (a := a) (x := x) powered
  have quiet := (s.setXp_quiet p a { s.xp p a with closed := x }).trans (s.sense p a x).recomputeBlank_quiet
  have blanked := (s.sense p a x).recomputeBlank_blanked
  have outs (v : Pos) := (s.sense p a x).recomputeBlank_outs v
  have only := (s.sense p a x).recomputeBlank_eq
  generalize (s.sense p a x).recomputeBlank = t at ran quiet blanked outs only
  refine ⟨t, ran, ?_, fun q b other => ?_, blanked.1, fun v => ?_, t.pairsByRule, quiet.flags, quiet.restKept, ?_, ?_, ?_, ?_⟩
  · rw [only]
    exact State.sense_xp_same
  · rw [only]
    exact State.sense_xp_other other
  · obtain ⟨b, outs⟩ := outs v
    exact ⟨blanked.blk_iff v, by rw [outs]; rfl, by rw [outs]; rfl, by rw [outs]; rfl⟩
  all_goals rw [only]; rfl

end Sys2Proof.Machine
end

section
/-! SUPPORT. FAULT_CLEAR (R112). -/

namespace Sys2Proof.Machine

section Clear

variable {s : State}

/-- A fault clear on a serving link is answered, and then has its effect. -/
theorem exec_faultClear (h : s.Serving stationLink) (x : Byte) : exec (.faultClear x) s =
    .next ((s.faultClearRequest x).2 (s.onlyAnswers stationLink 20 (s.faultClearRequest x).1)) := by
  rw [show exec (.faultClear x) s = whenPowered s fun s => s.request stationLink (.faultClear x) from rfl,
    whenPowered_on h.1, h.request]
  exact congrArg _ (h.perform 20 (s.faultClearRequest x))

/-- A number that is no antenna's names none. -/
theorem numOf_none {x : Byte} (h : ∀ a : Ant, x.toNat ≠ a.val + 1) : numOf 20 x = none :=
  dif_neg fun ⟨one, most⟩ => h ⟨x.toNat - 1, by omega⟩ (by simp only; omega)

/-- From `s` to `t` nothing but watches of crosspoints has changed. -/
structure WatchesOnly (s t : State) : Prop where
  eq : t = { s with drv := { s.drv with xps := t.drv.xps } }
  xp : ∀ q b, (t.xp q b).cmd = (s.xp q b).cmd ∧ (t.xp q b).closed = (s.xp q b).closed

theorem State.restartWatches_only (s : State) (a : Ant) : WatchesOnly s (s.restartWatches a) := by
  refine State.each_rel WatchesOnly (fun _ => ⟨rfl, fun _ _ => ⟨rfl, rfl⟩⟩) (fun {t u v} h k => ⟨?_, fun q b => ?_⟩) _ _
    (fun p t => ⟨rfl, fun q b => ?_⟩) s
  · exact k.eq.trans (congrArg (fun w : State => { w with drv := { w.drv with xps := v.drv.xps } }) h.eq)
  · exact ⟨(k.xp q b).1.trans (h.xp q b).1, (k.xp q b).2.trans (h.xp q b).2⟩
  · rw [State.setXp_xp]
    split
    · next same => obtain ⟨rfl, rfl⟩ := same; exact ⟨rfl, rfl⟩
    · exact ⟨rfl, rfl⟩

/-- What a fault clear is answered, and what it does (R112). -/
theorem State.faultClearRequest_locked (shut : s.editOpen = false) (x : Byte) :
    s.faultClearRequest x = justAnswer .locked := by simp [State.faultClearRequest, shut]

theorem State.faultClearRequest_unknown (gate : s.editOpen = true) {x : Byte} (h : ∀ a : Ant, x.toNat ≠ a.val + 1) :
    s.faultClearRequest x = justAnswer .unknown := by simp [State.faultClearRequest, gate, numOf_none h]

theorem State.faultClearRequest_done (gate : s.editOpen = true) {x : Byte} {a : Ant} (h : x.toNat = a.val + 1) :
    s.faultClearRequest x = (.done, fun t => (t.setFault a false).restartWatches a) := by
  simp [State.faultClearRequest, gate, numOf_of_toNat h]

end Clear

/-- Settles O29: the two refusals in order, then the flag cleared and the watches started again. -/
theorem faultClearClearsFlag : Obligations.FaultClearClearsFlag := by
  intro s x serving
  have ran := exec_faultClear serving x
  refine ⟨fun shut => ?_, fun gate unknown => ?_, fun a gate num => ?_⟩
  · rw [ran, State.faultClearRequest_locked shut]
    rfl
  · rw [ran, State.faultClearRequest_unknown gate unknown]
    rfl
  · rw [State.faultClearRequest_done gate num] at ran
    have only := ((s.onlyAnswers stationLink 20 .done).setFault a false).restartWatches_only a
    refine ⟨_, ran, (congrArg (·.drv.faults) only.eq :), ?_, (congrArg (·.drv.list) only.eq :),
      (congrArg (·.drv.inProg) only.eq :), only.xp⟩
    exact only.eq.trans (congrArg (fun d : Driver => { s.onlyAnswers stationLink 20 .done with drv := d })
      (congrArg State.drv only.eq).symm)

end Sys2Proof.Machine
end

section
/-! SUPPORT. The phases of a change set that the readback agrees with (R106). -/

namespace Sys2Proof.Machine

section Phases

variable {s t : State} {c : ChangeSet}

/-- A change set put in the place of its position's is the one in progress. -/
theorem State.putProgress_progress {d : ChangeSet} (running : s.progress c.pos = some d) :
    (s.putProgress c).progress c.pos = some c := by
  have same : ((fun x : ChangeSet => x.pos == c.pos) ∘ fun x => if x.pos == c.pos then c else x) =
      fun x => x.pos == c.pos := by
    funext x
    simp only [Function.comp_apply]
    split
    · next here => rw [beq_self_eq_true, here]
    · rfl
  have pos : (d.pos == c.pos) = true := by simpa using List.find?_some running
  change (s.drv.inProg.map _).find? _ = _
  rw [List.find?_map, same, show s.drv.inProg.find? _ = some d from running, Option.map_some, if_pos pos]

/-- From `s` to `t` nothing but the change sets in progress and the crosspoints has changed. -/
structure SetsOnly (s t : State) : Prop where
  eq : t = s.setDrv { s.drv with inProg := t.drv.inProg, xps := t.drv.xps }

/-- A change set has begun its closing phase: each closing is commanded, and the phase lasts the longest switch time (R106). -/
structure ClosingBegun (s t : State) (c : ChangeSet) : Prop where
  only : SetsOnly s t
  progress : t.progress c.pos = some { c with phase := .closing (s.now + s.longest (c.closings.map (·.ant))) }
  cmd : (c.closings.map (·.ant)).Nodup → ∀ g ∈ c.closings, (t.xp c.pos g.ant).cmd = g.goal

theorem State.beginClosing_begun (running : s.progress c.pos = some c) : ClosingBegun s (s.beginClosing c) c := by
  have put := State.putProgress_progress
    (c := { c with phase := .closing (s.now + s.longest (c.closings.map (·.ant))) }) running
  have commanded := State.commands
    (s.putProgress { c with phase := .closing (s.now + s.longest (c.closings.map (·.ant))) }) c.pos c.closings
  have inProg : (s.beginClosing c).drv.inProg = _ := (congrArg (·.drv.inProg) commanded.eq :)
  refine ⟨⟨?_⟩, ?_, commanded.cmd⟩
  · rw [inProg]
    exact commanded.eq
  · rw [State.progress, inProg]
    exact put

/-- After an opening phase that the readback agrees with, only the change set and its crosspoints have moved. -/
theorem State.afterOpening_only (running : s.progress c.pos = some c) : SetsOnly s (s.afterOpening c) := by
  unfold State.afterOpening
  split
  · exact ⟨rfl⟩
  · split
    · exact (State.beginClosing_begun running).only
    · exact ⟨rfl⟩

theorem State.afterOpening_done (none : c.closings = []) : s.afterOpening c = s.endProgress c.pos := by
  rw [State.afterOpening, none]
  rfl

theorem State.afterOpening_closes (some : c.closings ≠ []) (cold : ∀ g ∈ c.closings, s.cold g.ant = true) :
    s.afterOpening c = s.beginClosing c := by
  rw [State.afterOpening, if_neg (by simpa using some), if_pos (List.all_eq_true.mpr cold)]

theorem State.afterOpening_waits (hot : ∃ g ∈ c.closings, s.cold g.ant = false) :
    s.afterOpening c = s.putProgress { c with phase := .waiting } := by
  obtain ⟨g, hg, hot⟩ := hot
  rw [State.afterOpening, if_neg (by simpa using List.ne_nil_of_mem hg),
    if_neg fun all => by simp [List.all_eq_true.mp all g hg] at hot]

end Phases

/-! ## The readback of an opening phase (R107, R109) -/

section Readback

variable {s : State} {c : ChangeSet}

/-- The antennas whose crosspoints an opening phase has not opened. -/
def State.stuck (s : State) (c : ChangeSet) : List Ant := (c.opens.filter fun o => (s.xp c.pos o.ant).closed).map (·.ant)

theorem State.mem_stuck {a : Ant} : a ∈ s.stuck c ↔ ∃ o ∈ c.opens, o.ant = a ∧ (s.xp c.pos a).closed = true := by
  simp only [State.stuck, List.mem_map, List.mem_filter]
  constructor
  · rintro ⟨o, ⟨mem, closed⟩, rfl⟩
    exact ⟨o, mem, rfl, closed⟩
  · rintro ⟨o, mem, rfl, closed⟩
    exact ⟨o, ⟨mem, closed⟩, rfl⟩

theorem State.endOpening_agrees (agrees : s.stuck c = []) : s.endOpening c = s.afterOpening c :=
  if_pos (List.isEmpty_iff.mpr agrees)

/-- The closings of a change set that return to the pending list when its opening phase finds antennas stuck. -/
def State.returning (s : State) (c : ChangeSet) : List Target := c.closings.filter fun x => !(s.stuck c).contains x.ant

theorem State.endOpening_stuck (stuck : s.stuck c ≠ []) : s.endOpening c =
    ((s.endProgress c.pos).returnClosings c.pos (s.returning c)).relayFaults c.pos (s.stuck c) .opening :=
  if_neg fun e => stuck (List.isEmpty_iff.mp e)

theorem exec_openingPhaseEnd {p : Pos} {n : Nat} (powered : s.powered = true) (running : s.progress p = some c)
    (phase : c.phase = .opening n) (due : n ≤ s.now) :
    exec (.openingPhaseEnd p) s = .next (s.endOpening c).recomputeBlank := by
  rw [show exec (.openingPhaseEnd p) s = execOpeningPhaseEnd p s from rfl, execOpeningPhaseEnd, whenPowered_on powered, running]
  dsimp only
  rw [phase]
  exact congrArg _ (if_pos due)

theorem exec_closingPhaseStart {p : Pos} (powered : s.powered = true) (running : s.progress p = some c)
    (phase : c.phase = .waiting) (cold : ∀ g ∈ c.closings, s.cold g.ant = true) :
    exec (.closingPhaseStart p) s = .next (s.beginClosing c).recomputeBlank := by
  rw [show exec (.closingPhaseStart p) s = execClosingPhaseStart p s from rfl, execClosingPhaseStart, whenPowered_on powered,
    running]
  dsimp only
  rw [phase]
  exact congrArg _ (if_pos (List.all_eq_true.mpr cold))

end Readback

end Sys2Proof.Machine
end

section
/-! SUPPORT. Closings that return to the pending list (R109): the holdings that they carried, and what is listed. -/

namespace Sys2Proof.Machine

/-! ## Books that stay -/

section Same

variable (s : State) (p : Pos)

theorem State.moveServed_same (x : Target) (v w : SwitchState) : SameBooks s (s.moveServed p x v w) := by
  unfold State.moveServed
  split
  · exact s.moveHolding_same p _ _ _ _
  · exact .refl s

theorem State.reportAlready_same (x : Target) : SameBooks s (s.reportAlready p x) :=
  ⟨s.reportAlready_frame p x, s.reportAlready_alloc p x, fun _ =>
    (s.reportAlready_keeps (v := HoldRecord.blind) p x fun _ k _ => HoldRecord.blind_switchBlind k).hold⟩

theorem State.setList_same (xs : List PendEntry) : SameBooks s (s.setList xs) := ⟨s.setList_frame xs, rfl, fun _ => rfl⟩

theorem SameBooks.each {α : Type} (xs : List α) (f : α → State → State) (h : ∀ x t, SameBooks t (f x t)) (s : State) :
    SameBooks s (s.each xs f) := State.each_rel SameBooks .refl (fun j k => j.trans k) xs f h s

/-- Targets that join the pending list show in the books in switch states alone. -/
theorem State.addTargets_same (ts : List Target) : SameBooks s (s.addTargets p ts) :=
  ((SameBooks.each _ _ (fun x t => by rw [State.listPut_eq]; exact t.setList_same _) s).trans
    (SameBooks.each _ (fun (x : Target) t => t.listRemove p x.ant) (fun _ t => t.setList_same _) _)).trans
    (SameBooks.each _ _ (fun x t => t.reportAlready_same p x) _)

theorem State.returnClosings_same (ts : List Target) : SameBooks s (s.returnClosings p ts) :=
  (SameBooks.each ts _ (fun x t => t.moveServed_same p x _ _) s).trans (State.addTargets_same _ p _)

end Same

/-! ## The holding carried by a closing -/

section Holdings

variable {s : State} {p : Pos} {k : Slot} {h : Holding}

/-- A holding that a target of a run serves is moved by it. -/
theorem State.each_moveServed {gs : List Target} {g : Target} (hg : g ∈ gs) (slot : slotOf g.goal = some k)
    {v w : SwitchState} {o : Origin} {f : Bool} (held : s.hold[p].holding k = some ⟨g.ant, v, o, f⟩) :
    (s.each gs fun g x => x.moveServed p g v w).hold[p].holding k = some ⟨g.ant, w, o, f⟩ := by
  induction gs generalizing s with
  | nil => cases hg
  | cons x xs ih =>
    have moved := State.moveServed_holding held x v w
    rw [State.each_cons]
    split at moved
    · refine State.each_keeps (fun u => u.hold[p].holding k = some ⟨g.ant, w, o, f⟩) xs _ (fun y u _ hu => ?_) _ moved
      exact (State.moveServed_holding hu y v w).trans (by simp)
    · next other =>
      rcases List.mem_cons.mp hg with rfl | hg
      · exact absurd ⟨slot, rfl, rfl⟩ other
      · exact ih hg moved

theorem State.moveHolding_other (held : s.hold[p].holding k = some h) {a : Ant} (ne : h.ant ≠ a) (j : Slot)
    (v w : SwitchState) : (s.moveHolding p j a v w).hold[p].holding k = some h := by
  unfold State.moveHolding
  split
  · next y own =>
    split
    · next moves =>
      obtain ⟨ant, -⟩ := Bool.and_eq_true_iff.mp moves
      have apart : k ≠ j := by
        rintro rfl
        obtain rfl := Option.some.inj (held.symm.trans own)
        exact ne (beq_iff_eq.mp ant)
      simp only [State.setHold_hold, upd_get_same, HoldRecord.setHolding_holding, if_neg apart]
      exact held
    · exact held
  · exact held

theorem State.completeHolding_other (held : s.hold[p].holding k = some h) {a : Ant} (ne : h.ant ≠ a) (j : Slot)
    (v : SwitchState) : (s.completeHolding p j a v).hold[p].holding k = some h := by
  have moved := State.moveHolding_other held ne j v .set
  unfold State.completeHolding
  split
  · next y _ =>
    split
    · have told := (s.moveHolding p j a v .set).notify_grow p (.granted j a y.origin)
      have after : ((s.moveHolding p j a v .set).notify p (.granted j a y.origin)).hold[p].holding k = some h := by
        rw [told.eq]
        exact moved
      cases j with
      | main => exact (congrArg (fun v : Vector HoldRecord 6 => v[p].holding k) (State.trySettle_hold _ p).1).trans after
      | listen => exact after
    · exact held
  · exact held

theorem State.reportAlready_other (held : s.hold[p].holding k = some h) {x : Target} (ne : h.ant ≠ x.ant) :
    (s.reportAlready p x).hold[p].holding k = some h := by
  unfold State.reportAlready
  split
  · exact held
  · split
    · exact State.moveHolding_other held ne _ _ _
    · exact State.completeHolding_other held ne _ _

/-- Targets that join the pending list leave a holding whose crosspoint is not among those with nothing to switch. -/
theorem State.addTargets_other (held : s.hold[p].holding k = some h) {ts : List Target}
    (apart : ∀ x ∈ ts, s.nothingToSwitch p x = true → h.ant ≠ x.ant) :
    (s.addTargets p ts).hold[p].holding k = some h := by
  have put : ∀ xs : List Target, ((s.each xs fun x y => y.listPut p x).hold = s.hold) := fun xs =>
    State.each_same State.hold _ _ (fun x t => by rw [State.listPut_eq]; rfl) s
  have removed : ∀ (xs : List Target) (u : State), (u.each xs fun x y => y.listRemove p x.ant).hold = u.hold := fun xs u =>
    State.each_same State.hold xs (fun x y => y.listRemove p x.ant) (fun _ _ => rfl) u
  refine State.each_keeps (fun t => t.hold[p].holding k = some h) _ _ (fun x t hx ht => ?_) _ ?_
  · obtain ⟨mem, done⟩ := List.mem_filter.mp hx
    exact State.reportAlready_other ht (apart x mem done)
  · rw [removed, put]
    exact held

end Holdings

/-! ## The closing in the list again -/

section Returning

variable {s : State} {p : Pos}

theorem State.newerTarget_ant (s : State) (p : Pos) (x : Target) : (s.newerTarget p x).ant = x.ant := by
  unfold State.newerTarget
  cases found : (s.pendEntry p).bind fun e => e.targets.find? fun y => y.ant == x.ant with
  | none => rfl
  | some y =>
    obtain ⟨e, -, hy⟩ := Option.bind_eq_some_iff.mp found
    exact beq_iff_eq.mp (List.find?_some (p := fun y : Target => y.ant == x.ant) hy)

/-- A closing for a crosspoint that has no target in the list returns as it is. -/
theorem State.newerTarget_unlisted {x : Target} (unlisted : s.listed p x.ant = none) : s.newerTarget p x = x := by
  have found : ((s.pendEntry p).bind fun e => e.targets.find? fun y => y.ant == x.ant) = none :=
    Option.map_eq_none_iff.mp unlisted
  rw [State.newerTarget, found]
  rfl

/-- A position's slot holds an antenna, for which its crosspoint is listed, with books that agree and a list in order. A listen
slot awaits no other antenna, and the main beside it is as given. -/
structure State.Returned (s : State) (p : Pos) (k : Slot) (h : Holding) (g : XpState) (m : Option Ant) : Prop where
  books : s.BooksAgree
  order : s.ListOrder
  held : s.hold[p].holding k = some h
  listed : s.listed p h.ant = some g
  listen : k = .listen → s.hold[p].pend .listen = none ∧ s.heldAnt p .main = m

/-- A closing that returns to the list takes the holding that it carried back to AWAITING (R109). -/
theorem State.returnClosings_returned (books : s.BooksAgree) (order : s.ListOrder) (release : s.drv.release = .none)
    (idle : s.progress p = none) {ts : List Target} (once : (ts.map (·.ant)).Nodup) {g : Target} (hg : g ∈ ts) {k : Slot}
    {o : Origin} {f : Bool} (slot : slotOf g.goal = some k) (held : s.hold[p].holding k = some ⟨g.ant, .switching, o, f⟩)
    (cmd : (s.xp p g.ant).cmd = .opened) (unlisted : s.listed p g.ant = none)
    (alone : k = .listen → s.hold[p].pend .listen = none) :
    (s.returnClosings p ts).Returned p k ⟨g.ant, .awaiting, o, f⟩ g.goal (s.heldAnt p .main) := by
  let u := s.each ts fun x y => y.moveServed p x .switching .awaiting
  have moved : OrderKept s u := OrderKept.each ts _ (fun x t => t.moveServed_kept p x _ _) s
  have drv : u.drv = s.drv := State.each_same State.drv _ _ (fun x t => by rw [t.moveServed_hold p x]) s
  have kept := s.returnClosings_kept p ts
  have same := s.returnClosings_same p ts
  have ants : (ts.map fun x => s.newerTarget p x).map (·.ant) = ts.map (·.ant) := by
    rw [List.map_map]
    exact List.map_congr_left fun x _ => s.newerTarget_ant p x
  have mem : g ∈ ts.map fun x => s.newerTarget p x := List.mem_map.mpr ⟨g, hg, State.newerTarget_unlisted unlisted⟩
  have future : u.futureXp p g.ant = .opened := by
    rw [State.futureXp, State.carriedGoal, State.progress, State.xp, drv, show s.drv.inProg.find? _ = none from idle, release]
    exact cmd
  have closes : XpState.opened ≠ g.goal := fun e => by rw [← e] at slot; cases slot
  have nodup : ((ts.map fun x => s.newerTarget p x).map (·.ant)).Nodup := ants ▸ once
  refine ⟨kept.books books, kept.list order, ?_, ?_, fun listen => ⟨(same.pend p .listen).trans (alone listen),
    same.heldAnt p .main⟩⟩
  · refine State.addTargets_other (s := u) (State.each_moveServed hg slot held) fun x hx done ant => closes ?_
    obtain rfl := List.inj_on_of_nodup_map nodup mem hx ant
    exact future.symm.trans (beq_iff_eq.mp done)
  · refine ((State.addTargets_listed (moved.list order) nodup).1 g mem).trans (if_neg ?_)
    rw [future]
    exact closes

end Returning

end Sys2Proof.Machine
end

section
/-! SUPPORT. A holding whose closing has returned to the pending list, through RELAY faults of other antennas (R109 to R111). -/

namespace Sys2Proof.Machine

namespace State.Returned

variable {s t : State} {p r : Pos} {k i : Slot} {h : Holding} {g : XpState} {m : Option Ant} {b : Ant}

/-- It stands while the record of its position, or the main part of it for a main, and its target stay. -/
theorem of_record (ret : s.Returned p k h g m) (kept : OrderKept s t)
    (record : t.hold[p] = s.hold[p] ∨ k = .main ∧ t.hold[p].main = s.hold[p].main)
    (listed : t.listed p h.ant = s.listed p h.ant) : t.Returned p k h g m := by
  obtain ⟨books, order, held, list, listen⟩ := ret
  rcases record with same | ⟨rfl, main⟩
  · refine ⟨kept.books books, kept.list order, by rw [same]; exact held, listed.trans list, fun e => ?_⟩
    rw [State.heldAnt, same]
    exact listen e
  · exact ⟨kept.books books, kept.list order, Eq.trans main held, listed.trans list, nofun⟩

/-- Wait entries that go leave it. -/
theorem expired (ret : s.Returned p k h g m) (gone : Expired s t) (kept : OrderKept s t) : t.Returned p k h g m where
  books := kept.books ret.books
  order := kept.list ret.order
  held := (gone.holding p k).trans ret.held
  listed := (State.listed_of_drv gone.drv p h.ant).trans ret.listed
  listen e := ⟨gone.pend p .listen (ret.listen e).1, (gone.heldAnt p .main).trans (ret.listen e).2⟩

theorem heldAnt (ret : s.Returned p k h g m) : s.heldAnt p k = some h.ant :=
  congrArg (Option.map fun x : Holding => x.ant) ret.held

/-- Hand-overs of listen slots pass by it: a main that is held is not awaited to listen, and a listen awaits nothing. -/
theorem handRun (ret : s.Returned p k h g m) (run : HandRun .listen s t) : t.Returned p k h g m := by
  have agree := s.booksAgree_iff.mp ret.books
  refine ret.of_record run.kept ?_ (run.listed ret.books ret.order fun j c only pend => ?_)
  · cases k with
    | main => exact .inr ⟨rfl, run.mainKept.main p⟩
    | listen => exact .inl (run.others ret.books (ret.listen rfl).1)
  · obtain rfl := only rfl
    cases k with
    | main => exact ⟨fun e => agree.own p h.ant ret.heldAnt (e ▸ pend), agree.slots p h.ant ret.heldAnt⟩
    | listen =>
      rw [(ret.listen rfl).1] at pend
      cases pend

/-- The release of another antenna by another position, or from the listen slot beside a main. -/
theorem release (ret : s.Returned p k h g m) (other : r = p → k = .main ∧ i = .listen) (held : s.heldAnt r i = some b)
    (ne : b ≠ h.ant) (n : Option Notice) : (s.releaseSlot r i b n).Returned p k h g m := by
  refine ret.of_record (State.releaseSlot_kept (.refl s) (fun _ => held) n) ?_
    ((State.releaseSlot_listed ret.order i n).2 p h.ant (.inr ne))
  by_cases same : r = p
  · obtain ⟨main, rfl⟩ := other same
    exact .inr ⟨main, (s.releaseListen_mainKept r b n).main p⟩
  · exact .inl (State.releaseSlot_others (Ne.symm same) s i b n)

/-- A follow grants a main slot of another position. -/
theorem followMain (ret : s.Returned p k h g m) (other : r ≠ p) (empty : s.heldAnt r .main = none) {c : Ant}
    (free : s.alloc[c].holder = none) : (s.grantMain r c .follow).Returned p k h g m := by
  have booked : (s.grantMainBooks r c .follow).Returned p k h g m := by
    refine ret.of_record (State.grantMainBooks_kept (.refl s) (fun _ => free) .follow)
      (.inl (State.grantMainBooks_keeps other s c .follow).hold) ?_
    exact (State.grantMainBooks_listed ret.order (by rw [empty]; nofun) .follow).2 p h.ant (.inl other.symm)
  exact booked.handRun (State.grantMain_steps_empty empty c .follow)

/-- A follow grants a listen slot of another position, or the one beside a main. -/
theorem followListen (ret : s.Returned p k h g m) (other : r = p → k = .main) (empty : s.heldAnt r .listen = none) {c : Ant}
    (room : s.hasListenRoom c = true) (own : s.heldAnt r .main ≠ some c) :
    (s.grantListen r c .follow).Returned p k h g m := by
  have apart : s.heldAnt r .listen ≠ some c := by rw [empty]; nofun
  have booked : (s.grantListenBooks r c .follow).Returned p k h g m := by
    refine ret.of_record (State.grantListenBooks_kept (.refl s) (fun _ => ⟨room, apart, own⟩) .follow) ?_ ?_
    · by_cases same : r = p
      · exact .inr ⟨other same, (s.grantListenBooks_mainKept r c .follow).main p⟩
      · exact .inl (State.grantListenBooks_keeps (v := id) (fun e => absurd e same) s c .follow).hold
    · refine (State.grantListenBooks_listed ret.order apart .follow).2 p h.ant ?_
      by_cases same : r = p
      · subst same
        obtain rfl := other rfl
        refine .inr fun x hx ant => ?_
        rw [empty] at hx
        rcases mem_grantTargets.mp hx with rfl | ⟨_, none, -⟩
        · exact own (ret.heldAnt.trans (congrArg some ant.symm))
        · cases none
      · exact .inl (Ne.symm same)
  exact booked.handRun (s.grantListen_steps r c .follow)

theorem followSlot (ret : s.Returned p k h g m) (other : r = p → k = .main ∧ i = .listen) :
    (s.followSlot r i).Returned p k h g m := by
  have kept := s.followSlot_kept r i
  rcases s.followSlot_acts r i with e | ⟨empty, b, -, ⟨c, -, good, free, e⟩ | ⟨-, e⟩⟩ <;> rw [e] at kept ⊢
  · exact ret
  · cases i with
    | main => exact ret.followMain (fun same => nomatch (other same).2) empty (Option.isNone_iff_eq_none.mp free)
    | listen => exact ret.followListen (fun same => (other same).1) empty free (by simpa using (Bool.and_eq_true_iff.mp good).2)
  · obtain ⟨drv, others⟩ := s.queuePass_local r i b
    refine ret.of_record kept ?_ (State.listed_of_drv drv p h.ant)
    by_cases same : r = p
    · obtain ⟨main, rfl⟩ := other same
      exact .inr ⟨main, (s.queuePass_mainKept r b).main p⟩
    · exact .inl (others p (Ne.symm same))

theorem followOne (ret : s.Returned p k h g m) (other : r = p → k = .main ∧ i = .listen) :
    (s.followOne r i).Returned p k h g m := by
  cases i with
  | listen => exact ret.followSlot other
  | main =>
    have away : r ≠ p := fun same => nomatch (other same).2
    have main := ret.followSlot (i := .main) other
    unfold State.followOne State.followMain
    dsimp only
    split
    · exact main.followSlot fun same => absurd same away
    · exact main

/-- The loss of another antenna, for which nobody waits. -/
theorem faultLoss (ret : s.Returned p k h g m) (empty : s.alloc[b].queue = []) (ne : b ≠ h.ant) (beside : m ≠ some b)
    (r : Pos) (i : Slot) : (s.faultLoss r i b).Returned p k h g m := by
  by_cases held : s.heldAnt r i = some b
  · have other : r = p → k = .main ∧ i = .listen := by
      rintro rfl
      have apart : i ≠ k := by
        rintro rfl
        exact ne (Option.some.inj (held.symm.trans ret.heldAnt))
      cases i with
      | main =>
        cases k with
        | main => exact absurd rfl apart
        | listen => exact absurd ((ret.listen rfl).2.symm.trans held) beside
      | listen =>
        cases k with
        | main => exact ⟨rfl, rfl⟩
        | listen => exact absurd rfl apart
    cases inside : s.inSpan r with
    | true =>
      have kept := s.faultLoss_kept r i b
      rw [State.faultLoss_inside held inside] at kept ⊢
      refine ret.of_record kept ?_ rfl
      by_cases same : r = p
      · obtain ⟨rfl, rfl⟩ := other same
        subst same
        refine .inr ⟨rfl, ?_⟩
        simp only [State.keepFaulted, State.mark, State.setHold_hold, upd_get_same]
        rfl
      · exact .inl ((upd_get_ne _ _ same).trans (upd_get_ne _ _ same))
    | false =>
      rw [State.faultLoss_outside held empty inside]
      exact (ret.release other held ne _).followOne other
  · rw [State.faultLoss, if_neg (by simpa using held)]
    exact ret

theorem faultLosses (ret : s.Returned p k h g m) (fault : s.drv.faults[b] = true) (empty : s.alloc[b].queue = [])
    (ne : b ≠ h.ant) (beside : m ≠ some b) : (s.faultLosses b).Returned p k h g m := by
  have main : (s.faultMain b).Returned p k h g m := by
    cases holds : s.alloc[b].holder with
    | none => rw [State.faultMain, holds]; exact ret
    | some r => rw [State.faultMain_eq holds]; exact ret.faultLoss empty ne beside r .main
  have gains := State.faultMain_nobodyGains fault
  refine (State.each_keeps (fun t => NobodyGains b (s.faultMain b) t ∧ t.Returned p k h g m) _ _
    (fun q t _ ⟨frame, ret⟩ => ⟨frame.trans ?_, ret.faultLoss (frame.queue (gains.queue empty)) ne beside q .listen⟩) _
    ⟨.refl b _, main⟩).2
  exact State.faultLoss_nobodyGains (frame.frame.fault (gains.frame.fault fault)) q .listen

theorem takeFault (ret : s.Returned p k h g m) (fault : s.drv.faults[b] = true) (ne : b ≠ h.ant) (beside : m ≠ some b) :
    (s.takeFault b).Returned p k h g m := by
  obtain ⟨v, expired, kept, empty, losses⟩ := State.takeFault_expires fault
  rw [losses]
  exact (ret.expired expired kept).faultLosses (by rw [expired.drv]; exact fault) empty ne beside

end State.Returned

/-! ## The driver's part of a fault, for other antennas (R110) -/

section Driver

variable {s : State} {a b : Ant}

theorem State.dropClosings_listed (order : s.ListOrder) (ne : b ≠ a) (p : Pos) :
    (s.dropClosings b).listed p a = s.listed p a := by
  have ok := (s.listOrder_iff.mp order).1
  have dropped : EntriesOk (s.dropClosings b).drv.list := ok.drop _
  refine Option.ext fun g => ?_
  rw [State.listed_iff dropped, State.listed_iff ok]
  refine listed_dropTargets.trans ⟨fun ⟨e, he, pos, hx, _⟩ => ⟨e, he, pos, hx⟩, fun ⟨e, he, pos, hx⟩ => ⟨e, he, pos, hx, ?_⟩⟩
  simp [Ne.symm ne]

theorem State.faultOpening_listed (order : s.ListOrder) (ne : b ≠ a) (p : Pos) :
    (s.faultOpening b).listed p a = s.listed p a := by
  rw [State.faultOpening_eq]
  refine (State.each_keeps (fun t => t.ListOrder ∧ t.listed p a = s.listed p a) _ _ (fun q t _ ⟨order, same⟩ =>
    ⟨(t.faultOpen_kept b q).list order, Eq.trans ?_ same⟩) s ⟨order, rfl⟩).2
  unfold State.faultOpen
  split
  · exact (State.addTargets_listed order (by simp)).2 p a (.inr fun x hx => by rw [List.mem_singleton.mp hx]; exact ne)
  · rfl

namespace State.Returned

variable {p : Pos} {k : Slot} {h : Holding} {g : XpState} {m : Option Ant}

theorem driver (ret : s.Returned p k h g m) (ne : b ≠ h.ant) :
    ((s.dropClosings b).faultOpening b).Returned p k h g m := by
  have dropped := s.dropClosings_kept b
  obtain ⟨only, -⟩ := s.faultDriver_only b
  refine ret.of_record (dropped.trans (State.faultOpening_kept _ b)) (.inl ?_)
    ((State.faultOpening_listed (dropped.list ret.order) ne p).trans (State.dropClosings_listed ret.order ne p))
  rw [only.eq]

/-- A RELAY fault of another antenna leaves it. -/
theorem relayFault (ret : s.Returned p k h g m) (ne : b ≠ h.ant) (beside : m ≠ some b) (q : Pos) (f : Finding) :
    (s.relayFault q b f).Returned p k h g m := by
  cases flag : s.drv.faults[b] with
  | true =>
    obtain ⟨v, relay, told, -⟩ := State.relayFault_set (p := q) flag f
    have start : v.Returned p k h g m := by
      rw [told]
      exact ⟨ret.books, ret.order, ret.held, ret.listed, ret.listen⟩
    rw [relay]
    exact start.driver ne
  | false =>
    obtain ⟨v, relay, told⟩ := State.relayFault_first (p := q) flag f
    have start : v.Returned p k h g m := by
      rw [told]
      exact ⟨ret.books, ret.order, ret.held, ret.listed, ret.listen⟩
    obtain ⟨-, faults, -⟩ := v.faultDriver_only b
    rw [relay]
    refine (start.driver ne).takeFault ?_ ne beside
    rw [faults, told]
    exact upd_get_same _ _ _

theorem relayFaults (ret : s.Returned p k h g m) {bs : List Ant} (apart : ∀ b ∈ bs, b ≠ h.ant ∧ m ≠ some b) (q : Pos)
    (f : Finding) : (s.relayFaults q bs f).Returned p k h g m :=
  State.each_keeps (fun t => t.Returned p k h g m) _ _
    (fun b _ hb ret => ret.relayFault (apart b hb).1 (apart b hb).2 q f) s ret

end State.Returned

end Driver

end Sys2Proof.Machine
end

section
/-! SUPPORT. RELAY faults of several antennas: the flags, the change sets in progress and the pending list (R109 to R112). -/

namespace Sys2Proof.Machine

section Closings

variable {s : State} {a : Ant}

/-- The loss of one antenna lists no closing on another that has faulted. -/
theorem State.faultLoss_opens (fault : s.drv.faults[a] = true) (p : Pos) (k : Slot) (b : Ant) :
    OnlyOpens a s (s.faultLoss p k b) := by
  unfold State.faultLoss
  split
  · split
    · exact .of_drv ((s.mark_frame p k _).trans (State.keepFaulted_frame _ p k)) rfl
    · exact State.faultWork_onlyOpens fault p k b
  · exact .refl a s

theorem State.faultLosses_opens (fault : s.drv.faults[a] = true) (b : Ant) : OnlyOpens a s (s.faultLosses b) := by
  have main : OnlyOpens a s (s.faultMain b) := by
    cases holds : s.alloc[b].holder with
    | none => rw [State.faultMain, holds]; exact .refl a s
    | some r => rw [State.faultMain_eq holds]; exact State.faultLoss_opens fault r .main b
  exact State.each_keeps (OnlyOpens a s) _ _ (fun q _ _ ht =>
    ht.trans (State.faultLoss_opens (ht.frame.fault fault) q .listen b)) _ main

/-- Where nothing on an antenna is to be closed, the driver's part of a fault of another leaves it so. -/
theorem State.faultDriver_closesNone (closes : s.ClosesNone a) (b : Ant) :
    ((s.dropClosings b).faultOpening b).ClosesNone a := by
  have dropped : (s.dropClosings b).ClosesNone a := by
    intro q y hy ant
    obtain ⟨e, he, pos, hy, -⟩ := listed_dropTargets.mp hy
    exact closes q y ⟨e, he, pos, hy⟩ ant
  rw [State.faultOpening_eq]
  refine State.each_keeps (State.ClosesNone · a) _ _ (fun q t _ ht => ?_) _ dropped
  unfold State.faultOpen
  split
  · exact (t.addTargets_onlyOpens q fun x hx _ => by rw [List.mem_singleton.mp hx]).closes ht
  · exact ht

/-- Where nothing on a faulted antenna is to be closed, a fault of another leaves it so. -/
theorem State.relayFault_closesNone (fault : s.drv.faults[a] = true) (closes : s.ClosesNone a) (p : Pos) (b : Ant)
    (f : Finding) : (s.relayFault p b f).ClosesNone a := by
  cases flag : s.drv.faults[b] with
  | true =>
    obtain ⟨v, relay, told, -⟩ := State.relayFault_set (p := p) flag f
    rw [relay]
    exact State.faultDriver_closesNone (by rw [told]; exact closes) b
  | false =>
    obtain ⟨v, relay, told⟩ := State.relayFault_first (p := p) flag f
    have drv : v.drv = { s.drv with faults := upd s.drv.faults b true } := (congrArg State.drv told :)
    have closes : ((v.dropClosings b).faultOpening b).ClosesNone a :=
      State.faultDriver_closesNone (by rw [told]; exact closes) b
    obtain ⟨-, faults, -⟩ := v.faultDriver_only b
    generalize (v.dropClosings b).faultOpening b = w at relay closes faults
    rw [drv] at faults
    obtain ⟨x, expired, -, -, losses⟩ := State.takeFault_expires (s := w) (a := b) (by rw [faults, upd_get_same])
    rw [relay, losses]
    refine (State.faultLosses_opens (s := x) (a := a) ?_ b).closes (by rw [State.ClosesNone, expired.drv]; exact closes)
    rw [expired.drv, faults, upd_get]
    split
    · rfl
    · exact fault

end Closings

section Faults

variable (s : State) (p : Pos) (bs : List Ant) (f : Finding)

/-- Several faults set the flags of their antennas and no others. -/
theorem State.relayFaults_faults (a : Ant) :
    (s.relayFaults p bs f).drv.faults[a] = true ↔ s.drv.faults[a] = true ∨ a ∈ bs := by
  unfold State.relayFaults
  induction bs generalizing s with
  | nil => simp
  | cons b bs ih =>
    rw [State.each_cons, ih, (s.relayFault_listed p b f).faults, upd_get, List.mem_cons]
    split
    · next same => simp [same]
    · next other => simp [-Fin.getElem_fin, Ne.symm other]

theorem State.relayFaults_xps : (s.relayFaults p bs f).drv.xps = s.drv.xps :=
  State.each_same (·.drv.xps) bs _ (fun b t => (t.relayFault_listed p b f).xps) s

/-- No closing on an antenna found faulty stays listed (R110). -/
theorem State.relayFaults_closesNone : ∀ a ∈ bs, (s.relayFaults p bs f).ClosesNone a := by
  have flagged {a b : Ant} {t : State} (h : t.drv.faults[a] = true) : (t.relayFault p b f).drv.faults[a] = true := by
    rw [(t.relayFault_listed p b f).faults, upd_get]
    split
    · rfl
    · exact h
  obtain ⟨-, given⟩ := State.each_gives (inv := fun _ => True)
    (P := fun a t => t.drv.faults[a] = true ∧ t.ClosesNone a) bs (fun b t => t.relayFault p b f) (fun _ _ _ => trivial)
    (fun b t _ => ⟨by rw [(t.relayFault_listed p b f).faults]; exact upd_get_same _ _ _, (t.relayFault_listed p b f).closes⟩)
    (fun b a t _ ⟨fault, closes⟩ => ⟨flagged fault, State.relayFault_closesNone fault closes p b f⟩) (s := s) trivial
  exact fun a ha => (given a ha).2

variable {s} in
theorem State.relayFault_idleAt {q : Pos} (idle : s.idleAt q) (b : Ant) : (s.relayFault p b f).idleAt q := by
  cases flag : s.drv.faults[b] with
  | true => exact (State.relayFault_flagged flag f).2.2 q idle
  | false =>
    obtain ⟨w, relay, -, -, kept, -⟩ := State.relayFault_clear (p := p) flag f
    rw [relay, State.idleAt, w.takeFault_drv b]
    exact kept q idle

variable {s} in
theorem State.relayFaults_idleAt {q : Pos} (idle : s.idleAt q) : (s.relayFaults p bs f).idleAt q :=
  State.each_keeps (State.idleAt · q) bs _ (fun b _ _ h => State.relayFault_idleAt p f h b) s idle

end Faults

end Sys2Proof.Machine
end

section
/-! SUPPORT. OPENING_PHASE_END and CLOSING_PHASE_START (R106, R107, R109). -/

namespace Sys2Proof.Machine

section Ends

variable {s : State} {c : ChangeSet}

/-- What the end of an opening phase with antennas stuck leaves of the driver (R107, R109, R110). -/
theorem State.endOpening_faults (stuck : s.stuck c ≠ []) : (s.endOpening c).idleAt c.pos ∧
    (s.endOpening c).drv.xps = s.drv.xps ∧ (∀ a ∈ s.stuck c, (s.endOpening c).ClosesNone a) ∧
    ∀ a : Ant, (s.endOpening c).drv.faults[a] = true ↔ s.drv.faults[a] = true ∨ a ∈ s.stuck c := by
  let u := (s.endProgress c.pos).returnClosings c.pos (s.returning c)
  have drv : u.drv = { (s.endProgress c.pos).drv with list := u.drv.list } :=
    ((s.endProgress c.pos).returnClosings_same c.pos (s.returning c)).frame.drv
  have idle : u.idleAt c.pos := by
    rw [State.idleAt, drv]
    exact s.endProgress_idleAt c.pos
  rw [State.endOpening_stuck stuck]
  refine ⟨State.relayFaults_idleAt _ _ _ idle, (u.relayFaults_xps _ _ _).trans (congrArg Driver.xps drv :),
    u.relayFaults_closesNone _ _ _, fun a => ?_⟩
  rw [State.relayFaults_faults, drv]
  rfl

/-- A closing of a change set with antennas stuck, on one that agreed, returns to the list, and the holding that it carried
goes back to AWAITING (R109). -/
theorem State.endOpening_returned (stuck : s.stuck c ≠ []) (running : s.progress c.pos = some c) (books : s.BooksAgree)
    (order : s.ListOrder) (release : s.drv.release = .none) {g : Target} (hg : g ∈ c.closings) {k : Slot} {o : Origin}
    {f : Bool} (slot : slotOf g.goal = some k) (held : s.hold[c.pos].holding k = some ⟨g.ant, .switching, o, f⟩)
    (agreed : g.ant ∉ s.stuck c) (cmd : (s.xp c.pos g.ant).cmd = .opened) (unlisted : s.listed c.pos g.ant = none)
    (keeps : k = .main ∨ s.hold[c.pos].pendListen = none ∧ ∀ a ∈ s.stuck c, s.heldAnt c.pos .main ≠ some a) :
    (s.endOpening c).Returned c.pos k ⟨g.ant, .awaiting, o, f⟩ g.goal (s.heldAnt c.pos .main) := by
  let u := s.endProgress c.pos
  have ended : OrderKept s u := s.endProgress_kept c.pos
  obtain ⟨-, -, -, single⟩ := s.listOrder_iff.mp order
  have targets : (c.targets.map (·.ant)).Nodup := single c (List.mem_of_find?_eq_some running)
  have nodup : ((s.returning c).map (·.ant)).Nodup :=
    targets.sublist ((List.filter_sublist.trans List.filter_sublist).map _)
  have returns : g ∈ s.returning c := List.mem_filter.mpr ⟨hg, by simpa using agreed⟩
  have ret := State.returnClosings_returned (s := u) (p := c.pos) (ended.books books) (ended.list order) release
    (State.progress_none.mpr (s.endProgress_idleAt c.pos)) nodup returns slot held cmd unlisted
    fun listen => (keeps.resolve_left (by rw [listen]; nofun)).1
  rw [State.endOpening_stuck stuck]
  refine ret.relayFaults (fun a ha => ⟨fun same => agreed (by rw [same] at ha; exact ha), ?_⟩) c.pos .opening
  rcases keeps with rfl | ⟨-, apart⟩
  · have main : s.heldAnt c.pos .main = some g.ant := congrArg (Option.map fun x : Holding => x.ant) held
    rw [show u.heldAnt c.pos .main = some g.ant from main]
    exact fun same => agreed (Option.some.inj same ▸ ha)
  · exact apart a ha

end Ends

/-- Settles O25: an opening phase that the readback agrees with leads on as R106 says; one with antennas stuck returns its
closings to the list, which the RELAY faults of those antennas then leave; and a waiting set closes once its antennas are
cold. -/
theorem phasesFollowEachOther : Obligations.PhasesFollowEachOther := by
  intro s p c n powered running
  obtain rfl : c.pos = p := by simpa using List.find?_some running
  refine ⟨fun phase due agrees => ?_, fun phase due found => ?_, fun phase cold once => ?_⟩
  · have none : s.stuck c = [] := List.eq_nil_iff_forall_not_mem.mpr fun a ha => by
      obtain ⟨o, ho, rfl, closed⟩ := State.mem_stuck.mp ha
      rw [agrees o ho] at closed
      cases closed
    have ran := exec_openingPhaseEnd powered running phase due
    have rest := ((s.afterOpening_quiet c).trans (State.recomputeBlank_quiet _)).restKept
    obtain ⟨only⟩ := State.afterOpening_only running
    rw [State.endOpening_agrees none] at ran
    rw [State.recomputeBlank_eq] at ran rest
    refine ⟨_, ran, (congrArg State.alloc only :), (congrArg State.hold only :), (congrArg State.links only :),
      (congrArg (·.drv.list) only :), (congrArg (·.drv.faults) only :), (congrArg State.seqs only :), rest,
      fun none => ?_, fun some cold => ?_, fun hot => ?_⟩
    · exact (congrArg (·.drv.inProg) (State.afterOpening_done none) :)
    · refine ⟨_, ?_, s.lastsLongest (by simpa using some)⟩
      change (s.afterOpening c).progress c.pos = _
      rw [State.afterOpening_closes some cold]
      exact (State.beginClosing_begun running).progress
    · change (s.afterOpening c).progress c.pos = _ ∧ (s.afterOpening c).drv.xps = _
      rw [State.afterOpening_waits hot]
      exact ⟨State.putProgress_progress (c := { c with phase := .waiting }) running, rfl⟩
  · have stuck : s.stuck c ≠ [] := by
      obtain ⟨o, ho, closed⟩ := found
      exact List.ne_nil_of_mem (State.mem_stuck.mpr ⟨o, ho, rfl, closed⟩)
    have ran := exec_openingPhaseEnd powered running phase due
    have quiet := s.endOpening_quiet c
    have rest := (quiet.trans (State.recomputeBlank_quiet _)).restKept
    obtain ⟨idle, xps, closes, faults⟩ := State.endOpening_faults stuck
    rw [State.recomputeBlank_eq] at ran rest
    refine ⟨_, ran, State.progress_none.mpr idle, fun a => (faults a).trans (or_congr_right State.mem_stuck),
      fun e he y hy bad => closes y.ant (State.mem_stuck.mpr bad) e.pos y ⟨e, he, rfl, hy⟩ rfl, fun q a => ?_, rest,
      quiet.bands, fun books order release g hg k o f slot held agreed cmd unlisted keeps => ?_⟩
    · change (State.xp (s.endOpening c) q a).cmd = _ ∧ (State.xp (s.endOpening c) q a).closed = _
      rw [State.xp, xps]
      exact ⟨rfl, rfl⟩
    · have ret := State.endOpening_returned stuck running books order release hg slot held
        (fun bad => by
          obtain ⟨x, hx, ant, closed⟩ := State.mem_stuck.mp bad
          exact agreed x hx (ant ▸ closed) ant) cmd unlisted
        (keeps.imp_right fun ⟨alone, apart⟩ => ⟨alone, fun a ha => by
          obtain ⟨x, hx, rfl, -⟩ := State.mem_stuck.mp ha
          exact apart x hx⟩)
      exact ⟨ret.held, ret.listed⟩
  · have ran := exec_closingPhaseStart powered running phase cold
    have rest := ((s.beginClosing_quiet c).trans (State.recomputeBlank_quiet _)).restKept
    obtain ⟨⟨only⟩, progress, cmd⟩ := State.beginClosing_begun running
    rw [State.recomputeBlank_eq] at ran rest
    exact ⟨_, _, ran, progress, cmd once, fun some => s.lastsLongest (by simpa using some), (congrArg State.alloc only :),
      (congrArg State.hold only :), (congrArg State.links only :), (congrArg (·.drv.list) only :),
      (congrArg State.seqs only :), rest⟩

end Sys2Proof.Machine
end

section
/-! SUPPORT. What leaves the key spans as they stand (R52, R108, R118, R121, R135, R159): one relation, and that every
operation of allocation stays within it. -/

namespace Sys2Proof.Machine

/-! ## Steady key spans -/

/-- Every output stands as its owner commands (R118, R159). -/
def State.Commanded (s : State) : Prop := ∀ p : Pos, s.outs[p] = s.commanded p

def State.isKeyed (s : State) (p : Pos) : Prop := ∃ n, s.seqs[p] = .keyed n

/-- From `s` to `t` a settle condition that holds in KEYED holds on. -/
def CondKept (s t : State) (p : Pos) : Prop := s.isKeyed p → s.settleCond p = true → t.settleCond p = true

/-- From `s` to `t` no sequencer moves but from SETTLING to KEYED with its settle condition fulfilled, the outputs follow,
and no key-span record, protect flag, setting or time changes. -/
structure Steady (s t : State) : Prop where
  powered : t.powered = s.powered
  now : t.now = s.now
  cfg : t.cfg = s.cfg
  spans : t.spans = s.spans
  flags : ∀ p : Pos, t.prot[p].flag = s.prot[p].flag
  outs : s.Commanded → t.Commanded
  seqs : ∀ p : Pos, (t.seqs[p] = s.seqs[p] ∧ CondKept s t p) ∨
    ∃ since, s.seqs[p] = .settling since ∧ since + s.cfg.pos[p].ampSettle ≤ s.now ∧ t.seqs[p] = .keyed s.now ∧
      t.settleCond p = true

namespace Steady

variable {s t u : State}

theorem refl (s : State) : Steady s s := ⟨rfl, rfl, rfl, rfl, fun _ => rfl, id, fun _ => .inl ⟨rfl, fun _ => id⟩⟩

theorem trans (h : Steady s t) (k : Steady t u) : Steady s u where
  powered := k.powered.trans h.powered
  now := k.now.trans h.now
  cfg := k.cfg.trans h.cfg
  spans := k.spans.trans h.spans
  flags p := (k.flags p).trans (h.flags p)
  outs c := k.outs (h.outs c)
  seqs p := by
    rcases h.seqs p with ⟨same, cond⟩ | ⟨since, settling, due, keyed, cond⟩
    · rcases k.seqs p with ⟨same', cond'⟩ | ⟨since, settling, due, keyed, cond'⟩
      · refine .inl ⟨same'.trans same, fun ⟨n, hn⟩ c => cond' ⟨n, same.trans hn⟩ (cond ⟨n, hn⟩ c)⟩
      · rw [h.cfg, h.now] at due
        exact .inr ⟨since, same.symm.trans settling, due, by rw [keyed, h.now], cond'⟩
    · rcases k.seqs p with ⟨same', cond'⟩ | ⟨_, settling', _⟩
      · exact .inr ⟨since, settling, due, same'.trans keyed, cond' ⟨_, keyed⟩ cond⟩
      · rw [keyed] at settling'
        cases settling'

theorem each {α : Type} (xs : List α) (f : α → State → State) (h : ∀ x t, Steady t (f x t)) (s : State) :
    Steady s (s.each xs f) := State.each_rel Steady .refl (fun a b => a.trans b) xs f h s

theorem inSpan (h : Steady s t) (p : Pos) : t.inSpan p = s.inSpan p := by
  unfold State.inSpan
  rcases h.seqs p with ⟨same, -⟩ | ⟨_, settling, -, keyed, -⟩
  · rw [same]
  · rw [settling, keyed]
    rfl

theorem isParked (h : Steady s t) (p : Pos) : t.isParked p = s.isParked p := by
  unfold State.isParked
  rcases h.seqs p with ⟨same, -⟩ | ⟨_, settling, -, keyed, -⟩
  · rw [same]
  · rw [settling, keyed]
    rfl

theorem out (h : Steady s t) {p : Pos} (out : s.inSpan p = false) : t.inSpan p = false := (h.inSpan p).trans out

/-- The settle condition reads the main holding and the filter switch alone (R108). -/
theorem settleCond_congr {q : Pos} (main : t.hold[q].main.map (·.sw) = s.hold[q].main.map (·.sw))
    (filters : t.drv.filters = s.drv.filters) : t.settleCond q = s.settleCond q := by
  rw [State.settleCond, State.settleCond, main, filters]

/-- A change that shows in no sequencer, output, record, setting, cause set or time. -/
theorem of_same (powered : t.powered = s.powered) (now : t.now = s.now) (cfg : t.cfg = s.cfg) (spans : t.spans = s.spans)
    (prot : t.prot = s.prot) (outs : t.outs = s.outs) (seqs : t.seqs = s.seqs) (cond : ∀ p, CondKept s t p) :
    Steady s t where
  powered := powered
  now := now
  cfg := cfg
  spans := spans
  flags _ := by rw [prot]
  outs c p := by
    rw [outs, State.commanded, seqs, prot]
    exact c p
  seqs p := .inl ⟨by rw [seqs], cond p⟩

end Steady

theorem State.inSpan_of_keyed {s : State} {p : Pos} (h : s.isKeyed p) : s.inSpan p = true := by
  obtain ⟨n, h⟩ := h
  rw [State.inSpan, h]
  rfl

section Alloc

variable {s t : State} {p : Pos}

/-- A sequencer that settles commands the levels of KEYED (R118). -/
theorem AllocFrame.commanded (h : AllocFrame s t) (c : s.Commanded) : t.Commanded := by
  intro p
  rw [State.commanded, h.prot]
  rcases h.seqs p with ⟨seq, out⟩ | ⟨_, _, -, seq, out⟩
  · rw [seq, out]
    exact c p
  · rw [seq, out, c p, State.commanded, SeqState.outputs_outputs]

theorem AllocFrame.steady_of_cond (h : AllocFrame s t) (seqs : t.seqs = s.seqs) (cond : ∀ p, CondKept s t p) :
    Steady s t where
  powered := h.powered
  now := h.now
  cfg := h.cfg
  spans := h.spans
  flags _ := by rw [h.prot]
  outs := h.commanded
  seqs p := .inl ⟨by rw [seqs], cond p⟩

/-- Allocation that leaves the sequencers, and the main holdings of the positions in key span. -/
theorem AllocFrame.steady (h : AllocFrame s t) (seqs : t.seqs = s.seqs)
    (main : ∀ q, s.inSpan q = true → t.hold[q].main.map (·.sw) = s.hold[q].main.map (·.sw)) : Steady s t :=
  h.steady_of_cond seqs fun q keyed cond =>
    (Steady.settleCond_congr (main q (State.inSpan_of_keyed keyed)) (by rw [h.drv])).trans cond

/-- The settling of one position that leaves the main holdings of all others. -/
theorem SettlesAt.steady (h : SettlesAt p s t) (others : ∀ q, q ≠ p → t.hold[q].main = s.hold[q].main) : Steady s t where
  powered := h.frame.powered
  now := h.frame.now
  cfg := h.frame.cfg
  spans := h.frame.spans
  flags _ := by rw [h.frame.prot]
  outs := h.frame.commanded
  seqs q := by
    have cond : CondKept s t q := by
      intro _ c
      by_cases same : q = p
      · subst same
        exact h.cond c
      · exact (Steady.settleCond_congr (by rw [others q same]) (by rw [h.frame.drv])).trans c
    rcases h.seqs with ⟨seqs, -⟩ | ⟨since, settling, due, reached, seqs, -⟩
    · exact .inl ⟨by rw [seqs], cond⟩
    · by_cases same : p = q
      · subst same
        exact .inr ⟨since, settling, due, by rw [seqs, upd_get_same], reached⟩
      · exact .inl ⟨by rw [seqs, upd_get_ne _ _ same], cond⟩

theorem LinksGrow.steady (h : LinksGrow s t) : Steady s t := by
  rw [h.eq]
  exact .of_same rfl rfl rfl rfl rfl rfl rfl fun _ _ => id

end Alloc

/-! ## Single acts -/

section Acts

variable (s : State) (p : Pos) (k : Slot) (a : Ant)

theorem State.notify_steady (n : Notice) : Steady s (s.notify p n) := (s.notify_grow p n).steady

theorem State.trySettle_steady : Steady s (s.trySettle p) := by
  refine (s.trySettle_settlesAt p).steady fun q _ => ?_
  unfold State.trySettle
  split <;> rfl

theorem State.setAlloc_steady (x : AllocRecord) : Steady s (s.setAlloc a x) :=
  .of_same rfl rfl rfl rfl rfl rfl rfl fun _ _ => id

theorem State.redetermine_steady : Steady s (s.redetermine a) := s.setAlloc_steady a _

theorem State.setList_steady (xs : List PendEntry) : Steady s (s.setList xs) :=
  .of_same rfl rfl rfl rfl rfl rfl rfl fun _ _ => id

/-- A holding record changed beside the main slot. -/
theorem State.setHold_steady {x : HoldRecord} (h : x.main.map (·.sw) = s.hold[p].main.map (·.sw)) :
    Steady s (s.setHold p x) := by
  refine (s.setHold_frame p x).steady rfl fun q _ => ?_
  rw [State.setHold_hold, upd_get]
  split
  · next e => rw [h, e]
  · rfl

theorem State.mark_steady (m : Option Mark) : Steady s (s.mark p k m) := s.setHold_steady p (by cases k <;> rfl)

theorem State.keepFaulted_steady : Steady s (s.keepFaulted p k) := by
  refine s.setHold_steady p ?_
  cases k with
  | listen => rfl
  | main => exact (Option.map_map _ _ _).trans rfl

theorem State.removeEntry_steady : Steady s (s.removeEntry a p k) :=
  ((s.setHold_steady p (x := s.hold[p].setPend k none) (by cases k <;> rfl)).trans (State.setAlloc_steady _ a _)).trans
    (State.redetermine_steady _ a)

theorem State.appendEntry_steady (o : Origin) : Steady s (s.appendEntry a p k o) :=
  ((s.setHold_steady p (x := s.hold[p].setPend k (some a)) (by cases k <;> rfl)).trans (State.setAlloc_steady _ a _)).trans
    (State.redetermine_steady _ a)

theorem State.expire_steady (c : Cause) : Steady s (s.expire a p k c) :=
  (s.removeEntry_steady p k a).trans (State.notify_steady _ p _)

theorem State.removePending_steady : Steady s (s.removePending p k) := by
  unfold State.removePending
  split
  · exact .refl s
  · exact s.removeEntry_steady p k _

theorem State.withdraw_steady : Steady s (s.withdraw p k) := by
  unfold State.withdraw
  split
  · exact .refl s
  · exact (s.removeEntry_steady p k _).trans (State.notify_steady _ p _)

theorem State.claimEntry_steady : Steady s (s.claimEntry a p k) := s.setAlloc_steady a _

end Acts

/-! ## Releases, grants, hand-overs (R56, R60, R64 to R68) -/

section Hands

variable {s t : State} {p : Pos}

theorem MainKept.steady (h : MainKept s t) (frame : AllocFrame s t) (seqs : t.seqs = s.seqs) : Steady s t :=
  frame.steady seqs fun q _ => by rw [h.main q]

theorem State.grantListenBooks_steady (s : State) (p : Pos) (a : Ant) (o : Origin) : Steady s (s.grantListenBooks p a o) :=
  (s.grantListenBooks_mainKept p a o).steady (State.grantListenBooks_frame s p a o) (s.grantListenBooks_seqs p a o).1

/-- A main granted outside key span. -/
theorem State.grantMainBooks_steady (out : s.inSpan p = false) (a : Ant) (o : Origin) :
    Steady s (s.grantMainBooks p a o) := by
  refine (s.grantMainBooks_frame p a o).steady (State.grantMainBooks_seqs out a o).1 fun q inside => ?_
  have ne : p ≠ q := fun same => by rw [same, inside] at out; cases out
  exact congrArg (fun h : HoldRecord => h.main.map (·.sw)) (State.grantMainBooks_keeps ne s a o).hold

theorem HandStep.steady {j : Slot} (h : HandStep s j t) : Steady s t := by
  cases h with
  | expire _ => exact s.expire_steady _ _ _ _
  | listen _ _ _ _ => exact (s.removeEntry_steady _ _ _).trans (State.grantListenBooks_steady _ _ _ _)
  | @main a e _ _ _ out =>
    have removed := s.removeEntry_steady e.pos .main a
    exact removed.trans (State.grantMainBooks_steady (removed.out out) _ _)

theorem HandRun.steady {k : Slot} (h : HandRun k s t) : Steady s t :=
  h.keeps (P := Steady s) (fun _ _ _ _ step ih => ih.trans step.steady) (.refl s)

theorem State.handSlot_steady (s : State) (k : Slot) (a : Ant) : Steady s (s.handSlot k a) := (s.handSlot_steps k a).steady

theorem State.grantMain_steady (out : s.inSpan p = false) (a : Ant) (o : Origin) : Steady s (s.grantMain p a o) :=
  (State.grantMainBooks_steady out a o).trans (s.grantMain_steps p a o).steady

theorem State.grantListen_steady (s : State) (p : Pos) (a : Ant) (o : Origin) : Steady s (s.grantListen p a o) :=
  (s.grantListenBooks_steady p a o).trans (s.grantListen_steps p a o).steady

/-- A slot released: a main outside key span, or a listen. -/
theorem State.releaseSlot_steady {k : Slot} (out : k = .main → s.inSpan p = false) (a : Ant) (n : Option Notice) :
    Steady s (s.releaseSlot p k a n) := by
  refine (s.releaseSlot_frame p k a n).steady (s.releaseSlot_seqs p k a n).1 fun q inside => ?_
  by_cases same : q = p
  · subst same
    cases k with
    | main => rw [out rfl] at inside; cases inside
    | listen => exact congrArg (Option.map (·.sw)) (s.releaseListen_mainKept q a n |>.main q)
  · rw [State.releaseSlot_others same]

theorem State.lose_steady {k : Slot} (out : k = .main → s.inSpan p = false) (n : Ant → Option Notice) :
    Steady s (s.lose p k n) := by
  cases held : s.heldAnt p k with
  | none =>
    rw [State.lose, held]
    exact .refl s
  | some a =>
    rw [State.lose_of_held held]
    exact (State.releaseSlot_steady out a _).trans (State.handSlot_steady _ k a)

theorem State.preempt_steady {h w : Pos} (outH : s.inSpan h = false) (outW : s.inSpan w = false) (a : Ant) :
    Steady s (s.preempt a h w) := by
  obtain ⟨o, eq⟩ := s.preempt_eq a h w
  have yielded : Steady s (s.yielded a h w) :=
    (State.releaseSlot_steady (k := .main) (fun _ => outH) a _).trans (State.removeEntry_steady _ w .main a)
  rw [eq]
  exact yielded.trans (State.grantMain_steady (yielded.out outW) a o)

theorem State.cancelEffect_steady (s : State) (p : Pos) (x : CancelSlot) : Steady s (s.cancelEffect p x) := by
  cases x with
  | main => exact s.removePending_steady p .main
  | listen => exact s.removePending_steady p .listen
  | both => exact (s.removePending_steady p .main).trans (State.removePending_steady _ p .listen)

theorem State.dropMainEffect_steady (out : s.inSpan p = false) : Steady s (s.dropMainEffect p) := by
  unfold State.dropMainEffect
  split
  · exact s.removePending_steady p .main
  · next a _ =>
    exact ((State.releaseSlot_steady (k := .main) (fun _ => out) a _).trans (State.removePending_steady _ p .main)).trans
      (State.handSlot_steady _ .main a)

/-! ## Follow and the work of one slot (R89 to R97, R111, R179) -/

theorem State.queuePass_steady (s : State) (p : Pos) (k : Slot) (b : Band) : Steady s (s.queuePass p k b) := by
  cases found : (s.prefList p b k).find? fun a => s.candidate k p a && s.mayQueue k p a with
  | none =>
    rw [State.queuePass_none found]
    exact s.notify_steady p _
  | some a =>
    rw [State.queuePass_some found]
    exact (s.withdraw_steady p k).trans (State.appendEntry_steady _ p k a _)

theorem State.followSlot_steady (out : s.inSpan p = false) (k : Slot) : Steady s (s.followSlot p k) := by
  rcases s.followSlot_acts p k with e | ⟨-, b, -, ⟨a, -, -, -, e⟩ | ⟨-, e⟩⟩ <;> rw [e]
  · exact .refl s
  · cases k with
    | main => exact State.grantMain_steady out a .follow
    | listen => exact s.grantListen_steady p a .follow
  · exact s.queuePass_steady p k b

theorem State.followOne_steady (out : s.inSpan p = false) (k : Slot) : Steady s (s.followOne p k) := by
  cases k with
  | listen => exact State.followSlot_steady out .listen
  | main =>
    have main := State.followSlot_steady out .main
    unfold State.followOne State.followMain
    dsimp only
    split
    · exact main.trans (State.followSlot_steady (main.out out) .listen)
    · exact main

theorem State.loseIf_steady (out : s.inSpan p = false) (k : Slot) (b : Bool) (c : Cause) :
    Steady s (if b then s.loseFor p k c else s) := by
  split
  · exact State.lose_steady (fun _ => out) _
  · exact .refl s

/-- A slot released for a cause, or left, and followed. -/
theorem State.loseIf_followOne_steady (out : s.inSpan p = false) (k : Slot) (b : Bool) (c : Cause) :
    Steady s ((if b then s.loseFor p k c else s).followOne p k) :=
  have lost := State.loseIf_steady out k b c
  lost.trans (State.followOne_steady (lost.out out) k)

theorem State.faultWork_steady (out : s.inSpan p = false) (k : Slot) (a : Ant) : Steady s (s.faultWork p k a) :=
  State.loseIf_followOne_steady out k (s.heldAnt p k == some a || s.slotIneligible p k) .fault

theorem State.editWork_steady (out : s.inSpan p = false) (k : Slot) : Steady s (s.editWork p k) := by
  unfold State.editWork
  split
  · exact State.loseIf_followOne_steady out k true .edit
  · exact .refl s

theorem State.segmentWork_steady (out : s.inSpan p = false) (k : Slot) : Steady s (s.segmentWork p k) :=
  State.loseIf_followOne_steady out k (s.slotIneligible p k) .segment

theorem State.bandRelease_steady (out : s.inSpan p = false) (k : Slot) : Steady s (s.bandRelease p k) := by
  unfold State.bandRelease
  split
  · exact State.loseIf_steady out k (s.slotIneligible p k) .band
  · exact State.loseIf_steady out k true .band

theorem State.markWork_steady (out : s.inSpan p = false) (k : Slot) (m : Mark) : Steady s (s.markWork p k m) := by
  cases m with
  | band =>
    have released := State.bandRelease_steady out k
    exact released.trans (State.followOne_steady (released.out out) k)
  | segment => exact State.segmentWork_steady out k
  | fault a => exact State.faultWork_steady out k a
  | edit => exact State.editWork_steady out k

/-! ## Events from other blocks (R70, R78, R93 to R96, R111) -/

theorem State.allocSegmentChange_steady (s : State) (p : Pos) (side : Side) : Steady s (s.allocSegmentChange p side) := by
  cases inside : s.inSpan p with
  | true =>
    rw [State.allocSegmentChange_inSpan inside]
    exact s.mark_steady p _ _
  | false =>
    rw [State.allocSegmentChange_outside inside]
    exact State.segmentWork_steady inside _

theorem State.allocBandChange_steady (s : State) (p : Pos) : Steady s (s.allocBandChange p) := by
  have withdrawn := (s.withdraw_steady p .main).trans (State.withdraw_steady _ p .listen)
  unfold State.allocBandChange
  dsimp only
  split
  · exact withdrawn.trans ((State.mark_steady _ p .main _).trans (State.mark_steady _ p .listen _))
  · next outside =>
    have out := Bool.eq_false_iff.mpr outside
    have main := State.bandRelease_steady out .main
    have released := main.trans (State.bandRelease_steady (main.out out) .listen)
    have followed := released.trans (State.followSlot_steady (released.out out) .main)
    exact withdrawn.trans (followed.trans (State.followSlot_steady (followed.out out) .listen))

theorem State.faultLoss_steady (s : State) (p : Pos) (k : Slot) (a : Ant) : Steady s (s.faultLoss p k a) := by
  unfold State.faultLoss
  split
  · split
    · exact (s.mark_steady p k _).trans (State.keepFaulted_steady _ p k)
    · next outside => exact State.faultWork_steady (Bool.eq_false_iff.mpr outside) k a
  · exact .refl s

theorem State.allocFault_steady (s : State) (a : Ant) : Steady s (s.allocFault a) := by
  have main (t : State) : Steady t (t.faultMain a) := by
    unfold State.faultMain
    cases t.alloc[a].holder with
    | none => exact .refl t
    | some h => exact t.faultLoss_steady h .main a
  rw [State.allocFault_eq]
  refine Steady.trans (t := (s.faultExpired a).faultMain a) (Steady.trans (t := s.faultExpired a) ?_ (main _)) ?_
  · exact Steady.each s.alloc[a].queue _ (fun e t => State.expire_steady t e.pos e.kind a .fault) s
  · exact Steady.each _ _ (fun q t => t.faultLoss_steady q .listen a) _

/-- A fault event taken: the flag is set, so that a yield expiry that is due pre-empts nobody (R84). -/
theorem State.takeFault_steady {a : Ant} (fault : s.drv.faults[a] = true) : Steady s (s.takeFault a) := by
  have counted : Steady s { s with freeIx := s.freeIx + 1 } := .of_same rfl rfl rfl rfl rfl rfl rfl fun _ _ => id
  rcases s.takeFault_cases a with ⟨-, e⟩ | ⟨-, e | e⟩ <;> rw [e]
  · exact s.allocFault_steady a
  · exact counted.trans (State.allocFault_steady _ a)
  · have expired : Steady { s with freeIx := s.freeIx + 1 } ({ s with freeIx := s.freeIx + 1 }.yieldExpire a) := by
      rcases State.yieldExpire_faulted (s := { s with freeIx := s.freeIx + 1 }) fault with same | ⟨w, expires⟩
      · rw [same]
        exact .refl _
      · rw [expires]
        exact State.expire_steady _ w .main a _
    exact (counted.trans expired).trans (State.allocFault_steady _ a)

/-- A timer that is ruled runs for a holder and a waiter outside key span, so its expiry pre-empts nobody in key span (R77,
R80). -/
theorem State.yieldIfDue_steady {a : Ant} (rule : s.YieldByRule a) : Steady s (s.yieldIfDue a) := by
  unfold State.yieldIfDue
  split
  · next due =>
    rw [State.yieldDue] at due
    cases timer : s.alloc[a].yieldT with
    | running h w n since =>
      obtain ⟨holder, head, outH, outW⟩ := rule.2.1 h w n since timer
      rw [State.yieldExpire, holder, head]
      dsimp only
      split
      · exact State.preempt_steady outH outW a
      · exact s.expire_steady w .main a _
    | stopped | holding h w n => rw [timer] at due; cases due
  · exact .refl s

theorem State.allocEntry_steady (s : State) (p : Pos) : Steady s (s.allocEntry p) := by
  refine Steady.each _ _ (fun a t => ?_) s
  split
  · exact t.redetermine_steady a
  · exact .refl t

/-- A position that has left key span is worked on by allocation (R70). -/
theorem State.allocLeaving_steady (out : s.inSpan p = false) : Steady s (s.allocLeaving p) := by
  have slot (t : State) (out : t.inSpan p = false) (k : Slot) : Steady t (t.tailSlotWork p k) := by
    unfold State.tailSlotWork
    split
    · exact .refl t
    · exact (State.markWork_steady out k _).trans (State.mark_steady _ p k none)
  have hand (t : State) : Steady t (t.tailHandOver p) := by
    unfold State.tailHandOver
    split
    · split
      · exact t.handSlot_steady .main _
      · exact .refl t
    · exact .refl t
  have main := slot s out .main
  refine ((main.trans (slot _ (main.out out) .listen)).trans (hand _)).trans (Steady.each _ _ (fun a t => ?_) _)
  split
  · exact (t.redetermine_steady a).trans (State.yieldIfDue_steady (t.redetermine_byRule a))
  · exact .refl t

/-! ## Revalidation, parking and writes (R35, R71, R75, R85, R179) -/

theorem State.revalidateSlot_steady (s : State) (p : Pos) (k : Slot) : Steady s (s.revalidateSlot p k) := by
  unfold State.revalidateSlot
  split
  · split
    · exact s.mark_steady p k _
    · next outside => exact State.editWork_steady (Bool.eq_false_iff.mpr outside) k
  · exact .refl s

theorem State.handListen_steady (s : State) (a : Ant) : Steady s (State.handListen a s) := s.handSlot_steady .listen a

theorem State.revalidateHand_steady (s : State) (a : Ant) : Steady s (s.revalidateHand a) := by
  have listen (t : State) :
      Steady t (if t.hasListenRoom a && !(t.arbitration a .listen).isEmpty then State.handListen a t else t) := by
    split
    · exact t.handListen_steady a
    · exact .refl t
  unfold State.revalidateHand
  dsimp only
  split
  · exact (s.handSlot_steady .main a).trans (listen _)
  · exact listen s

theorem State.revalidate_steady (s : State) : Steady s s.revalidate := by
  have dropped (a : Ant) (t : State) : Steady t (t.dropIneligible a) := by
    refine Steady.each _ _ (fun e u => ?_) t
    split
    · exact .refl u
    · exact u.expire_steady e.pos e.kind a .edit
  exact ((Steady.each _ _ dropped s).trans (Steady.each _ _ (fun p t =>
    (t.revalidateSlot_steady p .main).trans (State.revalidateSlot_steady _ p .listen)) _)).trans
    (Steady.each _ _ (fun a t => t.revalidateHand_steady a) _)

theorem State.allocPark_steady (out : s.inSpan p = false) : Steady s (s.allocPark p) := by
  have release (t : State) (out : t.inSpan p = false) (k : Slot) (old : Option Ant) : Steady t (t.releaseHeld p k old) := by
    cases old with
    | none => exact .refl t
    | some a => exact State.releaseSlot_steady (fun _ => out) a _
  have hand (t : State) (k : Slot) (old : Option Ant) : Steady t (t.handHeld k old) := by
    cases old with
    | none => exact .refl t
    | some a => exact t.handSlot_steady k a
  have main := release s out .main (s.heldAnt p .main)
  exact (((main.trans (release _ (main.out out) .listen (s.heldAnt p .listen))).trans
    ((State.removePending_steady _ p .main).trans (State.removePending_steady _ p .listen))).trans
    (hand _ .main (s.heldAnt p .main))).trans (hand _ .listen (s.heldAnt p .listen))

theorem State.redetermineAll_steady (s : State) : Steady s s.redetermineAll :=
  Steady.each _ _ (fun a t => t.redetermine_steady a) s

/-- Every timer is ruled when the expiries that a new yield time makes due are taken (R85). -/
theorem State.allocYieldTime_steady (s : State) : Steady s s.allocYieldTime := by
  have run (a : Ant) (t : State) := (t.yieldIfDue_run a).mono granting_any
  exact (State.each_keeps (fun t => Steady s t ∧ ∀ a, t.YieldByRule a) allAnts (fun a t => t.yieldIfDue a)
    (fun a t _ ⟨steady, rule⟩ => ⟨steady.trans (State.yieldIfDue_steady (rule a)), fun b => (run a t).byRule (rule b)⟩)
    s.redetermineAll ⟨s.redetermineAll_steady, s.redetermineAll_byRule⟩).1

theorem State.allocWaitLimit_steady (s : State) : Steady s s.allocWaitLimit := by
  have waits (a : Ant) (t : State) : Steady t (t.expireWaits a) :=
    Steady.each (t.alloc[a].queue.filter t.waitDue) _ (fun e u => State.expire_steady u e.pos e.kind a .wait) t
  exact Steady.each _ _ waits s

theorem State.allocCapacity_steady (s : State) (a : Ant) (x y : Nat) : Steady s (s.allocCapacity a x y) := by
  unfold State.allocCapacity
  split
  · exact s.handListen_steady a
  · split
    · exact Steady.each (s.alloc[a].queue.filter fun e => e.kind == .listen) _
        (fun e t => State.expire_steady t e.pos .listen a .ineligible) s
    · exact .refl s

end Hands

end Sys2Proof.Machine
end

section
/-! SUPPORT. What the crosspoint driver, the filters, receiver protection and the band units leave of the key spans (Chapters
2, 7 and 10): their operations keep them steady, but for the sequencer's own part of a band change. -/

namespace Sys2Proof.Machine

/-! ## Holdings and change sets (R52, R103, R106) -/

section Driver

variable {s t : State} {p : Pos}

/-- A holding not SET moves. -/
theorem State.moveHolding_steady (s : State) (p : Pos) (k : Slot) (a : Ant) {x : SwitchState} (unset : x ≠ .set)
    (y : SwitchState) : Steady s (s.moveHolding p k a x y) := by
  have seqs : (s.moveHolding p k a x y).seqs = s.seqs := by
    unfold State.moveHolding
    split
    · split <;> rfl
    · rfl
  refine (s.moveHolding_frame p k a x y).steady_of_cond seqs fun q _ cond => ?_
  unfold State.moveHolding
  split
  · next h held =>
    split
    · next found =>
      refine (Steady.settleCond_congr (s := s) (t := s.setHold p _) ?_ rfl).trans cond
      rw [State.setHold_hold, upd_get]
      split
      · next same =>
        subst same
        cases k with
        | listen => rfl
        | main =>
          have main : s.hold[p].main = some h := held
          obtain ⟨-, sw⟩ := Bool.and_eq_true_iff.mp found
          rw [State.settleCond, main, Option.map_some, beq_iff_eq.mp sw] at cond
          simp [unset] at cond
      · rfl
    · exact cond
  · exact cond

theorem State.moveServed_steady (s : State) (p : Pos) (x : Target) {w : SwitchState} (unset : w ≠ .set) (y : SwitchState) :
    Steady s (s.moveServed p x w y) := by
  unfold State.moveServed
  split
  · exact s.moveHolding_steady p _ _ unset y
  · exact .refl s

/-- A main holding that goes to SET may settle its position (R52, R121). -/
theorem State.completeHolding_steady (s : State) (p : Pos) (k : Slot) (a : Ant) {x : SwitchState} (unset : x ≠ .set) :
    Steady s (s.completeHolding p k a x) := by
  unfold State.completeHolding
  split
  · next h _ =>
    split
    · have told := (s.moveHolding_steady p k a unset .set).trans (State.notify_steady _ p (.granted k a h.origin))
      cases k with
      | main => exact told.trans (State.trySettle_steady _ p)
      | listen => exact told
    · exact .refl s
  · exact .refl s

theorem State.reportAlready_steady (s : State) (p : Pos) (x : Target) : Steady s (s.reportAlready p x) := by
  unfold State.reportAlready
  split
  · exact .refl s
  · split
    · exact s.moveHolding_steady p _ _ (by decide) _
    · exact s.completeHolding_steady p _ _ (by decide)

theorem State.addTargets_steady (s : State) (p : Pos) (ts : List Target) : Steady s (s.addTargets p ts) := by
  have put (x : Target) (t : State) : Steady t (t.listPut p x) := by
    rw [State.listPut_eq]
    exact t.setList_steady _
  have remove (x : Target) (t : State) : Steady t (t.listRemove p x.ant) := t.setList_steady _
  exact ((Steady.each _ _ put s).trans (Steady.each _ _ remove _)).trans
    (Steady.each _ _ (fun x t => t.reportAlready_steady p x) _)

/-- A change of the driver that leaves the filters. -/
theorem State.setDrv_steady (s : State) {d : Driver} (filters : d.filters = s.drv.filters) : Steady s (s.setDrv d) :=
  .of_same rfl rfl rfl rfl rfl rfl rfl fun _ _ cond =>
    (Steady.settleCond_congr (s := s) (t := s.setDrv d) rfl filters).trans cond

theorem State.setXp_steady (s : State) (p : Pos) (a : Ant) (x : Crosspoint) : Steady s (s.setXp p a x) :=
  s.setDrv_steady rfl

theorem State.putProgress_steady (s : State) (c : ChangeSet) : Steady s (s.putProgress c) := s.setDrv_steady rfl

theorem State.endProgress_steady (s : State) (p : Pos) : Steady s (s.endProgress p) := s.setDrv_steady rfl

theorem State.setFault_steady (s : State) (a : Ant) (on : Bool) : Steady s (s.setFault a on) := s.setDrv_steady rfl

theorem State.beginClosing_steady (s : State) (c : ChangeSet) : Steady s (s.beginClosing c) :=
  (s.putProgress_steady _).trans (Steady.each c.closings _ (fun x t => t.setXp_steady c.pos x.ant _) _)

theorem State.afterOpening_steady (s : State) (c : ChangeSet) : Steady s (s.afterOpening c) := by
  unfold State.afterOpening
  split
  · exact s.endProgress_steady c.pos
  · split
    · exact s.beginClosing_steady c
    · exact s.putProgress_steady _

theorem State.startSet_steady (s : State) (p : Pos) (ts : List Target) : Steady s (s.startSet p ts) := by
  unfold State.startSet
  dsimp only
  generalize ((ts.filter fun x => s.opensFirst p x).map fun x =>
    (⟨x.ant, (s.xp p x.ant).cmd == .main⟩ : OpenedXp)) = opens
  have joined (c : ChangeSet) : Steady s (s.setProgress (s.drv.inProg ++ [c])) := s.setDrv_steady rfl
  have moved := ((joined ⟨p, ts, .opening (s.now + s.longest (opens.map (·.ant))), opens⟩).trans
    (Steady.each opens (fun o x => x.command p ⟨o.ant, .opened⟩) (fun o x => x.setXp_steady p o.ant _) _)).trans
    (Steady.each ts (fun g x => x.moveServed p g .awaiting .switching) (fun g x => x.moveServed_steady p g (by decide) _) _)
  split
  · exact moved.trans (State.afterOpening_steady _ _)
  · exact moved

theorem State.startFirst_steady (s : State) : Steady s s.startFirst := by
  unfold State.startFirst
  split
  · exact .refl s
  · exact (s.setList_steady _).trans (State.startSet_steady _ _ _)

/-! ## Relay faults and the ends of the phases (R107, R109 to R112) -/

theorem DriverOnly.steady (h : DriverOnly s t) : Steady s t := by
  rw [h.eq]
  exact .of_same rfl rfl rfl rfl rfl rfl rfl fun _ _ => id

/-- A RELAY fault: the driver's part, and where the flag was clear the fault event that allocation takes. -/
theorem State.relayFault_steady (s : State) (p : Pos) (a : Ant) (f : Finding) : Steady s (s.relayFault p a f) := by
  cases flag : s.drv.faults[a] with
  | true => exact (State.relayFault_flagged flag f).1.steady
  | false =>
    obtain ⟨w, taken, only, faults, -⟩ := State.relayFault_clear (p := p) flag f
    rw [taken]
    exact only.steady.trans (State.takeFault_steady (by rw [faults, upd_get_same]))

theorem State.relayFaults_steady (s : State) (p : Pos) (xs : List Ant) (f : Finding) :
    Steady s (s.relayFaults p xs f) := Steady.each xs _ (fun a t => t.relayFault_steady p a f) s

theorem State.returnClosings_steady (s : State) (p : Pos) (ts : List Target) : Steady s (s.returnClosings p ts) :=
  (Steady.each ts _ (fun x t => t.moveServed_steady p x (w := .switching) (by decide) .awaiting) s).trans
    (State.addTargets_steady _ p _)

theorem State.endOpening_steady (s : State) (c : ChangeSet) : Steady s (s.endOpening c) := by
  unfold State.endOpening
  dsimp only
  split
  · exact s.afterOpening_steady c
  · exact ((s.endProgress_steady c.pos).trans (State.returnClosings_steady _ c.pos _)).trans
      (State.relayFaults_steady _ _ _ _)

theorem State.endClosing_steady (s : State) (c : ChangeSet) : Steady s (s.endClosing c) := by
  unfold State.endClosing
  dsimp only
  refine ((s.endProgress_steady c.pos).trans (Steady.each _ _ (fun x t => ?_) _)).trans (State.relayFaults_steady _ _ _ _)
  split
  · exact t.completeHolding_steady _ _ _ (by decide)
  · exact .refl t

/-! ## Filters and the release (R113 to R115) -/

/-- A filter switch is in progress (R108). -/
def FilterState.isSwitching (f : FilterState) : Prop := ∃ n, f.sw = .switching n

theorem State.settleCond_iff (s : State) (p : Pos) : s.settleCond p = true ↔
    s.hold[p].main.map (·.sw) = some .set ∧ ¬ s.drv.filters[p].isSwitching := by
  unfold State.settleCond FilterState.isSwitching
  cases s.drv.filters[p].sw <;> simp

/-- A filter state that starts no filter switch in key span. -/
theorem State.setFilter_steady (s : State) (p : Pos) {f : FilterState}
    (idle : s.inSpan p = true → f.isSwitching → s.drv.filters[p].isSwitching) : Steady s (s.setFilter p f) := by
  refine .of_same rfl rfl rfl rfl rfl rfl rfl fun q keyed cond => ?_
  obtain ⟨set, still⟩ := (s.settleCond_iff q).mp cond
  refine (State.settleCond_iff _ q).mpr ⟨set, fun switching => still ?_⟩
  have filter : (s.setFilter p f).drv.filters[q] = if p = q then f else s.drv.filters[q] := upd_get _ _ _ _
  rw [filter] at switching
  split at switching
  · next same =>
    subst same
    exact idle (State.inSpan_of_keyed keyed) switching
  · exact switching

theorem State.beginFilter_steady (may : s.mayFilter p = true) : Steady s (s.beginFilter p) := by
  refine s.setFilter_steady p fun inside => ?_
  simp [State.mayFilter, inside] at may

theorem State.startFilter_steady (s : State) (p : Pos) : Steady s (s.startFilter p) := by
  unfold State.startFilter
  dsimp only
  split
  · exact .refl s
  all_goals
    split
    · exact s.setFilter_steady p fun _ ⟨_, h⟩ => by cases h
    · split
      · next may => exact State.beginFilter_steady may
      · exact s.setFilter_steady p fun _ ⟨_, h⟩ => by cases h

theorem State.reselect_steady (s : State) (p : Pos) : Steady s (s.reselect p) :=
  (s.setFilter_steady p (f := { s.drv.filters[p] with selected := s.selectedFilter p }) fun _ => id).trans
    (State.startFilter_steady _ p)

theorem State.beginPending_steady (s : State) (p : Pos) : Steady s (s.beginPending p) := by
  unfold State.beginPending
  split
  · next may => exact State.beginFilter_steady (Bool.and_eq_true_iff.mp may).2
  · exact .refl s

theorem State.endFilter_steady (s : State) (p : Pos) : Steady s (s.endFilter p) := by
  unfold State.endFilter
  split
  · split
    · exact ((s.setFilter_steady p fun _ ⟨_, h⟩ => by cases h).trans (State.startFilter_steady _ p)).trans
        (State.trySettle_steady _ p)
    · exact .refl s
  all_goals exact .refl s

theorem State.releaseOpening_steady (s : State) : Steady s s.releaseOpening := by
  refine .of_same rfl rfl rfl rfl rfl rfl rfl fun q _ cond => ?_
  obtain ⟨set, still⟩ := (s.settleCond_iff q).mp cond
  refine (State.settleCond_iff _ q).mpr ⟨set, ?_⟩
  rw [State.releaseOpening_filters]
  exact still

theorem State.endRelease_steady (s : State) : Steady s s.endRelease := by
  have ended (t : State) : Steady t (t.setDrv { t.drv with release := .none }) := t.setDrv_steady rfl
  exact ((Steady.each allPos (fun p x => x.relayFaults p (allAnts.filter fun a => (s.xp p a).closed) .opening)
    (fun p t => t.relayFaults_steady p _ .opening) s).trans (ended _)).trans
    (Steady.each allPos (fun p x => x.reselect p) (fun p t => t.reselect_steady p) _)

/-! ## Receiver protection (R154, R159) -/

/-- A cause set replaced takes its BLK level with it (R159). -/
theorem State.setCauses_commanded (h : s.Commanded) (v : Pos) (x : Protection) : (s.setCauses v x).Commanded := by
  intro q
  have out : (s.setCauses v x).outs[q] = if v = q then { s.outs[v] with blk := x.nonempty } else s.outs[q] :=
    upd_get _ _ _ _
  have prot : (s.setCauses v x).prot[q] = if v = q then x else s.prot[q] := upd_get _ _ _ _
  have seqs : (s.setCauses v x).seqs = s.seqs := rfl
  rw [State.commanded, out, prot, seqs]
  split
  · next same =>
    subst same
    rw [h v, State.commanded]
    cases s.seqs[v] <;> rfl
  · exact h q

theorem State.setCauses_steady (s : State) (v : Pos) {x : Protection} (flag : x.flag = s.prot[v].flag) :
    Steady s (s.setCauses v x) where
  powered := rfl
  now := rfl
  cfg := rfl
  spans := rfl
  flags := (s.setCauses_quiet v x flag).flags
  outs h := State.setCauses_commanded h v x
  seqs _ := .inl ⟨rfl, fun _ => id⟩

theorem State.recomputeBlank_steady (s : State) : Steady s s.recomputeBlank :=
  State.each_keeps (Steady s) allPos _
    (fun v t _ h => h.trans (t.setCauses_steady v (x := s.dueOn v) (h.flags v).symm)) s (.refl s)

/-! ## Band units (Chapter 2) -/

theorem State.setBandUnit_steady (s : State) (p : Pos) (x : BandUnit) : Steady s (s.setBandUnit p x) :=
  .of_same rfl rfl rfl rfl rfl rfl rfl fun _ _ => id

theorem State.settleSide_steady (s : State) (p : Pos) (side : Side) : Steady s (s.settleSide p side) :=
  (s.setBandUnit_steady p _).trans (State.allocSegmentChange_steady _ p side)

theorem State.dwellSide_steady (s : State) (p : Pos) (side : Side) : Steady s (s.dwellSide p side) := by
  unfold State.dwellSide
  dsimp only
  split
  · exact s.setBandUnit_steady p _
  · split
    · exact s.settleSide_steady p side
    · exact s.setBandUnit_steady p _

theorem State.recomputeSegs_steady (s : State) (p : Pos) : Steady s (s.recomputeSegs p) := by
  have side (b : Bool) (x : Side) (t : State) : Steady t (if b then t else t.dwellSide p x) := by
    split
    · exact .refl t
    · exact t.dwellSide_steady p x
  exact ((s.setBandUnit_steady p _).trans (side (s.bands[p].curTx == (s.currentNow p).1) .tx _)).trans
    (side (s.bands[p].curRx == (s.currentNow p).2) .rx _)

theorem State.dwellEnd_steady (s : State) (p : Pos) (side : Side) : Steady s (s.dwellEnd p side) := by
  rcases s.dwellEnd_eq p side with e | ⟨-, e⟩ <;> rw [e]
  · exact .refl s
  · exact s.settleSide_steady p side

theorem State.newDwell_steady (s : State) (p : Pos) : Steady s (s.newDwell p) :=
  (s.dwellEnd_steady p .tx).trans (State.dwellEnd_steady _ p .rx)

theorem State.newReport_steady (s : State) (p : Pos) (r : Report) : Steady s (s.newReport p r) := by
  have freq (t : State) (before : Option Nat × Option Nat) : Steady t (t.freqChange p before) := by
    unfold State.freqChange
    split
    · exact .refl t
    · exact t.recomputeBlank_steady
  have taken := ((s.setBandUnit_steady p { s.bands[p] with
      report := some r, state := deriveState s.bands[p].lines (some r) }).trans (State.recomputeSegs_steady _ p)).trans
    (freq _ (s.rxFreq p, s.txFreq p))
  unfold State.newReport
  dsimp only
  split
  · exact taken
  · exact taken.trans (State.notify_steady _ p _)

theorem State.freshEnd_steady (s : State) (p : Pos) : Steady s (s.freshEnd p) := by
  unfold State.freshEnd
  split
  · split
    · split
      · exact s.newReport_steady p _
      · exact .refl s
    · exact .refl s
  · exact .refl s

theorem State.newDefaultSeg_steady (s : State) (b : Band) : Steady s (s.newDefaultSeg b) := by
  refine Steady.each allPos _ (fun p t => ?_) s
  split
  · exact t.recomputeSegs_steady p
  · exact .refl t

end Driver

end Sys2Proof.Machine
end

section
/-! SUPPORT. The key sequencer's own moves (R117 to R130): what they keep of outputs, records, modes, limits and of the way
into KEYED (R121, R135, R136, R160). -/

namespace Sys2Proof.Machine

/-! ## Sequencers and key spans kept -/

/-- From `s` to `t` the outputs stay as commanded, no sequencer enters SETTLING, and one enters KEYED only from SETTLING
with its settle condition fulfilled. -/
structure SeqsKept (s t : State) : Prop where
  powered : t.powered = s.powered
  now : t.now = s.now
  cfg : t.cfg = s.cfg
  outs : s.Commanded → t.Commanded
  settling : ∀ (p : Pos) (n : Nat), t.seqs[p] = .settling n → s.seqs[p] = .settling n
  keyed : ∀ (p : Pos) (n : Nat), t.seqs[p] = .keyed n → (s.seqs[p] = .keyed n ∧ CondKept s t p) ∨
    (n = s.now ∧ t.settleCond p = true ∧
      ∃ since, s.seqs[p] = .settling since ∧ since + s.cfg.pos[p].ampSettle ≤ s.now)

/-- Beside this the key-span records go on agreeing with the sequencers, no limit is passed, and no position is parked or
un-parked. -/
structure SpanKept (s t : State) : Prop extends SeqsKept s t where
  parked : ∀ p : Pos, t.isParked p = s.isParked p
  spans : s.SpansAgree → t.SpansAgree
  limits : s.WithinLimits → t.WithinLimits

section Kept

variable {s t u : State}

theorem SeqsKept.trans (h : SeqsKept s t) (k : SeqsKept t u) : SeqsKept s u where
  powered := k.powered.trans h.powered
  now := k.now.trans h.now
  cfg := k.cfg.trans h.cfg
  outs c := k.outs (h.outs c)
  settling p n e := h.settling p n (k.settling p n e)
  keyed p n e := by
    rcases k.keyed p n e with ⟨keyed, cond⟩ | ⟨now, cond, since, settling, due⟩
    · rcases h.keyed p n keyed with ⟨before, cond'⟩ | ⟨now, cond', rest⟩
      · exact .inl ⟨before, fun is c => cond ⟨n, keyed⟩ (cond' is c)⟩
      · exact .inr ⟨now, cond ⟨n, keyed⟩ cond', rest⟩
    · rw [h.cfg, h.now] at due
      exact .inr ⟨now.trans h.now, cond, since, h.settling p since settling, due⟩

theorem SpanKept.trans (h : SpanKept s t) (k : SpanKept t u) : SpanKept s u where
  toSeqsKept := h.toSeqsKept.trans k.toSeqsKept
  parked p := (k.parked p).trans (h.parked p)
  spans a := k.spans (h.spans a)
  limits w := k.limits (h.limits w)

end Kept

/-! ## Counts and limits (R135, R136, R160) -/

theorem filter_allPos_le {f g : Pos → Bool} (h : ∀ p, f p = true → g p = true) :
    (allPos.filter f).length ≤ (allPos.filter g).length := (List.monotone_filter_right allPos h).length_le

/-- A condition that one more position may meet counts at most one more. -/
theorem filter_allPos_le_succ {f g : Pos → Bool} (p : Pos) (h : ∀ q, q ≠ p → f q = true → g q = true) :
    (allPos.filter f).length ≤ (allPos.filter g).length + 1 := by
  have into : allPos.filter f ⊆ p :: allPos.filter g := by
    intro q hq
    obtain ⟨mem, meets⟩ := List.mem_filter.mp hq
    by_cases same : q = p
    · rw [same]
      exact List.mem_cons_self
    · exact List.mem_cons_of_mem p (List.mem_filter.mpr ⟨mem, h q same meets⟩)
  exact (List.subperm_of_subset (allPos_nodup.filter f) into).length_le

/-- No limit is passed where no record and no flag is new. -/
theorem State.WithinLimits.mono {s t : State} (h : s.WithinLimits) (cfg : t.cfg = s.cfg)
    (spans : ∀ (p : Pos) (x : KeySpan), t.spans[p] = some x → s.spans[p] = some x)
    (flags : ∀ p : Pos, t.prot[p].flag = true → s.prot[p].flag = true) : t.WithinLimits := by
  obtain ⟨bands, station, protect⟩ := h
  rw [State.WithinLimits, cfg]
  refine ⟨fun b => Nat.le_trans (filter_allPos_le fun p meets => ?_) (bands b),
    Nat.le_trans (filter_allPos_le fun p meets => ?_) station, Nat.le_trans (filter_allPos_le flags) protect⟩
  · obtain ⟨x, hx, band⟩ := Option.map_eq_some_iff.mp (beq_iff_eq.mp meets)
    rw [spans p x hx, Option.map_some, band]
    exact beq_self_eq_true _
  · obtain ⟨x, hx⟩ := Option.isSome_iff_exists.mp meets
    rw [spans p x hx]
    rfl

theorem Steady.spanKept {s t : State} (h : Steady s t) : SpanKept s t where
  powered := h.powered
  now := h.now
  cfg := h.cfg
  outs := h.outs
  settling p n e := by
    rcases h.seqs p with ⟨same, -⟩ | ⟨_, _, -, keyed, -⟩
    · exact same.symm.trans e
    · rw [keyed] at e
      cases e
  keyed p n e := by
    rcases h.seqs p with ⟨same, cond⟩ | ⟨since, settling, due, keyed, cond⟩
    · exact .inl ⟨same.symm.trans e, cond⟩
    · rw [keyed] at e
      cases e
      exact .inr ⟨rfl, cond, since, settling, due⟩
  parked := h.isParked
  spans a p := by rw [h.spans, h.inSpan, a p]
  limits w := w.mono h.cfg (fun p x => by rw [h.spans]; exact id) fun p => by rw [h.flags]; exact id

theorem SpanKept.refl (s : State) : SpanKept s s := (Steady.refl s).spanKept

/-! ## States entered (R118) -/

/-- The states outside key span that an end of TAIL, a press or RF sensed may lead to (R120, R125, R128). -/
def SeqState.isResting (q : SeqState) : Prop := q = .idle ∨ q = .denied ∨ ∃ c, q = .lockout c

theorem SeqState.isResting.inSpan {q : SeqState} (h : q.isResting) : q.inSpan = false := by
  obtain rfl | rfl | ⟨c, rfl⟩ := h <;> rfl

theorem SeqState.isResting.ne_parked {q : SeqState} (h : q.isResting) : q ≠ .parked := by
  obtain rfl | rfl | ⟨c, rfl⟩ := h <;> nofun

section Enter

variable {s : State} {p : Pos} {q : SeqState}

/-- A state entered commands its levels and leaves BLK (R118, R159). -/
theorem State.Commanded.enter (h : s.Commanded) (p : Pos) (q : SeqState) : (s.enter p q).Commanded := by
  intro r
  by_cases same : r = p
  · subst same
    rw [State.enter_out, h r, State.commanded, State.commanded, State.enter_seq, SeqState.outputs_outputs]
    rfl
  · have out : (s.enter p q).outs[r] = s.outs[r] := upd_get_ne _ _ (Ne.symm same)
    rw [State.commanded, State.enter_seq_ne s q same, out]
    exact h r

theorem State.enter_isParked_ne (s : State) {r : Pos} (q : SeqState) (h : r ≠ p) :
    (s.enter p q).isParked r = s.isParked r := by
  rw [State.isParked, State.enter_seq_ne s q h, State.isParked]

/-- A state entered that is neither SETTLING nor KEYED. -/
theorem State.enter_seqsKept (s : State) (p : Pos) (settling : ∀ n, q ≠ .settling n) (keyed : ∀ n, q ≠ .keyed n) :
    SeqsKept s (s.enter p q) where
  powered := rfl
  now := rfl
  cfg := rfl
  outs h := h.enter p q
  settling r n e := by
    by_cases same : r = p
    · subst same
      rw [State.enter_seq] at e
      exact absurd e (settling n)
    · rwa [State.enter_seq_ne s q same] at e
  keyed r n e := by
    by_cases same : r = p
    · subst same
      rw [State.enter_seq] at e
      exact absurd e (keyed n)
    · rw [State.enter_seq_ne s q same] at e
      exact .inl ⟨e, fun _ => id⟩

theorem SeqState.isResting.seqsKept (h : q.isResting) (s : State) (p : Pos) : SeqsKept s (s.enter p q) := by
  obtain rfl | rfl | ⟨c, rfl⟩ := h <;> exact s.enter_seqsKept p nofun nofun

/-- A position that is not PARKED enters a state that is not PARKED either. -/
theorem State.enter_isParked (unparked : s.isParked p = false) (ne : q ≠ .parked) (r : Pos) :
    (s.enter p q).isParked r = s.isParked r := by
  by_cases same : r = p
  · subst same
    rw [unparked, State.isParked, State.enter_seq]
    exact beq_eq_false_iff_ne.mpr ne
  · exact s.enter_isParked_ne q same

/-- A state entered on the same side of key span leaves the records as they are. -/
theorem SeqsKept.enter_spanKept (h : SeqsKept s (s.enter p q)) (unparked : s.isParked p = false) (ne : q ≠ .parked)
    (side : q.inSpan = s.inSpan p) : SpanKept s (s.enter p q) where
  toSeqsKept := h
  parked := State.enter_isParked unparked ne
  spans a r := by
    rw [State.enter_spans, a r]
    by_cases same : r = p
    · subst same
      rw [← side, State.inSpan, State.enter_seq]
    · exact (s.enter_inSpan_ne q same).symm
  limits := id

theorem SeqState.isResting.spanKept (h : q.isResting) (unparked : s.isParked p = false) (out : s.inSpan p = false) :
    SpanKept s (s.enter p q) := (h.seqsKept s p).enter_spanKept unparked h.ne_parked (h.inSpan.trans out.symm)

/-- TAIL entered from key span keeps the record (R122 to R124). -/
theorem State.enter_tail_spanKept (inside : s.inSpan p = true) (c : TailCause) (pend : Option LockCause) (kt n : Nat) :
    SpanKept s (s.enter p (.tail c pend kt n)) :=
  (s.enter_seqsKept (q := .tail c pend kt n) p nofun nofun).enter_spanKept (State.isParked_of_inSpan inside) nofun
    inside.symm

theorem State.setSpan_seqsKept (s : State) (p : Pos) (x : Option KeySpan) : SeqsKept s (s.setSpan p x) :=
  ⟨rfl, rfl, rfl, id, fun _ _ => id, fun _ _ e => .inl ⟨e, fun _ => id⟩⟩

/-- Key span left: a state outside it entered, and the record removed (R125, R127, R135). -/
theorem SeqState.isResting.leave (h : q.isResting) (inside : s.inSpan p = true) :
    SpanKept s ((s.enter p q).setSpan p none) where
  toSeqsKept := (h.seqsKept s p).trans (State.setSpan_seqsKept _ p none)
  parked := State.enter_isParked (State.isParked_of_inSpan inside) h.ne_parked
  spans a r := by
    have record : ((s.enter p q).setSpan p none).spans[r] = if p = r then none else s.spans[r] := upd_get _ _ _ _
    have seq : ((s.enter p q).setSpan p none).inSpan r = (s.enter p q).inSpan r := rfl
    rw [record, seq]
    split
    · next same =>
      subst same
      rw [State.inSpan, State.enter_seq, h.inSpan]
      rfl
    · next other =>
      rw [s.enter_inSpan_ne q (Ne.symm other)]
      exact a r
  limits w := w.mono rfl
    (fun r x hx => by
      have record : ((s.enter p q).setSpan p none).spans[r] = if p = r then none else s.spans[r] := upd_get _ _ _ _
      rw [record] at hx
      split at hx
      · cases hx
      · exact hx)
    fun _ => id

/-- An end of key span: the state entered, the record removed, and then the work of the other blocks (R119, R125). -/
theorem SeqState.isResting.endSpan (h : q.isResting) (inside : s.inSpan p = true) (c : EndCause) (kt : Nat) :
    SpanKept s (s.endSpan p c kt q) := by
  have out : ((s.enter p q).setSpan p none).inSpan p = false := by
    rw [← h.inSpan]
    exact congrArg SeqState.inSpan (s.enter_seq p q)
  have rest : Steady ((s.enter p q).setSpan p none) (s.endSpan p c kt q) :=
    (((State.allocLeaving_steady out).trans (State.beginPending_steady _ p)).trans (State.recomputeBlank_steady _)).trans
      (s.endSpan_grow p c kt q).steady
  exact (h.leave inside).trans rest.spanKept

theorem State.endTail_spanKept (inside : s.inSpan p = true) (c : TailCause) (pend : Option LockCause) (kt : Nat) :
    SpanKept s (s.endTail p c pend kt) :=
  SeqState.isResting.endSpan (s.afterTail_cases p pend) inside (.tail c) kt

/-- A position in key span enters TAIL, which a tail setting of 0 ends at once (R122 to R125). -/
theorem State.enterTail_spanKept (inside : s.inSpan p = true) (c : TailCause) (pend : Option LockCause) :
    SpanKept s (s.enterTail p c pend) := by
  have entered := State.enter_tail_spanKept inside c pend (s.keyTime p) s.now
  have still : (s.enter p (.tail c pend (s.keyTime p) s.now)).inSpan p = true :=
    congrArg SeqState.inSpan (s.enter_seq p _)
  unfold State.enterTail
  dsimp only
  split
  · exact entered.trans (State.endTail_spanKept still c pend _)
  · exact entered

theorem State.lockOut_spanKept (unparked : s.isParked p = false) (out : s.inSpan p = false) (c : LockCause) :
    SpanKept s (s.lockOut p c) := by
  have resting : (SeqState.lockout c).isResting := .inr (.inr ⟨c, rfl⟩)
  exact (resting.spanKept unparked out).trans (State.notify_steady _ p _).spanKept

end Enter

/-! ## The events that the sequencer takes (R120 to R131) -/

section Events

variable {s : State} {p : Pos}

theorem State.inSpan_of_seq {q : SeqState} (h : s.seqs[p] = q) : s.inSpan p = q.inSpan := congrArg SeqState.inSpan h

theorem State.isParked_of_seq {q : SeqState} (h : s.seqs[p] = q) : s.isParked p = (q == .parked) :=
  congrArg (· == SeqState.parked) h

theorem State.seqRfs_spanKept (s : State) (p : Pos) (active : Bool) : SpanKept s (s.seqRfs p active) := by
  unfold State.seqRfs
  split
  · split
    case h_1 h | h_2 h => exact State.lockOut_spanKept (State.isParked_of_seq h) (State.inSpan_of_seq h) _
    case h_3 h => exact State.enterTail_spanKept (State.inSpan_of_seq h) _ _
    all_goals exact .refl s
  · exact .refl s

theorem State.seqBandChange_spanKept (s : State) (p : Pos) : SpanKept s (s.seqBandChange p) := by
  unfold State.seqBandChange
  split
  case h_1 h | h_2 h => exact State.enterTail_spanKept (State.inSpan_of_seq h) _ _
  all_goals exact .refl s

theorem State.seqKeyLine_spanKept (s : State) (p : Pos) : SpanKept s (s.seqKeyLine p) := by
  have resting : (SeqState.lockout .keyLine).isResting := .inr (.inr ⟨_, rfl⟩)
  unfold State.seqKeyLine
  split
  case h_1 h | h_2 h => exact State.lockOut_spanKept (State.isParked_of_seq h) (State.inSpan_of_seq h) _
  case h_3 h | h_4 h | h_5 h => exact resting.endSpan (State.inSpan_of_seq h) _ _
  case h_6 h =>
    split
    · exact .refl s
    · exact State.lockOut_spanKept (State.isParked_of_seq h) (State.inSpan_of_seq h) _
  case h_7 => exact .refl s

theorem State.keyLimit_spanKept (s : State) (p : Pos) : SpanKept s (s.keyLimit p) := by
  unfold State.keyLimit
  split
  case h_1 h =>
    split
    · exact State.enterTail_spanKept (State.inSpan_of_seq h) _ _
    · exact .refl s
  all_goals exact .refl s

theorem State.tailLimit_spanKept (s : State) (p : Pos) : SpanKept s (s.tailLimit p) := by
  unfold State.tailLimit
  split
  case h_1 h =>
    split
    · exact State.endTail_spanKept (State.inSpan_of_seq h) _ _ _
    · exact .refl s
  all_goals exact .refl s

theorem State.seqSettings_spanKept (s : State) (p : Pos) : SpanKept s (s.seqSettings p) := by
  unfold State.seqSettings
  split
  · exact (s.trySettle_steady p).spanKept
  · exact s.keyLimit_spanKept p
  · exact s.tailLimit_spanKept p
  all_goals exact .refl s

/-- A PTT change that keys nothing, or an accepted press (R120 to R124). -/
theorem State.seqPtt_cases (s : State) (p : Pos) (active : Bool) : SpanKept s (s.seqPtt p active) ∨
    ∃ k, s.seqs[p] = .idle ∧ s.keyDecision p = .ok k ∧ s.seqPtt p active = s.enterSettling p k := by
  have tail (inside : s.inSpan p = true) : SpanKept s (if active then s else s.enterTail p .release none) := by
    split
    · exact .refl s
    · exact State.enterTail_spanKept inside _ _
  unfold State.seqPtt
  split
  case h_1 idle =>
    split
    · split
      · next k accepted => exact .inr ⟨k, idle, accepted, rfl⟩
      · have resting : SeqState.denied.isResting := .inr (.inl rfl)
        exact .inl ((resting.spanKept (State.isParked_of_seq idle) (State.inSpan_of_seq idle)).trans
          (State.notify_steady _ p _).spanKept)
    · exact .inl (.refl s)
  case h_2 h | h_3 h => exact .inl (tail (State.inSpan_of_seq h))
  case h_4 denied =>
    split
    · exact .inl (.refl s)
    · have resting : SeqState.idle.isResting := .inl rfl
      exact .inl (resting.spanKept (State.isParked_of_seq denied) (State.inSpan_of_seq denied))
  all_goals exact .inl (.refl s)

/-! ## Protect flags and the band change (R15, R160) -/

theorem State.setFlag_commanded (h : s.Commanded) (p : Pos) (on : Bool) : (s.setFlag p on).Commanded := by
  intro q
  have prot : (s.setFlag p on).prot[q] = if p = q then { s.prot[p] with flag := on } else s.prot[q] := upd_get _ _ _ _
  have kept : (s.setFlag p on).prot[q].nonempty = s.prot[q].nonempty := by
    rw [prot]
    split
    · next same => rw [← same]; rfl
    · rfl
  rw [State.commanded, kept]
  exact h q

theorem State.setFlag_seqsKept (s : State) (p : Pos) (on : Bool) : SeqsKept s (s.setFlag p on) where
  powered := rfl
  now := rfl
  cfg := rfl
  outs h := State.setFlag_commanded h p on
  settling _ _ := id
  keyed _ _ e := .inl ⟨e, fun _ => id⟩

/-- A protect flag cleared, or set below the protect limit (R160). -/
theorem State.setFlag_spanKept {on : Bool} (room : on = true → s.flagCount < s.cfg.station.protectLimit) :
    SpanKept s (s.setFlag p on) where
  toSeqsKept := s.setFlag_seqsKept p on
  parked _ := rfl
  spans := id
  limits w := by
    have flag (q : Pos) : (s.setFlag p on).prot[q] = if p = q then { s.prot[p] with flag := on } else s.prot[q] :=
      upd_get _ _ _ _
    cases on with
    | false =>
      refine w.mono rfl (fun _ _ => id) fun q set => ?_
      rw [flag] at set
      split at set
      · cases set
      · exact set
    | true =>
      obtain ⟨bands, station, -⟩ := w
      refine ⟨bands, station, Nat.le_trans (filter_allPos_le_succ p fun q other set => ?_) (room rfl)⟩
      rwa [flag, if_neg (Ne.symm other)] at set

theorem State.bandChange_spanKept (s : State) (p : Pos) (lines : LinesBand) : SpanKept s (s.bandChange p lines) := by
  have told : Steady s ((s.setBandUnit p (s.changedUnit p lines)).notifyBand p) :=
    (s.setBandUnit_steady p _).trans (State.notify_steady _ p _)
  have cleared (t : State) : SpanKept t (t.setFlag p false) := State.setFlag_spanKept nofun
  exact ((((told.trans (State.allocBandChange_steady _ p)).spanKept.trans (State.seqBandChange_spanKept _ p)).trans
    (cleared _)).trans (State.recomputeBlank_steady _).spanKept).trans (State.reselect_steady _ p).spanKept

theorem State.takeCode_spanKept (s : State) (p : Pos) (code : BitVec 4) : SpanKept s (s.takeCode p code) := by
  unfold State.takeCode
  split
  · exact .refl s
  · exact s.bandChange_spanKept p _

end Events

end Sys2Proof.Machine
end

section
/-! SUPPORT. The accepted press and the accepted write: what they keep of outputs, records, modes and limits (R121, R130,
R136, R145, R177). -/

namespace Sys2Proof.Machine

/-! ## What one command of a powered unit keeps -/

/-- From `s` to `t` the outputs stay as commanded, records, modes and limits stay in order, and KEYED is entered only by
the rule of R121. -/
structure LiveKept (s t : State) : Prop where
  powered : t.powered = s.powered
  outs : s.Commanded → t.Commanded
  order : s.SpanOrder → t.SpanOrder
  keyed : KeyedBySettling s t

section Live

variable {s t u : State}

theorem SeqsKept.keyedBySettling (h : SeqsKept u t) (seqs : u.seqs = s.seqs) : KeyedBySettling s t := by
  intro p n e
  rw [h.now, h.cfg, ← seqs]
  rcases h.keyed p n e with ⟨before, -⟩ | ⟨now, cond, since, settling, due⟩
  · exact .inl before
  · exact .inr ⟨now, cond, since, due, .inl settling⟩

theorem SpanKept.order (h : SpanKept s t) (order : s.SpanOrder) : t.SpanOrder := by
  obtain ⟨spans, modes, limits⟩ := order
  exact ⟨h.spans spans, fun p => by rw [h.parked, h.cfg, modes p], h.limits limits⟩

theorem SpanKept.liveKept (h : SpanKept s t) : LiveKept s t where
  powered := h.powered
  outs := h.outs
  order := h.order
  keyed := h.toSeqsKept.keyedBySettling rfl

theorem Steady.liveKept (h : Steady s t) : LiveKept s t := h.spanKept.liveKept

theorem LiveKept.refl (s : State) : LiveKept s s := (SpanKept.refl s).liveKept

/-- Before a command's own effect, a change that leaves the sequencers. -/
theorem Steady.before (h : Steady s u) (seqs : u.seqs = s.seqs) (k : LiveKept u t) : LiveKept s t where
  powered := k.powered.trans h.powered
  outs c := k.outs (h.outs c)
  order o := k.order (h.spanKept.order o)
  keyed := by
    have keyed := k.keyed
    rwa [KeyedBySettling, seqs] at keyed

theorem LinksGrow.before (h : LinksGrow s u) (k : LiveKept u t) : LiveKept s t := h.steady.before (by rw [h.eq]) k

end Live

/-! ## The accepted press (R121, R135, R136, R138, R145) -/

section Press

variable {s : State} {p : Pos} {k : KeySpan}

/-- The checks pass in a band and a station with room (R136, R138). -/
theorem State.decideOn_room {a : Ant} {b : Band} (h : s.decideOn p a b = .ok k) :
    s.bandCount k.band < s.cfg.bands[k.band].limit ∧ s.stationCount < s.cfg.station.stationLimit := by
  unfold State.decideOn at h
  dsimp only at h
  repeat' split at h
  all_goals cases h
  exact ⟨Nat.not_le.mp ‹_›, Nat.not_le.mp ‹_›⟩

theorem State.keyDecision_room (h : s.keyDecision p = .ok k) :
    s.bandCount k.band < s.cfg.bands[k.band].limit ∧ s.stationCount < s.cfg.station.stationLimit := by
  unfold State.keyDecision at h
  split at h
  · cases h
  · split at h
    · cases h
    · split at h
      · exact State.decideOn_room h
      all_goals cases h

/-- A record made for a position, and SETTLING entered (R121, R145). -/
def State.pressed (s : State) (p : Pos) (k : KeySpan) : State :=
  (s.setSpan p (some k)).enter p (.settling s.now)

theorem State.pressed_spans (s : State) (p q : Pos) (k : KeySpan) :
    (s.pressed p k).spans[q] = if p = q then some k else s.spans[q] := upd_get _ _ _ _

theorem State.pressed_settling (s : State) (p : Pos) (k : KeySpan) : (s.pressed p k).seqs[p] = .settling s.now :=
  State.enter_seq _ p _

theorem State.pressed_seq_ne {q : Pos} (s : State) (k : KeySpan) (h : q ≠ p) : (s.pressed p k).seqs[q] = s.seqs[q] :=
  State.enter_seq_ne (s.setSpan p (some k)) _ h

theorem State.enterSettling_steady (s : State) (p : Pos) (k : KeySpan) :
    Steady (s.pressed p k) (s.enterSettling p k) :=
  ((State.allocEntry_steady _ p).trans (State.recomputeBlank_steady _)).trans (State.trySettle_steady _ p)

theorem State.pressed_spansAgree (h : s.SpansAgree) (p : Pos) (k : KeySpan) : (s.pressed p k).SpansAgree := by
  intro q
  rw [s.pressed_spans, State.inSpan]
  split
  · next same =>
    rw [← same, s.pressed_settling]
    rfl
  · next other =>
    rw [s.pressed_seq_ne k (Ne.symm other)]
    exact h q

theorem State.pressed_withinLimits (h : s.WithinLimits) (accepted : s.keyDecision p = .ok k) :
    (s.pressed p k).WithinLimits := by
  obtain ⟨bands, station, protect⟩ := h
  obtain ⟨bandRoom, stationRoom⟩ := State.keyDecision_room accepted
  have record {q : Pos} (other : q ≠ p) : (s.pressed p k).spans[q] = s.spans[q] := by
    rw [s.pressed_spans, if_neg (Ne.symm other)]
  refine ⟨fun b => ?_, Nat.le_trans (filter_allPos_le_succ p fun q other => ?_) stationRoom, protect⟩
  · by_cases same : b = k.band
    · subst same
      exact Nat.le_trans (filter_allPos_le_succ p fun q other => by rw [record other]; exact id) bandRoom
    · refine Nat.le_trans (filter_allPos_le fun q => ?_) (bands b)
      rw [s.pressed_spans]
      split
      · intro meets
        exact absurd (Option.some.inj (beq_iff_eq.mp meets)).symm same
      · exact id
  · rw [record other]
    exact id

theorem State.pressed_order (h : s.SpanOrder) (idle : s.seqs[p] = .idle) (accepted : s.keyDecision p = .ok k) :
    (s.pressed p k).SpanOrder := by
  obtain ⟨spans, modes, limits⟩ := h
  refine ⟨State.pressed_spansAgree spans p k, fun q => ?_, State.pressed_withinLimits limits accepted⟩
  have parked := State.enter_isParked (s := s.setSpan p (some k)) (q := .settling s.now) (State.isParked_of_seq idle) nofun
  exact (parked q).trans (modes q)

theorem State.enterSettling_keyed (idle : s.seqs[p] = .idle) (k : KeySpan) : KeyedBySettling s (s.enterSettling p k) := by
  intro q n e
  have steady := s.enterSettling_steady p k
  rw [steady.now, steady.cfg]
  by_cases same : q = p
  · subst same
    rcases steady.seqs q with ⟨still, -⟩ | ⟨since, settling, due, keyed, cond⟩
    · rw [still, s.pressed_settling] at e
      cases e
    · rw [s.pressed_settling] at settling
      cases settling
      rw [keyed] at e
      cases e
      exact .inr ⟨rfl, cond, s.now, due, .inr ⟨idle, rfl⟩⟩
  · have before := s.pressed_seq_ne k same
    rcases steady.seqs q with ⟨still, -⟩ | ⟨since, settling, due, keyed, cond⟩
    · exact .inl (before.symm.trans (still.symm.trans e))
    · rw [keyed] at e
      cases e
      exact .inr ⟨rfl, cond, since, due, .inl (before.symm.trans settling)⟩

theorem State.enterSettling_liveKept (idle : s.seqs[p] = .idle) (accepted : s.keyDecision p = .ok k) :
    LiveKept s (s.enterSettling p k) where
  powered := (s.enterSettling_steady p k).powered
  outs h := (s.enterSettling_steady p k).outs (State.Commanded.enter (s := s.setSpan p (some k)) h p _)
  order h := (s.enterSettling_steady p k).spanKept.order (State.pressed_order h idle accepted)
  keyed := State.enterSettling_keyed idle k

theorem State.seqPtt_liveKept (s : State) (p : Pos) (active : Bool) : LiveKept s (s.seqPtt p active) := by
  rcases s.seqPtt_cases p active with kept | ⟨k, idle, accepted, eq⟩
  · exact kept.liveKept
  · rw [eq]
    exact State.enterSettling_liveKept idle accepted

end Press

/-! ## Parking and un-parking (R130, R178) -/

/-- One position enters or leaves PARKED, outside key span. -/
structure ParkKept (p : Pos) (parks : Bool) (s t : State) : Prop extends SeqsKept s t where
  parked : t.isParked p = parks
  others : ∀ q, q ≠ p → t.isParked q = s.isParked q
  spans : s.SpansAgree → t.SpansAgree
  limits : s.WithinLimits → t.WithinLimits

section Park

variable {s t u : State} {p : Pos} {b : Bool}

theorem SpanKept.parkKept (h : SpanKept s t) (k : ParkKept p b t u) : ParkKept p b s u where
  toSeqsKept := h.toSeqsKept.trans k.toSeqsKept
  parked := k.parked
  others q other := (k.others q other).trans (h.parked q)
  spans a := k.spans (h.spans a)
  limits w := k.limits (h.limits w)

theorem ParkKept.trans (h : ParkKept p b s t) (k : SpanKept t u) : ParkKept p b s u where
  toSeqsKept := h.toSeqsKept.trans k.toSeqsKept
  parked := (k.parked p).trans h.parked
  others q other := (k.parked q).trans (h.others q other)
  spans a := k.spans (h.spans a)
  limits w := k.limits (h.limits w)

theorem ParkKept.of_spanKept (h : SpanKept s t) (now : s.isParked p = b) : ParkKept p b s t where
  toSeqsKept := h.toSeqsKept
  parked := (h.parked p).trans now
  others q _ := h.parked q
  spans := h.spans
  limits := h.limits

theorem State.enter_parkKept {q : SeqState} (h : q = .parked ∨ q = .idle) (out : s.inSpan p = false) :
    ParkKept p (q == .parked) s (s.enter p q) where
  toSeqsKept := by obtain rfl | rfl := h <;> exact s.enter_seqsKept p nofun nofun
  parked := State.isParked_of_seq (s.enter_seq p q)
  others r other := s.enter_isParked_ne q other
  spans a r := by
    rw [State.enter_spans, a r]
    by_cases same : r = p
    · subst same
      rw [out, State.inSpan, State.enter_seq]
      obtain rfl | rfl := h <;> rfl
    · exact (s.enter_inSpan_ne q same).symm
  limits := id

/-- A cause set replaced, with no new protect flag. -/
theorem State.setCauses_spanKept (s : State) (v : Pos) {x : Protection} (flag : x.flag = false) :
    SpanKept s (s.setCauses v x) where
  powered := rfl
  now := rfl
  cfg := rfl
  outs h := State.setCauses_commanded h v x
  settling _ _ := id
  keyed _ _ e := .inl ⟨e, fun _ => id⟩
  parked _ := rfl
  spans := id
  limits w := w.mono rfl (fun _ _ => id) fun q set => by
    have prot : (s.setCauses v x).prot[q] = if v = q then x else s.prot[q] := upd_get _ _ _ _
    rw [prot] at set
    split at set
    · rw [flag] at set
      cases set
    · exact set

theorem State.park_parkKept (out : s.inSpan p = false) : ParkKept p true s (s.park p) := by
  have taken : Steady s ((s.setBandUnit p BandUnit.initial).allocPark p) :=
    (s.setBandUnit_steady p _).trans (State.allocPark_steady out)
  exact ((taken.spanKept.parkKept (State.enter_parkKept (.inl rfl) (taken.out out))).trans
    (State.setCauses_spanKept _ p rfl)).trans (State.reselect_steady _ p).spanKept

theorem State.setLines_steady (s : State) (p : Pos) (x : PosLines) : Steady s (s.setLines p x) :=
  .of_same rfl rfl rfl rfl rfl rfl rfl fun _ _ => id

theorem State.unpark_seqsKept (s : State) (p : Pos) : SeqsKept s (s.unpark p) :=
  (((s.setLines_steady p _).spanKept.toSeqsKept.trans (State.enter_seqsKept (q := .idle) _ p nofun nofun)).trans
    (State.recomputeBlank_steady _).spanKept.toSeqsKept).trans (State.reselect_steady _ p).spanKept.toSeqsKept

theorem State.unpark_parkKept (out : s.inSpan p = false) : ParkKept p false s (s.unpark p) :=
  (((s.setLines_steady p _).spanKept.parkKept (State.enter_parkKept (.inr rfl) out)).trans
    (State.recomputeBlank_steady _).spanKept).trans (State.reselect_steady _ p).spanKept

theorem State.modeChanged_seqsKept {x y : PosSettings} (out : y.parked = true → s.inSpan p = false) :
    SeqsKept s (s.modeChanged p x y) := by
  refine State.onChange_keeps (P := SeqsKept s) _ (fun _ => ?_) (SpanKept.refl s).toSeqsKept
  split
  · next parks => exact (State.park_parkKept (out parks)).toSeqsKept
  · exact s.unpark_seqsKept p

theorem State.modeChanged_parkKept {x y : PosSettings} (now : s.isParked p = x.parked)
    (out : y.parked = true → s.inSpan p = false) : ParkKept p y.parked s (s.modeChanged p x y) := by
  cases same : x.parked != y.parked with
  | false =>
    rw [State.modeChanged, State.onChange_not same]
    exact .of_spanKept (.refl s) (now.trans (bne_eq_false_iff_eq.mp same))
  | true =>
    rw [State.modeChanged, State.onChange_of same]
    split
    · next parks =>
      rw [parks]
      exact State.park_parkKept (out parks)
    · next stays =>
      have unparks : y.parked = false := Bool.eq_false_iff.mpr stays
      rw [unparks] at same ⊢
      have parked : s.isParked p = true := by rw [now]; simpa using same
      exact State.unpark_parkKept (State.inSpan_of_seq ((s.isParked_iff p).mp parked))

end Park

/-! ## Accepted writes (R136, R160, R177, R178) -/

section Write

variable {s t : State}

theorem State.onChange_spanKept (s : State) (b : Bool) {f : State → State} (h : ∀ t, SpanKept t (f t)) :
    SpanKept s (s.onChange b f) := State.onChange_keeps (P := SpanKept s) b (fun hs => hs.trans (h s)) (.refl s)

theorem State.posRest_spanKept (s : State) (p : Pos) (x y : PosSettings) : SpanKept s (s.posRest p x y) :=
  ((s.onChange_spanKept _ fun t => t.redetermineAll_steady.spanKept).trans
    (State.onChange_spanKept _ _ fun t => (t.reselect_steady p).spanKept)).trans
    (State.onChange_spanKept _ _ fun t => t.seqSettings_spanKept p)

theorem State.onChange_newDwell_steady (s : State) (b : Bool) (p : Pos) :
    Steady s (s.onChange b fun t => t.newDwell p) :=
  State.onChange_keeps (P := Steady s) (f := fun t => t.newDwell p) b (fun _ => s.newDwell_steady p) (.refl s)

theorem State.posChanged_seqsKept {p : Pos} {x y : PosSettings} (out : y.parked = true → s.inSpan p = false) :
    SeqsKept s (s.posChanged p x y) := by
  have dwelt := s.onChange_newDwell_steady (x.dwell != y.dwell) p
  rw [State.posChanged_eq]
  exact (dwelt.spanKept.toSeqsKept.trans (State.modeChanged_seqsKept fun parks => dwelt.out (out parks))).trans
    (State.posRest_spanKept _ p x y).toSeqsKept

theorem State.posChanged_parkKept {p : Pos} {x y : PosSettings} (now : s.isParked p = x.parked)
    (out : y.parked = true → s.inSpan p = false) : ParkKept p y.parked s (s.posChanged p x y) := by
  have dwelt := s.onChange_newDwell_steady (x.dwell != y.dwell) p
  rw [State.posChanged_eq]
  exact (dwelt.spanKept.parkKept (State.modeChanged_parkKept ((dwelt.isParked p).trans now)
    fun parks => dwelt.out (out parks))).trans (State.posRest_spanKept _ p x y)

/-- The blocks that take a write of an item other than position settings. -/
theorem State.deliver_spanKept (s : State) (old : Cfg) {x : Item} (notPos : ∀ p v, x ≠ .pos p v) :
    SpanKept s (s.deliver old x) := by
  cases x with
  | antenna a v =>
    exact ((s.onChange_spanKept _ fun t => (t.allocCapacity_steady a _ _).spanKept).trans
      (State.onChange_spanKept _ _ fun t => t.recomputeBlank_steady.spanKept)).trans
      (State.onChange_spanKept _ _ fun t => t.revalidate_steady.spanKept)
  | mapEntry b g v => exact s.onChange_spanKept _ fun t => t.revalidate_steady.spanKept
  | pos p v => exact absurd rfl (notPos p v)
  | band b v =>
    exact (s.onChange_spanKept _ fun t => (t.newDefaultSeg_steady b).spanKept).trans
      (State.onChange_spanKept _ _ fun t => t.recomputeBlank_steady.spanKept)
  | station v =>
    exact (s.onChange_spanKept _ fun t => t.allocWaitLimit_steady.spanKept).trans
      (State.onChange_spanKept _ _ fun t => t.allocYieldTime_steady.spanKept)
  | pref _ _ _ _ | rule _ _ | divisor _ _ => exact .refl s

/-- A limit written is no smaller than its count (R177). -/
theorem State.written_withinLimits (h : s.WithinLimits) {x : Item} (free : s.inUse x = false) :
    (s.written x).WithinLimits := by
  obtain ⟨bands, station, protect⟩ := h
  cases x with
  | band b v =>
    have room : s.bandCount b ≤ v.limit := by simpa [State.inUse] using free
    refine ⟨fun c => ?_, station, protect⟩
    have written : (s.written (.band b v)).cfg.bands[c] = if b = c then v else s.cfg.bands[c] := upd_get _ _ _ _
    rw [written]
    split
    · next same => exact same ▸ room
    · exact bands c
  | station v =>
    have room : s.stationCount ≤ v.stationLimit ∧ s.flagCount ≤ v.protectLimit := by simpa [State.inUse] using free
    exact ⟨bands, room⟩
  | pref p b slot v => cases slot <;> exact ⟨bands, station, protect⟩
  | antenna _ _ | mapEntry _ _ _ | pos _ _ | rule _ _ | divisor _ _ => exact ⟨bands, station, protect⟩

theorem Cfg.put_pos (c : Cfg) {x : Item} (notPos : ∀ p v, x ≠ .pos p v) : (c.put x).pos = c.pos := by
  cases x with
  | pos p v => exact absurd rfl (notPos p v)
  | pref p b slot v => cases slot <;> rfl
  | _ => rfl

/-- A write taken: what it leaves of outputs and of the way into KEYED, and that it keeps the order. -/
theorem LiveKept.of_written {x : Item} (seqs : SeqsKept (s.written x) t) (order : s.SpanOrder → t.SpanOrder) :
    LiveKept s t where
  powered := seqs.powered
  outs h := seqs.outs h
  order := order
  keyed := seqs.keyedBySettling rfl

theorem State.applyWrite_pos_liveKept {p : Pos} {v : PosSettings} (free : s.inUse (.pos p v) = false) :
    LiveKept s (s.applyWrite (.pos p v)) := by
  have out : v.parked = true → s.inSpan p = false := by simpa [State.inUse] using free
  rw [State.applyWrite_eq]
  refine .of_written (State.posChanged_seqsKept out) fun ⟨spans, modes, limits⟩ => ?_
  have parks : ParkKept p v.parked (s.written (.pos p v)) ((s.written (.pos p v)).deliver s.cfg (.pos p v)) :=
    State.posChanged_parkKept (modes p) out
  refine ⟨parks.spans spans, fun q => ?_, parks.limits (State.written_withinLimits limits free)⟩
  have settings : (s.written (.pos p v)).cfg.pos[q] = if p = q then v else s.cfg.pos[q] := upd_get _ _ _ _
  rw [parks.cfg, settings]
  split
  · next same => exact same ▸ parks.parked
  · next other => exact (parks.others q (Ne.symm other)).trans (modes q)

theorem State.applyWrite_liveKept {x : Item} (free : s.inUse x = false) : LiveKept s (s.applyWrite x) := by
  by_cases isPos : ∃ p v, x = .pos p v
  · obtain ⟨p, v, rfl⟩ := isPos
    exact State.applyWrite_pos_liveKept free
  · have notPos : ∀ p v, x ≠ .pos p v := fun p v e => isPos ⟨p, v, e⟩
    have kept : SpanKept (s.written x) (s.applyWrite x) := State.deliver_spanKept _ _ notPos
    refine .of_written kept.toSeqsKept fun ⟨spans, modes, limits⟩ => kept.order ⟨spans, fun p => ?_, ?_⟩
    · exact (modes p).trans (congrArg (fun y : Vector PosSettings 6 => y[p].parked) (s.cfg.put_pos notPos)).symm
    · exact State.written_withinLimits limits free

end Write

end Sys2Proof.Machine
end

section
/-! SUPPORT. Requests, links and power: what they keep of outputs, records, modes and limits (R10, R160, R168, R169,
R181, R182). -/

namespace Sys2Proof.Machine

/-! ## Requests (R168, R169) -/

/-- The effect of a request keeps outputs and order, from a state that differs from `s` in what its links send. -/
def PlanLive (s : State) (plan : Result × (State → State)) : Prop := ∀ t, LinksGrow s t → LiveKept t (plan.2 t)

section Plans

variable {s : State} {p : Pos}

theorem PlanLive.of_steady {r : Result} {f : State → State} (h : ∀ t, Steady s t → Steady t (f t)) :
    PlanLive s (r, f) := fun t grow => (h t grow.steady).liveKept

theorem justAnswer_live (s : State) (r : Result) : PlanLive s (justAnswer r) := .of_steady fun t _ => .refl t

/-- A request refused or answered without effect where a check of its row fails. -/
theorem PlanLive.ite_answer {b : Prop} [Decidable b] {r : Result} {plan : Result × (State → State)}
    (h : ¬ b → PlanLive s plan) : PlanLive s (if b then justAnswer r else plan) := by
  split
  · exact justAnswer_live s r
  · next no => exact h no

theorem State.perform_live {plan : Result × (State → State)} (h : PlanLive s plan) (l : Link) (k : BitVec 7) :
    LiveKept s (s.perform l k plan) := (s.answer_grow l k _).before (h _ (s.answer_grow l k _))

theorem State.queueRequest_live (s : State) (p : Pos) (k : Slot) (a : Ant) (noWait : Bool) :
    PlanLive s (s.queueRequest p k a noWait) := by
  unfold State.queueRequest
  refine PlanLive.ite_answer fun _ => ?_
  split
  · exact .of_steady fun t _ => t.claimEntry_steady p k a
  · exact .ite_answer fun _ => .of_steady fun t _ =>
      (t.removePending_steady p k).trans (State.appendEntry_steady _ p k a .operator)

theorem State.selectMain_live (s : State) (p : Pos) (antenna : Byte) (noWait : Bool) :
    PlanLive s (s.selectMain p antenna noWait) := by
  unfold State.selectMain
  refine PlanLive.ite_answer fun _ => ?_
  split
  · split
    · exact justAnswer_live s _
    · refine .ite_answer fun _ => .ite_answer fun _ => .ite_answer fun out => .ite_answer fun _ => ?_
      split
      · exact .of_steady fun t same => State.grantMain_steady (same.out (Bool.eq_false_iff.mpr out)) _ .operator
      · exact s.queueRequest_live p .main _ noWait
  all_goals exact justAnswer_live s _

theorem State.selectListen_live (s : State) (p : Pos) (antenna : Byte) (noWait : Bool) :
    PlanLive s (s.selectListen p antenna noWait) := by
  unfold State.selectListen
  refine PlanLive.ite_answer fun _ => ?_
  split
  · split
    · exact justAnswer_live s _
    · refine .ite_answer fun _ => .ite_answer fun _ => .ite_answer fun _ => .ite_answer fun _ => ?_
      split
      · exact .of_steady fun t _ => t.grantListen_steady p _ .operator
      · exact .ite_answer fun _ => s.queueRequest_live p .listen _ noWait
  all_goals exact justAnswer_live s _

theorem State.dropMain_live (s : State) (p : Pos) : PlanLive s (s.dropMain p) :=
  .ite_answer fun _ => .ite_answer fun out => .of_steady fun _ same =>
    State.dropMainEffect_steady (same.out (Bool.eq_false_iff.mpr out))

theorem State.dropListen_live (s : State) (p : Pos) : PlanLive s (s.dropListen p) :=
  .ite_answer fun _ => .ite_answer fun _ => .of_steady fun _ _ => State.lose_steady (k := .listen) nofun _

theorem State.protectRequest_live (s : State) (p : Pos) (on : Bool) : PlanLive s (s.protectRequest p on) := by
  have cleared (t : State) : SpanKept t (t.setFlag p false) := State.setFlag_spanKept nofun
  unfold State.protectRequest
  refine PlanLive.ite_answer fun _ => ?_
  split
  · split
    · exact justAnswer_live s _
    · refine .ite_answer fun _ => .ite_answer fun full t grow => (State.setFlag_spanKept fun _ => ?_).liveKept
      rw [grow.eq]
      exact Nat.not_le.mp full
  · exact fun t _ => (cleared t).liveKept

/-- CLEAR leads from LOCKOUT to IDLE (R129). -/
theorem State.clearLock_live (s : State) (p : Pos) : PlanLive s (s.clearLock p) := by
  unfold State.clearLock
  split
  · exact justAnswer_live s _
  · next c locked =>
    refine PlanLive.ite_answer fun _ t grow => ?_
    have still : t.seqs[p] = .lockout c := by
      rw [grow.eq]
      exact locked
    have resting : SeqState.idle.isResting := .inl rfl
    exact (resting.spanKept (State.isParked_of_seq still) (State.inSpan_of_seq still)).liveKept
  all_goals exact justAnswer_live s _

theorem State.positionPlan_live (s : State) (p : Pos) (r : Request) : PlanLive s (s.positionPlan p r) := by
  cases r with
  | selectMain a w => exact s.selectMain_live p a w
  | selectListen a w => exact s.selectListen_live p a w
  | dropMain => exact s.dropMain_live p
  | dropListen => exact s.dropListen_live p
  | cancel x => exact .of_steady fun t _ => t.cancelEffect_steady p x
  | freq rx tx =>
    exact .ite_answer fun _ => .ite_answer fun _ => .ite_answer fun _ => .of_steady fun t _ => t.newReport_steady p _
  | protect on => exact s.protectRequest_live p on
  | clear => exact s.clearLock_live p
  | _ => exact justAnswer_live s _

theorem State.restartWatches_steady (s : State) (a : Ant) : Steady s (s.restartWatches a) :=
  Steady.each allPos _ (fun p t => t.setXp_steady p a _) s

theorem State.faultClearRequest_live (s : State) (antenna : Byte) : PlanLive s (s.faultClearRequest antenna) := by
  unfold State.faultClearRequest
  split
  · exact justAnswer_live s _
  · split
    · exact justAnswer_live s _
    · next a _ => exact .of_steady fun t _ => (t.setFault_steady a false).trans (State.restartWatches_steady _ a)

theorem State.saveRequest_live (s : State) : PlanLive s s.saveRequest :=
  .ite_answer fun _ => .ite_answer fun _ => .of_steady fun _ _ =>
    .of_same rfl rfl rfl rfl rfl rfl rfl fun _ _ => id

theorem State.writeRequest_live (s : State) (w : Option WriteItem) : PlanLive s (s.writeRequest w) := by
  unfold State.writeRequest
  refine .ite_answer fun _ => .ite_answer fun _ => ?_
  split
  · exact justAnswer_live s _
  · split
    · exact justAnswer_live s _
    · refine PlanLive.ite_answer fun _ => .ite_answer fun free t grow => ?_
      dsimp only
      split
      · exact .refl t
      · refine State.applyWrite_liveKept ?_
        rw [grow.eq]
        exact Bool.eq_false_iff.mpr free

end Plans

/-! ## Power and reset (R10, R181, R182) -/

/-- A unit at its reset values: outputs safe, no key-span record, no blanking cause and no protect flag, each sequencer as
its mode says (R10, R133, R182). -/
structure State.AtReset (t : State) : Prop where
  outs : ∀ p : Pos, t.outs[p] = Outputs.safe
  spans : ∀ p : Pos, t.spans[p] = none
  prot : ∀ p : Pos, t.prot[p] = Protection.initial
  seqs : ∀ p : Pos, t.seqs[p] = if t.cfg.pos[p].parked then .parked else .idle

section Reset

variable {t : State}

theorem State.AtReset.isResting (h : t.AtReset) (p : Pos) : t.seqs[p] = .parked ∨ t.seqs[p] = .idle := by
  rw [h.seqs p]
  split
  · exact .inl rfl
  · exact .inr rfl

theorem State.AtReset.commanded (h : t.AtReset) : t.Commanded := by
  intro p
  rw [h.outs, State.commanded, h.prot]
  rcases h.isResting p with seq | seq <;> rw [seq] <;> rfl

theorem State.AtReset.keyed (h : t.AtReset) (s : State) : KeyedBySettling s t := by
  intro p n e
  rcases h.isResting p with seq | seq <;> rw [seq] at e <;> cases e

theorem State.AtReset.order (h : t.AtReset) : t.SpanOrder := by
  refine ⟨fun p => ?_, fun p => ?_, fun b => ?_, ?_, ?_⟩
  · rw [h.spans, State.inSpan]
    rcases h.isResting p with seq | seq <;> rw [seq] <;> rfl
  · rw [State.isParked, h.seqs]
    cases t.cfg.pos[p].parked <;> rfl
  · simp [State.bandCount, h.spans]
  · simp [State.stationCount, h.spans]
  · simp [State.flagCount, h.prot, Protection.initial]

theorem State.resetLive_atReset (s : State) : s.resetLive.AtReset := by
  unfold State.resetLive
  exact ⟨fun p => by simp, fun p => by simp, fun p => by simp, fun p => Cfg.firstSeqs_get _ p⟩

theorem State.powerUp_atReset (s : State) : s.powerUp.AtReset := by
  unfold State.powerUp
  exact ⟨fun p => by simp [State.reset], fun p => by simp [State.reset], fun p => by simp [State.reset],
    fun p => Cfg.firstSeqs_get _ p⟩

theorem State.AtReset.liveKept {s : State} (h : t.AtReset) (powered : t.powered = s.powered) : LiveKept s t where
  powered := powered
  outs _ := h.commanded
  order _ := h.order
  keyed := h.keyed s

theorem State.resetLive_powered (s : State) : s.resetLive.powered = s.powered := by
  unfold State.resetLive
  rw [State.cutSave_eq]

end Reset

/-! ## Serving (R168, R169) -/

theorem LinksGrow.atReset {s t : State} (h : LinksGrow s t) (k : s.AtReset) : t.AtReset := by
  rw [h.eq]
  exact ⟨k.outs, k.spans, k.prot, k.seqs⟩

theorem LinksGrow.liveKept {s t : State} (h : LinksGrow s t) : LiveKept s t := h.steady.liveKept

theorem State.report_live (s : State) (l : Link) (k : BitVec 7) (body : Except Result (List Byte)) :
    LiveKept s (s.report l k body) := by
  cases body with
  | ok xs => exact (s.reply_grow l _).liveKept
  | error r => exact (s.answer_grow l k r).liveKept

theorem State.restartRequest_live (s : State) (l : Link) : LiveKept s (s.restartRequest l) := by
  unfold State.restartRequest
  split
  · exact (s.answer_grow l _ _).liveKept
  · have grow := s.resetLive.answer_grow l Request.restart.kind .done
    exact (grow.atReset s.resetLive_atReset).liveKept (grow.steady.powered.trans s.resetLive_powered)

theorem State.servePosition_live (s : State) (l : Link) (r : Request) : LiveKept s (s.servePosition l r) := by
  unfold State.servePosition
  split
  · exact State.perform_live (s.positionPlan_live _ r) l _
  · exact (s.answer_grow l _ _).liveKept

theorem State.serve_live (s : State) (l : Link) (r : Request) : LiveKept s (s.serve l r) := by
  cases r with
  | selectMain _ _ | selectListen _ _ | dropMain | dropListen | cancel _ | freq _ _ | protect _ | clear =>
    exact s.servePosition_live l _
  | queryPosition _ _ | queryAntenna _ _ | queryLink _ | status _ | configRead _ => exact s.report_live l _ _
  | configWrite w => exact State.perform_live (s.writeRequest_live w) l _
  | save => exact State.perform_live s.saveRequest_live l _
  | restart => exact s.restartRequest_live l
  | faultClear a => exact State.perform_live (s.faultClearRequest_live a) l _
  | monitor on =>
    have monitored (t : State) : Steady t (t.setMonitor on) := .of_same rfl rfl rfl rfl rfl rfl rfl fun _ _ => id
    exact State.perform_live (plan := (.done, fun t => t.setMonitor on)) (.of_steady fun t _ => monitored t) l _

theorem State.takeFrame_live (s : State) (l : Link) (f : Frame) : LiveKept s (s.takeFrame l f) := by
  unfold State.takeFrame
  split
  · exact s.serve_live l _
  · exact (s.answer_grow l _ _).liveKept

theorem State.setLink_steady (s : State) (l : Link) (x : LinkState) : Steady s (s.setLink l x) :=
  .of_same rfl rfl rfl rfl rfl rfl rfl fun _ _ => id

theorem State.setLink_live (s : State) (l : Link) (x : LinkState) : LiveKept s (s.setLink l x) :=
  (s.setLink_steady l x).liveKept

theorem State.arrive_live (s : State) (l : Link) (f : Frame) {take : State → State} (h : LiveKept s (take s)) :
    LiveKept s (s.arrive l f take) := by
  unfold State.arrive
  split
  · exact .refl s
  · split
    · exact s.setLink_live l _
    · split
      · exact h
      · exact s.setLink_live l _

theorem State.request_live (s : State) (l : Link) (r : Request) : LiveKept s (s.request l r) :=
  s.arrive_live l _ (s.serve_live l r)

theorem State.takeSamples_live (s : State) (l : Link) (c : CharSamples) : LiveKept s (s.takeSamples l c) := by
  unfold State.takeSamples State.afterChar
  split
  · exact .refl s
  · split
    · exact s.setLink_live l _
    · split
      · exact (s.setLink_steady l _).before rfl (State.arrive_live _ l _ (State.takeFrame_live _ l _))
      · exact s.setLink_live l _

/-! ## Sampling (R1) -/

/-- Sampling changes the lines, the watches and the time alone. -/
theorem State.sample_eq (s : State) (x : Sample) :
    s.sample x = { s with now := (s.sample x).now, sam := (s.sample x).sam, drv := (s.sample x).drv } := by
  unfold State.sample
  rw [State.watchAll_eq, State.sampleLines_eq]
  rfl

theorem State.sample_live (s : State) (x : Sample) : LiveKept s (s.sample x) := by
  rw [s.sample_eq x]
  exact ⟨rfl, id, id, fun _ _ => .inl⟩

end Sys2Proof.Machine
end

section
/-! SUPPORT. Every step: the outputs stand as commanded and KEYED is entered only on a settled relay (O55), and no limit is
passed (O56). -/

namespace Sys2Proof.Machine

/-- What a step keeps of outputs, records, modes and limits, and its way into KEYED. -/
structure StepKept (s t : State) : Prop where
  outs : s.OutputsAgree → t.OutputsAgree
  order : s.SpanOrder → t.SpanOrder
  keyed : s.BooksAgree → KeyedBySettling s t

theorem StepKept.refl (s : State) : StepKept s s := ⟨id, id, fun _ _ _ => .inl⟩

section

variable {s t : State}

/-- Both clauses of `OutputsAgree` in a unit with its supply. -/
theorem State.outputsAgree_of_powered (on : t.powered = true) (h : t.Commanded) : t.OutputsAgree :=
  ⟨fun _ => h, fun off => by rw [on] at off; cases off⟩

theorem LiveKept.stepKept (h : LiveKept s t) (on : s.powered = true) : StepKept s t where
  outs agree := State.outputsAgree_of_powered (h.powered.trans on) (h.outs (agree.1 on))
  order := h.order
  keyed _ := h.keyed

theorem whenPowered_stepKept {f : State → State} (h : whenPowered s f = .next t) (kept : LiveKept s (f s)) :
    StepKept s t := by
  obtain ⟨on, rfl⟩ | ⟨-, rfl⟩ := whenPowered_cases h
  · exact kept.stepKept on
  · exact .refl _

/-! ## The commands of the sampler, the sequencer and the driver -/

theorem execPttChange_stepKept {p : Pos} (h : execPttChange p s = .next t) : StepKept s t := by
  refine whenPowered_stepKept h ?_
  dsimp only
  split
  · exact (s.setLines_steady p _).before rfl (State.seqPtt_liveKept _ p _)
  · exact .refl s

theorem execRfsChange_stepKept {p : Pos} (h : execRfsChange p s = .next t) : StepKept s t := by
  refine whenPowered_stepKept h ?_
  dsimp only
  split
  · exact ((s.setLines_steady p _).spanKept.trans (State.seqRfs_spanKept _ p _)).liveKept
  · exact .refl s

theorem execKeyLineFault_stepKept {p : Pos} (h : execKeyLineFault p s = .next t) : StepKept s t := by
  refine whenPowered_stepKept h ?_
  dsimp only
  split
  · split
    · exact ((s.setLines_steady p _).spanKept.trans (State.seqKeyLine_spanKept _ p)).liveKept
    · exact .refl s
  · exact .refl s

theorem execBandCodeEvent_stepKept {p : Pos} (h : execBandCodeEvent p s = .next t) : StepKept s t := by
  refine whenPowered_stepKept h ?_
  dsimp only
  split
  · split
    · exact ((s.setLines_steady p _).spanKept.trans (State.takeCode_spanKept _ p _)).liveKept
    · exact .refl s
  · exact .refl s

theorem execEditChange_stepKept (h : execEditChange s = .next t) : StepKept s t := by
  refine whenPowered_stepKept h ?_
  split
  · exact ⟨rfl, id, id, fun _ _ => .inl⟩
  · exact .refl s

theorem execWaitExpiry_stepKept {a : Ant} {p : Pos} (h : execWaitExpiry a p s = .next t) : StepKept s t := by
  refine whenPowered_stepKept h ?_
  split
  · split
    · exact (State.expire_steady s p _ a .wait).liveKept
    · exact .refl s
  · exact .refl s

theorem execOpeningPhaseEnd_stepKept {p : Pos} (h : execOpeningPhaseEnd p s = .next t) : StepKept s t := by
  refine whenPowered_stepKept h ?_
  split
  · split
    · split
      · exact ((s.endOpening_steady _).trans (State.recomputeBlank_steady _)).liveKept
      · exact .refl s
    all_goals exact .refl s
  · exact .refl s

theorem execClosingPhaseStart_stepKept {p : Pos} (h : execClosingPhaseStart p s = .next t) : StepKept s t := by
  refine whenPowered_stepKept h ?_
  split
  · split
    · split
      · exact ((s.beginClosing_steady _).trans (State.recomputeBlank_steady _)).liveKept
      · exact .refl s
    all_goals exact .refl s
  · exact .refl s

theorem execClosingPhaseEnd_stepKept {p : Pos} (h : execClosingPhaseEnd p s = .next t) : StepKept s t := by
  refine whenPowered_stepKept h ?_
  split
  · split
    · split
      · exact ((s.endClosing_steady _).trans (State.recomputeBlank_steady _)).liveKept
      · exact .refl s
    all_goals exact .refl s
  · exact .refl s

theorem execCrosspointWatchFault_stepKept {p : Pos} {a : Ant} (h : execCrosspointWatchFault p a s = .next t) :
    StepKept s t := by
  refine whenPowered_stepKept h ?_
  split
  · split
    · exact ((s.setXp_steady p a _).trans (State.relayFault_steady _ p a .watch)).liveKept
    · exact .refl s
  · exact .refl s

theorem execReleaseDelayExpiry_stepKept (h : execReleaseDelayExpiry s = .next t) : StepKept s t := by
  refine whenPowered_stepKept h ?_
  split
  · split
    · exact (s.releaseOpening_steady.trans (State.recomputeBlank_steady _)).liveKept
    · exact .refl s
  all_goals exact .refl s

theorem execReleaseOpeningEnd_stepKept (h : execReleaseOpeningEnd s = .next t) : StepKept s t := by
  refine whenPowered_stepKept h ?_
  split
  · split
    · exact s.endRelease_steady.liveKept
    · exact .refl s
  all_goals exact .refl s

/-! ## YIELD_EXPIRY (R80, R81) -/

/-- Allocation leaves the records, and every sequencer on its side of key span (R52). -/
theorem AllocFrame.order (h : AllocFrame s t) (order : s.SpanOrder) : t.SpanOrder := by
  obtain ⟨spans, modes, limits⟩ := order
  refine ⟨fun p => ?_, fun p => ?_, ?_⟩
  · rw [h.spans, h.inSpan, spans p]
  · rw [h.isParked, h.cfg, modes p]
  · exact limits.mono h.cfg (fun _ _ => by rw [h.spans]; exact id) fun _ => by rw [h.prot]; exact id

theorem OnlySettles.keyedBySettling (h : OnlySettles s t) (now : t.now = s.now) (cfg : t.cfg = s.cfg) :
    KeyedBySettling s t := by
  intro p n e
  rw [now, cfg]
  rcases h p with ⟨same, -⟩ | ⟨since, settling, due, cond, keyed, -⟩
  · exact .inl (same.symm.trans e)
  · rw [keyed] at e
    cases e
    exact .inr ⟨rfl, cond, since, due, .inl settling⟩

/-- With books that agree, the waiter that preempts is not in key span and the holder is another position, so no main in
use moves. -/
theorem State.yieldIfDue_keyed (books : s.BooksAgree) (a : Ant) : KeyedBySettling s (s.yieldIfDue a) := by
  have still : KeyedBySettling s s := fun _ _ => .inl
  unfold State.yieldIfDue
  split
  · unfold State.yieldExpire
    split
    · next h w holds head =>
      split
      · have frame := s.preempt_frame a h w
        exact (State.preempt_settles books holds head).keyedBySettling frame.now frame.cfg
      · exact (State.expire_steady s w .main a .ineligible).liveKept.keyed
    · exact still
  · exact still

theorem execYieldExpiry_stepKept {a : Ant} (h : execYieldExpiry a s = .next t) : StepKept s t := by
  obtain ⟨on, rfl⟩ | ⟨-, rfl⟩ := whenPowered_cases h
  · have frame := s.yieldIfDue_frame a
    exact ⟨fun agree => State.outputsAgree_of_powered (frame.powered.trans on) (frame.commanded (agree.1 on)), frame.order,
      fun books => State.yieldIfDue_keyed books a⟩
  · exact .refl _

/-! ## The commands of power and of the links -/

theorem execPowerOn_stepKept (h : execPowerOn s = .next t) : StepKept s t := by
  obtain rfl : (if s.powered then s else s.powerUp) = t := by simpa [execPowerOn] using h
  split
  · exact .refl s
  · have reset := s.powerUp_atReset
    exact ⟨fun _ => State.outputsAgree_of_powered rfl reset.commanded, fun _ => reset.order, fun _ => reset.keyed s⟩

/-- Without its supply the unit drives no output (R10). -/
theorem State.powerDown_stepKept (s : State) : StepKept s s.powerDown := by
  unfold State.powerDown
  rw [State.cutSave_eq]
  exact ⟨fun _ => ⟨nofun, fun _ p x => by simp [State.driverState]⟩, id, fun _ _ _ => .inl⟩

theorem execLossOfPower_stepKept (h : execLossOfPower s = .next t) : StepKept s t := by
  obtain ⟨-, rfl⟩ | ⟨-, rfl⟩ := whenPowered_cases h
  · exact s.powerDown_stepKept
  · exact .refl _

theorem execResetEvent_stepKept (h : execResetEvent s = .next t) : StepKept s t := by
  refine whenPowered_stepKept h ?_
  split
  · exact (State.resetLive_atReset _).liveKept (State.resetLive_powered _)
  · exact .refl s

theorem execResetRelease_stepKept (h : execResetRelease s = .next t) : StepKept s t := by
  refine whenPowered_stepKept h ?_
  split
  · exact ⟨rfl, id, id, fun _ _ => .inl⟩
  · exact .refl s

theorem execSaveEnd_stepKept (h : execSaveEnd s = .next t) : StepKept s t := by
  refine whenPowered_stepKept h ?_
  unfold State.endSave
  split
  · exact ⟨rfl, id, id, fun _ _ => .inl⟩
  · exact .refl s

theorem execFrameReceived_stepKept {l : Link} {c : CharSamples} (h : execFrameReceived l c s = .next t) :
    StepKept s t := by
  refine whenPowered_stepKept h ?_
  split
  · exact s.takeSamples_live l c
  · exact .refl s

theorem execFrameGapTimeout_stepKept {l : Link} (h : execFrameGapTimeout l s = .next t) : StepKept s t := by
  refine whenPowered_stepKept h ?_
  split
  · split
    · exact s.setLink_live l _
    · exact .refl s
  · exact .refl s

theorem execFrameTaken_stepKept {l : Link} (h : execFrameTaken l s = .next t) : StepKept s t := by
  refine whenPowered_stepKept h ?_
  split
  · split
    · exact (s.setLink_steady l _).before rfl (State.takeFrame_live _ l _)
    · exact .refl s
  · exact .refl s

theorem execDivisorApplied_stepKept {l : Link} (h : execDivisorApplied l s = .next t) : StepKept s t := by
  refine whenPowered_stepKept h ?_
  dsimp only
  split
  · exact s.setLink_live l _
  · exact .refl s

end

/-! ## Every step -/

theorem exec_stepKept {c : Instr} {s t : State} (h : exec c s = .next t) : StepKept s t := by
  unfold exec at h
  cases c with
  | powerOn => exact execPowerOn_stepKept h
  | resetEvent => exact execResetEvent_stepKept h
  | resetRelease => exact execResetRelease_stepKept h
  | lossOfPower => exact execLossOfPower_stepKept h
  | samplingInstant x => exact whenPowered_stepKept h (s.sample_live x)
  | editChange => exact execEditChange_stepKept h
  | pttChange p => exact execPttChange_stepKept h
  | rfsChange p => exact execRfsChange_stepKept h
  | keyLineFault p => exact execKeyLineFault_stepKept h
  | bandCodeEvent p => exact execBandCodeEvent_stepKept h
  | freshnessExpiry p => exact whenPowered_stepKept h (s.freshEnd_steady p).liveKept
  | dwellExpiry p side => exact whenPowered_stepKept h (s.dwellEnd_steady p side).liveKept
  | waitExpiry a p => exact execWaitExpiry_stepKept h
  | yieldExpiry a => exact execYieldExpiry_stepKept h
  | changeSetStart =>
    exact whenPowered_stepKept h (s.startFirst_steady.trans (State.recomputeBlank_steady _)).liveKept
  | openingPhaseEnd p => exact execOpeningPhaseEnd_stepKept h
  | closingPhaseStart p => exact execClosingPhaseStart_stepKept h
  | closingPhaseEnd p => exact execClosingPhaseEnd_stepKept h
  | crosspointWatchFault p a => exact execCrosspointWatchFault_stepKept h
  | contactSenseChange p a closed =>
    exact whenPowered_stepKept h ((s.setXp_steady p a _).trans (State.recomputeBlank_steady _)).liveKept
  | filterSwitchBegin p => exact whenPowered_stepKept h (s.beginPending_steady p).liveKept
  | filterSwitchEnd p => exact whenPowered_stepKept h (s.endFilter_steady p).liveKept
  | releaseDelayExpiry => exact execReleaseDelayExpiry_stepKept h
  | releaseOpeningEnd => exact execReleaseOpeningEnd_stepKept h
  | amplifierSettleExpiry p => exact whenPowered_stepKept h (s.trySettle_steady p).liveKept
  | keyTimeLimitExpiry p => exact whenPowered_stepKept h (s.keyLimit_spanKept p).liveKept
  | tailEnd p => exact whenPowered_stepKept h (s.tailLimit_spanKept p).liveKept
  | saveEnd => exact execSaveEnd_stepKept h
  | characterReceived l x => exact whenPowered_stepKept h (s.takeSamples_live l x)
  | framingError l => exact whenPowered_stepKept h (s.setLink_live l _)
  | frameGapTimeout l => exact execFrameGapTimeout_stepKept h
  | frameReceived l x => exact execFrameReceived_stepKept h
  | frameTaken l => exact execFrameTaken_stepKept h
  | frameSent l => exact whenPowered_stepKept h (s.setLink_live l _)
  | divisorApplied l => exact execDivisorApplied_stepKept h
  | configRead body => exact whenPowered_stepKept h (s.arrive_live _ _ (s.serve_live _ _))
  | freq _ _ _ | selectMain _ _ _ | selectListen _ _ _ | dropMain _ | dropListen _ | cancel _ _ | clear _ | protect _ _
  | faultClear _ | monitor _ | queryPosition _ _ _ | queryAntenna _ _ _ | queryLink _ _ | status _
  | writeAntennaRecord _ _ | writeSegmentMapEntry _ _ _ | writePreferenceList _ _ _ _ | writePositionSettings _ _
  | writeBandSettings _ _ | writeStationSettings _ _ | writeInterlockRule _ _ | writeLinkDivisor _ _ | save | restart =>
    exact whenPowered_stepKept h (s.request_live _ _)

theorem step_stepKept {s t : State} (h : step s = .next t) : StepKept s t := by
  unfold step at h
  split at h
  · cases h
    exact .refl s
  · have kept := exec_stepKept h
    exact ⟨kept.outs, kept.order, kept.keyed⟩

/-- The drivers of a unit whose outputs stand as commanded (R10, R118, R159). -/
theorem State.Commanded.drivers {s : State} (h : s.Commanded) (p : Pos) :
    (s.driverState p .key = .conducting ↔ ∃ n, s.seqs[p] = .keyed n) ∧
      (s.driverState p .inh = .conducting ↔ ∃ n, s.seqs[p] = .keyed n) ∧
      (s.driverState p .amp = .conducting ↔ s.inSpan p = true) ∧
      (s.driverState p .blk = .conducting ↔ s.prot[p].nonempty = true) := by
  simp [State.driverState, h p, State.commanded, State.inSpan]

/-- Settles O55: every operation of the model leaves the outputs as commanded and enters KEYED by settling alone
(`step_stepKept`), and the commanded levels say which drivers conduct. -/
theorem outputsStandAsCommanded : Obligations.OutputsStandAsCommanded := by
  intro s t h
  have kept := step_stepKept h
  exact ⟨fun agree => ⟨kept.outs agree, fun on => State.Commanded.drivers ((kept.outs agree).1 on)⟩, kept.keyed⟩

/-- Settles O56: records and counts change at an accepted press, which finds room, and at the ends of key span; a limit is
written no smaller than its count, and a protect flag is set below its limit (`step_stepKept`). -/
theorem limitsAreNeverPassed : Obligations.LimitsAreNeverPassed := fun _ _ order h => (step_stepKept h).order order

end Sys2Proof.Machine
end

section
/-! SUPPORT. CLEAR (R129). -/

namespace Sys2Proof.Machine

section Clear

variable {s : State} {p : Pos}

theorem exec_clear (h : s.Serving (linkOf p)) :
    exec (.clear p) s = .next ((s.clearLock p).2 (s.onlyAnswers (linkOf p) 8 (s.clearLock p).1)) := by
  rw [show exec (.clear p) s = whenPowered s fun s => s.request (linkOf p) .clear from rfl, whenPowered_on h.1, h.request]
  exact congrArg _ (h.servePosition .clear)

/-- A CLEAR refused changes nothing beside its answer. -/
theorem exec_clear_refused (h : s.Serving (linkOf p)) {r : Result} (plan : s.clearLock p = justAnswer r) :
    exec (.clear p) s = .next (s.onlyAnswers (linkOf p) 8 r) := by
  rw [exec_clear h, plan]
  rfl

theorem State.pttActive_iff (s : State) (p : Pos) : s.pttActive p = true ↔ s.sam.pos[p].ptt.accepted = .active := by
  simp [State.pttActive, Accepted.isActive]

theorem State.rfsActive_iff (s : State) (p : Pos) : s.rfsActive p = true ↔ s.sam.pos[p].rfs.accepted = .active := by
  simp [State.rfsActive, Accepted.isActive]

/-- In LOCKOUT the accepted lines decide (R129). -/
theorem State.clearLock_lockout {c : LockCause} (locked : s.seqs[p] = .lockout c) : s.clearLock p =
    if s.sam.pos[p].ptt.accepted = .active ∨ s.sam.pos[p].rfs.accepted = .active then justAnswer .state
    else (.done, fun t => t.enter p .idle) := by
  simp only [State.clearLock, locked, Bool.or_eq_true, s.pttActive_iff, s.rfsActive_iff]

theorem State.clearLock_parked (parked : s.isParked p = true) : s.clearLock p = justAnswer .parked := by
  simp only [State.clearLock, (s.isParked_iff p).mp parked]

theorem State.clearLock_elsewhere (free : ∀ c, s.seqs[p] ≠ .lockout c) (unparked : s.isParked p = false) :
    s.clearLock p = justAnswer .state := by
  unfold State.clearLock
  split
  · next parked =>
    rw [(s.isParked_iff p).mpr parked] at unparked
    cases unparked
  · next c locked => exact absurd locked (free c)
  all_goals rfl

end Clear

/-- Settles O38: CLEAR answers by the state of the sequencer, and in LOCKOUT by the accepted lines; the entry of IDLE is
its one effect. -/
theorem clearLeavesLockout : Obligations.ClearLeavesLockout := by
  intro s p serving
  refine ⟨fun parked => exec_clear_refused serving (State.clearLock_parked parked),
    fun free unparked => exec_clear_refused serving (State.clearLock_elsewhere free unparked),
    fun c locked => ⟨fun active => ?_, fun ptt rfs => ?_⟩⟩
  · exact exec_clear_refused serving ((State.clearLock_lockout locked).trans (if_pos active))
  · rw [exec_clear serving, (State.clearLock_lockout locked).trans (if_neg (not_or.mpr ⟨ptt, rfs⟩))]
    rfl

end Sys2Proof.Machine
end

section
/-! SUPPORT. PTT_CHANGE and RFS_CHANGE (R120 to R128, R130, R145). -/

namespace Sys2Proof.Machine

/-! ## RFS_CHANGE -/

section Rfs

variable {s : State} {p : Pos}

/-- A level accepted on RFS (R2). -/
def State.rfsTaken (s : State) (p : Pos) (v : Bool) : State :=
  s.setLines p { s.sam.pos[p] with rfs := { s.sam.pos[p].rfs with accepted := .of v } }

theorem State.rfsTaken_active (s : State) (p : Pos) : (s.rfsTaken p true).rfsActive p = true := by
  simp [State.rfsTaken, State.rfsActive, upd_getElem, Accepted.isActive, Accepted.of]

/-- A debounced level of RFS is accepted, and the sequencer takes the change (R2, R3). -/
theorem exec_rfsChange {v : Bool} (powered : s.powered = true) (change : s.sam.pos[p].rfs.change = some v) :
    exec (.rfsChange p) s = .next ((s.rfsTaken p v).seqRfs p v) := by
  simp only [exec, execRfsChange, whenPowered_on powered, change, State.rfsTaken]

/-- RF sensed in IDLE or DENIED locks out (R126, R128). -/
theorem State.seqRfs_locks (resting : s.seqs[p] = .idle ∨ s.seqs[p] = .denied) :
    s.seqRfs p true = s.lockOut p .unsequenced := by
  rcases resting with h | h <;> simp only [State.seqRfs, h, if_true]

/-- RF sensed in SETTLING ends it in TAIL with the lockout pending (R122). -/
theorem State.seqRfs_settling {since : Nat} (settling : s.seqs[p] = .settling since) (tail : s.cfg.pos[p].tail ≠ 0) :
    s.seqRfs p true = s.enter p (.tail .unsequenced (some .unsequenced) 0 s.now) := by
  have time : s.keyTime p = 0 := by rw [State.keyTime, settling]
  simp only [State.seqRfs, settling, if_true]
  rw [State.enterTail_stays tail, time]

theorem State.seqRfs_ignored {v : Bool} (h : v = false ∨ (∃ since, s.seqs[p] = .keyed since) ∨
    (∃ c k kt since, s.seqs[p] = .tail c k kt since) ∨ (∃ c, s.seqs[p] = .lockout c) ∨ s.isParked p = true) :
    s.seqRfs p v = s := by
  rcases h with rfl | ⟨_, h⟩ | ⟨_, _, _, _, h⟩ | ⟨_, h⟩ | parked
  · rfl
  case' inr.inr.inr.inr => have h := (s.isParked_iff p).mp parked
  all_goals simp only [State.seqRfs, h, ite_self]

end Rfs

/-- Settles O34: the sequencer's own cases on the state in which the level is accepted. -/
theorem rfsChangeIsTaken : Obligations.RfsChangeIsTaken := by
  intro s p v powered change
  rw [exec_rfsChange powered change]
  refine ⟨?locks, fun u hu => ⟨?settling, ?ignored⟩⟩
  case locks =>
    rintro resting rfl
    let u := s.rfsTaken p true
    have locked : u.seqRfs p true = u.lockOut p .unsequenced := State.seqRfs_locks (s := u) resting
    have quiet := u.lockOut_quiet p .unsequenced
    have active : (u.lockOut p .unsequenced).rfsActive p = true := by
      rw [State.rfsActive, quiet.sam]
      exact s.rfsTaken_active p
    have links : (u.lockOut p .unsequenced).links = (s.notify p (.lockout .unsequenced)).links := by
      rw [State.lockOut_eq]
      exact State.notify_links_congr (s := s) (t := u) rfl rfl rfl p _
    refine ⟨_, congrArg _ locked, ?_, ?_, active, links, ?_, ?_, ?_, ?_,
      (s.setLines_restKept p _).trans quiet.restKept, quiet.bands⟩
    all_goals
      rw [State.lockOut_eq]
      rfl
  case settling =>
    rintro rfl tail since settling
    rw [hu]
    exact congrArg _ (State.seqRfs_settling (s := s.rfsTaken p true) settling tail)
  case ignored =>
    intro h
    rw [hu]
    exact congrArg _ (State.seqRfs_ignored (s := s.rfsTaken p v) h)

/-! ## PTT_CHANGE -/

section Ptt

variable {s : State} {p : Pos}

/-- A level accepted on PTT (R2). -/
def State.pttTaken (s : State) (p : Pos) (v : Bool) : State :=
  s.setLines p { s.sam.pos[p] with ptt := { s.sam.pos[p].ptt with accepted := .of v } }

theorem State.pttTaken_ptt (s : State) (p : Pos) (v : Bool) : (s.pttTaken p v).sam.pos[p].ptt.accepted = .of v := by
  simp [State.pttTaken, upd_getElem]

theorem State.pttTaken_rfs (s : State) (p : Pos) (v : Bool) : (s.pttTaken p v).sam.pos[p].rfs = s.sam.pos[p].rfs := by
  simp [State.pttTaken, upd_getElem]

/-- A debounced level of PTT is accepted, and the sequencer takes the change (R2, R3). -/
theorem exec_pttChange {v : Bool} (powered : s.powered = true) (change : s.sam.pos[p].ptt.change = some v) :
    exec (.pttChange p) s = .next ((s.pttTaken p v).seqPtt p v) := by
  simp only [exec, execPttChange, whenPowered_on powered, change, State.pttTaken]

theorem State.seqPtt_accepted {k : KeySpan} (idle : s.seqs[p] = .idle) (accepted : s.keyDecision p = .ok k) :
    s.seqPtt p true = s.enterSettling p k := by
  simp only [State.seqPtt, idle, accepted, if_true]

theorem State.seqPtt_denied {d : Denial} (idle : s.seqs[p] = .idle) (denied : s.keyDecision p = .error d) :
    s.seqPtt p true = (s.enter p .denied).notify p (.keyDenied d) := by
  simp only [State.seqPtt, idle, denied, if_true]

theorem State.seqPtt_release (keying : s.seqs[p].keying = true) : s.seqPtt p false = s.enterTail p .release none := by
  cases h : s.seqs[p] with
  | settling _ | keyed _ => simp only [State.seqPtt, h, Bool.false_eq_true, if_false]
  | _ =>
    rw [h] at keying
    cases keying

/-- A release leads to TAIL, where the tail setting gives it a length (R122 to R124). -/
theorem State.seqPtt_tail {kt : Nat}
    (time : (∃ since, s.seqs[p] = .settling since) ∧ kt = 0 ∨ ∃ since, s.seqs[p] = .keyed since ∧ kt = s.now - since)
    (tail : s.cfg.pos[p].tail ≠ 0) : s.seqPtt p false = s.enter p (.tail .release none kt s.now) := by
  obtain ⟨keying, time⟩ := State.keyTime_of_keying time
  rw [State.seqPtt_release keying, State.enterTail_stays tail, time]

theorem State.seqPtt_release_denied (denied : s.seqs[p] = .denied) : s.seqPtt p false = s.enter p .idle := by
  simp only [State.seqPtt, denied]
  rfl

theorem State.seqPtt_ignored {v : Bool} (h : (s.seqs[p] = .idle ∧ v = false) ∨
    ((s.seqs[p] = .denied ∨ s.inSpan p = true) ∧ v = true) ∨ (∃ c k kt since, s.seqs[p] = .tail c k kt since) ∨
    (∃ c, s.seqs[p] = .lockout c) ∨ s.isParked p = true) : s.seqPtt p v = s := by
  rcases h with ⟨h, rfl⟩ | ⟨h | inside, rfl⟩ | ⟨_, _, _, _, h⟩ | ⟨_, h⟩ | parked
  case inr.inl.inr =>
    cases h : s.seqs[p] with
    | settling _ | keyed _ | tail _ _ _ _ => simp only [State.seqPtt, h, if_true]
    | _ =>
      rw [State.inSpan, h] at inside
      cases inside
  case' inr.inr.inr.inr => have h := (s.isParked_iff p).mp parked
  all_goals simp only [State.seqPtt, h, if_true, Bool.false_eq_true, if_false]

/-! ## The accepted press -/

/-- Settling leaves the pairs due and every BLK level (R154, R159). -/
theorem State.trySettle_blanked (h : s.Blanked) (p : Pos) : (s.trySettle p).Blanked := by
  have frame := s.trySettle_frame p
  refine ⟨frame.blankingDue (fun q _ => ?_) h.1, fun q => ?_⟩
  · rw [State.heldAnt, (s.trySettle_hold p).1, State.heldAnt]
  · rw [frame.prot]
    rcases frame.seqs q with ⟨-, out⟩ | ⟨_, _, -, -, out⟩ <;> rw [out] <;> exact h.2 q

/-- Allocation's part in an entry into key span shows in the yield timers alone (R78). -/
theorem State.allocEntry_eq (s : State) (p : Pos) : ∃ x, s.allocEntry p = { s with alloc := x } := by
  refine State.each_keeps (fun t => ∃ x, t = { s with alloc := x }) allAnts _ (fun a t _ h => ?_) s ⟨s.alloc, rfl⟩
  obtain ⟨x, rfl⟩ := h
  split
  · exact ⟨_, rfl⟩
  · exact ⟨x, rfl⟩

/-- The state that an entry into key span is settled from: the record made, SETTLING entered, the other blocks told. -/
def State.pressedTold (s : State) (p : Pos) (k : KeySpan) : State := (s.pressed p k).entering p

theorem State.pressedTold_eq (s : State) (p : Pos) (k : KeySpan) : ∃ x y z, s.pressedTold p k = { s with
    spans := upd s.spans p (some k), seqs := upd s.seqs p (.settling s.now), alloc := x, prot := y, outs := z } := by
  obtain ⟨x, timers⟩ := (s.pressed p k).allocEntry_eq p
  exact ⟨x, _, _, (congrArg State.recomputeBlank timers).trans (State.recomputeBlank_eq _)⟩

theorem State.pressedTold_settling (s : State) (p : Pos) (k : KeySpan) :
    (s.pressedTold p k).seqs[p] = .settling s.now := by
  obtain ⟨x, y, z, told⟩ := s.pressedTold_eq p k
  rw [told]
  exact upd_get_same _ _ _

theorem State.pressedTold_out (s : State) (p : Pos) (k : KeySpan) :
    ∃ b, (s.pressedTold p k).outs[p] = ⟨false, true, true, b⟩ := by
  obtain ⟨b, out⟩ := ((s.pressed p k).allocEntry p).recomputeBlank_outs p
  refine ⟨b, out.trans ?_⟩
  obtain ⟨x, timers⟩ := (s.pressed p k).allocEntry_eq p
  rw [timers]
  exact congrArg (fun o : Outputs => { o with blk := b }) (State.enter_out (s.setSpan p (some k)) p (.settling s.now))

/-- An entry into key span settles at once where the relay is settled and the amplifier needs no time (R121). -/
theorem State.enterSettling_eq (s : State) (p : Pos) (k : KeySpan) : s.enterSettling p k =
    if s.settleCond p = true ∧ s.cfg.pos[p].ampSettle = 0 then (s.pressedTold p k).enter p (.keyed s.now)
    else s.pressedTold p k := by
  have settling := s.pressedTold_settling p k
  obtain ⟨x, y, z, told⟩ := s.pressedTold_eq p k
  have now : (s.pressedTold p k).now = s.now := by rw [told]
  have settle : (s.pressedTold p k).cfg.pos[p].ampSettle = s.cfg.pos[p].ampSettle := by rw [told]
  have cond : (s.pressedTold p k).settleCond p = s.settleCond p := by
    rw [told]
    rfl
  have reached : (s.pressedTold p k).settleReached p = decide (s.cfg.pos[p].ampSettle = 0) := by
    rw [State.settleReached, settling, now, settle]
    exact decide_eq_decide.mpr (by omega)
  change (s.pressedTold p k).trySettle p = _
  rw [State.trySettle, cond, reached, now]
  simp only [Bool.and_eq_true, decide_eq_true_eq, and_comm]

theorem State.enterSettling_settled (k : KeySpan) (settled : s.settleCond p = true ∧ s.cfg.pos[p].ampSettle = 0) :
    (s.enterSettling p k).seqs[p] = .keyed s.now ∧ ∃ b, (s.enterSettling p k).outs[p] = ⟨true, true, false, b⟩ := by
  rw [State.enterSettling_eq, if_pos settled, State.enter_seq, State.enter_out]
  exact ⟨rfl, _, rfl⟩

theorem State.enterSettling_unsettled (k : KeySpan) (h : ¬(s.settleCond p = true ∧ s.cfg.pos[p].ampSettle = 0)) :
    (s.enterSettling p k).seqs[p] = .settling s.now ∧ ∃ b, (s.enterSettling p k).outs[p] = ⟨false, true, true, b⟩ := by
  rw [State.enterSettling_eq, if_neg h]
  exact ⟨s.pressedTold_settling p k, s.pressedTold_out p k⟩

theorem State.enterSettling_others {q : Pos} (s : State) (k : KeySpan) (ne : q ≠ p) :
    (s.enterSettling p k).seqs[q] = s.seqs[q] := by
  have told : (s.pressedTold p k).seqs[q] = s.seqs[q] := by
    obtain ⟨x, y, z, told⟩ := s.pressedTold_eq p k
    rw [told]
    exact upd_get_ne _ _ ne.symm
  exact ((s.pressedTold p k).trySettle_others ne).1.trans told

theorem State.enterSettling_parts (s : State) (p : Pos) (k : KeySpan) :
    (s.enterSettling p k).spans = upd s.spans p (some k) ∧ (s.enterSettling p k).hold = s.hold ∧
      (s.enterSettling p k).links = s.links ∧ (s.enterSettling p k).drv = s.drv := by
  obtain ⟨x, y, z, told⟩ := s.pressedTold_eq p k
  rw [State.enterSettling_eq, told]
  split <;> exact ⟨rfl, rfl, rfl, rfl⟩

theorem State.enterSettling_blanked (s : State) (p : Pos) (k : KeySpan) : (s.enterSettling p k).Blanked :=
  State.trySettle_blanked (State.recomputeBlank_blanked _) p

end Ptt

/-- Settles O33: an accepted press is `enterSettling`, a release leads to TAIL by `enterTail`; the other cases are the
sequencer's own, each on the state in which the level is accepted. -/
theorem pttChangeIsTaken : Obligations.PttChangeIsTaken := by
  intro s p v powered change
  rw [exec_pttChange powered change]
  refine ⟨?accepted, ?denied, ?ends, fun u hu => ⟨?settling, ?keyed, ?leaves, ?ignored⟩⟩
  case accepted =>
    rintro idle rfl k accepted
    let u := s.pttTaken p true
    have taken : u.seqPtt p true = u.enterSettling p k := State.seqPtt_accepted (s := u) idle accepted
    have quiet := u.seqPtt_quiet p true
    rw [taken] at quiet
    obtain ⟨spans, hold, links, drv⟩ := u.enterSettling_parts p k
    refine ⟨_, congrArg _ taken, spans, fun settled => ?_, fun unsettled => ?_, ?_, hold, links, drv,
      (s.setLines_restKept p _).trans quiet.restKept, quiet.bands, u.enterSettling_blanked p k, quiet.flags,
      fun q ne => u.enterSettling_others k ne⟩
    · obtain ⟨seq, b, out⟩ := State.enterSettling_settled (s := u) k settled
      exact ⟨seq, by rw [out], by rw [out], by rw [out]⟩
    · obtain ⟨seq, b, out⟩ := State.enterSettling_unsettled (s := u) k unsettled
      exact ⟨seq, by rw [out], by rw [out], by rw [out]⟩
    · rw [quiet.sam, s.pttTaken_ptt p true]
      rfl
  case denied =>
    rintro idle rfl d denied
    let u := s.pttTaken p true
    have taken : u.seqPtt p true = (u.enter p .denied).notify p (.keyDenied d) :=
      State.seqPtt_denied (s := u) idle denied
    have result : u.seqPtt p true = { u.enter p .denied with links := (s.notify p (.keyDenied d)).links } :=
      taken.trans (State.notify_eq_of_links (s := s) (t := u.enter p .denied) rfl rfl rfl p _)
    have quiet := u.seqPtt_quiet p true
    rw [result] at quiet
    exact ⟨_, congrArg _ result, rfl, rfl, rfl, rfl, rfl, rfl, rfl, rfl,
      (s.setLines_restKept p _).trans quiet.restKept, quiet.bands⟩
  case ends =>
    rintro rfl tail ⟨since, seq⟩
    have keying : s.seqs[p].keying = true := by rcases seq with h | h <;> rw [h] <;> rfl
    let u := s.pttTaken p false
    have taken : u.seqPtt p false = u.enterTail p .release none := State.seqPtt_release (s := u) keying
    have quiet := u.seqPtt_quiet p false
    rw [taken] at quiet
    have left := State.enterTail_ends (s := u) tail .release none
    have released : u.sam.pos[p].ptt.accepted = .inactive := s.pttTaken_ptt p false
    obtain ⟨b, out⟩ := left.outs
    rw [State.enter_out, State.afterTail_outputs] at out
    refine ⟨_, congrArg _ taken, left.spans, ?_, by rw [out], by rw [out], by rw [out], by rw [quiet.sam, released],
      (s.setLines_restKept p _).trans quiet.restKept, quiet.bands, left.blanked, quiet.flags, fun q ne => ?_⟩
    · rw [left.seq, State.enter_seq, State.afterTail_none, s.pttTaken_rfs, released]
      rfl
    · exact (left.inSpan q).trans (u.enter_inSpan_ne _ ne)
  case settling =>
    rintro rfl tail since settling
    have taken := State.seqPtt_tail (s := s.pttTaken p false) (.inl ⟨⟨since, settling⟩, rfl⟩) tail
    rw [hu]
    exact congrArg _ taken
  case keyed =>
    rintro rfl tail since keyed
    have taken := State.seqPtt_tail (s := s.pttTaken p false) (.inr ⟨since, keyed, rfl⟩) tail
    rw [hu]
    exact congrArg _ taken
  case leaves =>
    rintro rfl denied
    rw [hu]
    exact congrArg _ (State.seqPtt_release_denied (s := s.pttTaken p false) denied)
  case ignored =>
    intro h
    rw [hu]
    exact congrArg _ (State.seqPtt_ignored (s := s.pttTaken p v) h)

end Sys2Proof.Machine
end
